-- ==== Sys2Proof/Word.lean ====
section
/-!
DEFINITION. The word types of the TD7144 and the plain data types its registers and its commands are spelled with.
-/
namespace Sys2Proof

/-- A 32-bit register, bus or instruction word. -/
abbrev Word := BitVec 32

/-- The machine's smallest addressable unit. -/
abbrev Byte := BitVec 8

/-- Sparse data by key: pairs of a key and a value, the keys strictly rising, no value equal to what an
unlisted key reads as. -/
abbrev Sparse (α : Type) := List (Nat × α)

/-- The five boundary levels of the frame hierarchy (R86): tick, carrier, loop, outer and ring cycle. -/
inductive Level where
  | T | C | L | O | H
deriving DecidableEq, Repr

/-- The hoist level of a register field (R8, R19): a boundary level, none for a field marked with a dash, the level
that PWM_CTRL.UPD selects (R105), or the level that SPLVn selects for set-point n (R203). -/
inductive Hoist where
  | none | at (lvl : Level) | byUpd | bySp (n : Nat)
deriving DecidableEq, Repr

/-- The access codes of R11. -/
inductive Access where
  | ro | rw | rws | w1c | wo
deriving DecidableEq, Repr

/-- The roles of R9, lowest first; `none` marks a field no bus writer writes. -/
inductive Role where
  | none | operator | installer | maker
deriving DecidableEq, Repr

/-- Who writes or reads a register: the kernel, the program on the cores, the host at a role, the CLE, or a DMA engine. -/
inductive Agent where
  | kernel | program | host (r : Role) | cle | dma
deriving DecidableEq, Repr

/-- Who opens a hoist set: the cores as one, the host port, the CLE, or a DMA initiator (R95). -/
inductive Initiator where
  | cores | host | cle | dma (n : Nat)
deriving DecidableEq, Repr

/-- A requester of kernel services (R325, R455): the program, the host port, a Halyard node, or the ISO 11783 client. -/
inductive Chan where
  | program | host | node (a : Nat) | iso
deriving DecidableEq, Repr

/-- The four fault classes of R4. -/
inductive FaultClass where
  | A | B | C | D
deriving DecidableEq, Repr

/-- The drive states of R7, in the encoding order of SSS_STS.DSTATE. -/
inductive DriveState where
  | off | armed | run | stopping | safe
deriving DecidableEq, Repr

/-- The safe states of R5 and none, in the Ensign encoding (R390). -/
inductive SafeState where
  | none | freewheel | ascL | ascH
deriving DecidableEq, Repr

/-- The device states of R6. -/
inductive DevState where
  | run | idle | nap | dormant | parked
deriving DecidableEq, Repr

/-- The ten power domains of R47 less AON, which is never off, in the bit order of R68. -/
inductive Domain where
  | sys | cm | ck | cle | sense | pwm | impl | hly | host
deriving DecidableEq, Repr

/-- The supplies the device monitors (R45). -/
inductive Supply where
  | vio | vdda | vddc | vdds
deriving DecidableEq, Repr

/-- The timers of a chopper phase (R252, R257). -/
inductive ChopTimer where
  | blank | toffmin | fastt | tonmax
deriving DecidableEq, Repr

/-- An acyclic Halyard frame as it arrives (R298): a response or a request, its link sequence, destination, BCAST bit,
source, TID, request or response code, HOPS, address and payload. -/
structure AcyclicFrame where
  resp : Bool
  lseq : BitVec 8
  dst : BitVec 12
  bcast : Bool
  src : BitVec 12
  tid : BitVec 8
  code : BitVec 8
  hops : BitVec 16
  addr : BitVec 32
  payload : List Byte
deriving DecidableEq, Repr

/-- What one bitstream input reads: for each rising edge of SDCK0 and of SDCK1 in turn, its samples on the 32 SYS cycles that
follow the synchronised edge, the first in bit 0; and the time of the first edge listed, in fine units after the start of
what the command is about (R126). -/
structure Stream where
  at0 : Nat := 0
  ck0 : List Word := []
  at1 : Nat := 0
  ck1 : List Word := []
deriving DecidableEq, Repr

/-- What has been seen of bitstream input `n`: for how long no edge of its clock has come, in fine units, and its last bits
(R135). -/
structure InputSeen where
  n : Fin 6
  quiet : Nat
  x : Stream
deriving DecidableEq, Repr

/-- What a port's receiver has seen before LINK_TRAIN and LINK_UP (R283): how long a signal has been there in u, comma
alignment, and the consecutive valid code groups. -/
structure LinkSeen where
  n : Fin 2
  signalU : Nat
  comma : Bool
  groups : Nat
deriving DecidableEq, Repr

/-- Why a link falls (R283): no signal for a time in u, receiver lock lost, or code-group errors at their instants in u. -/
inductive LinkCause where
  | noSignal (u : Nat) | lockLost | codeErrors (instants : List Nat)
deriving DecidableEq, Repr

/-- A port and why its link falls. -/
structure LinkLoss where
  n : Fin 2
  cause : LinkCause
deriving DecidableEq, Repr

/-- Trip source `n` and the consecutive samples of its pin that have read as the command says (R114). -/
structure PinRun where
  n : Fin 6
  samples : Nat
deriving DecidableEq, Repr

/-- A safety input at a new level: the input, and for how many samples in a row, one each µs, it has had that level (R384). -/
structure InputRun where
  n : Fin 10
  samples : Nat
deriving DecidableEq, Repr

/-- The turnarounds of one exchange of delay frames in UI (R284): the peer's, which its frame carries, and this port's own of the
last delay frame it answered, which this port's next frame carries. -/
structure Turnaround where
  peer : Nat
  own : Nat
deriving DecidableEq, Repr

/-- A boundary scan (R33): the pins whose output cells hold a 1, beside the six PWM pads, and the pins that are high from outside. -/
structure Scan where
  cells : List Nat
  high : List Nat
deriving DecidableEq, Repr

/-- A thermal model, the die's or the power stage's, at an instant in u after the last tick boundary (R430). -/
structure ModelAt where
  die : Bool
  t : Nat
deriving DecidableEq, Repr

/-- The header of a host frame without its opcode and ADDR: the session, N and HCRC (R445). -/
structure FrameTail where
  sess : Fin 8
  n : Byte
  crc : Byte
deriving DecidableEq, Repr

/-- The header of a host frame without its opcode (R445). -/
structure FrameHead where
  addr : Word
  tail : FrameTail
deriving DecidableEq, Repr

/-- A line checked at an instant, in u after the last tick boundary (R385, R389). -/
structure LineAt (k : Nat) where
  n : Fin k
  t : Nat
deriving DecidableEq, Repr

/-- What the tests of a boot find: the blocks of its self-test that fail, the slots on which the cores' verdicts differ and a
difference between the cores' Pennants (R72). -/
structure BootChecks where
  bad : BitVec 4 := 0
  differ : BitVec 2 := 0
  pennant : Bool := false
deriving DecidableEq, Repr

/-- Memory words in which an uncorrectable error has arisen, and those in which one bit has turned (R210, R322). -/
structure Upsets where
  words : List Word := []
  singles : List Word := []
deriving DecidableEq, Repr

end Sys2Proof
end

