-- ==== Sys2Proof/Syntax.lean ====
section
/-!
DEFINITION. The commands the TD7144 takes, one constructor per row of spec/opcode_table.json. An operand carries what
the outside world or the program brings with the command; what a command finds in the device it reads from the state.
An operand `t` is the instant of the command, in u of 5 ns since the last tick boundary (R86).
-/
namespace Sys2Proof

/-- The commands of the TD7144, one per row of the table of operations and events. Each docstring names the row and
the rule that governs it. -/
inductive Instr where
  /-- VAON_POR (R32). VAON falls below its power-on reset threshold; the whole device resets, SSS included, and the gate-drive group goes to state L. -/
  | vaonPor
  /-- SUPPLY_LOW (R45). A monitored supply (VIO, VDDA, VDDC or VDDS) falls below its threshold; the device reacts as that rail's row states, for VIO under R26. -/
  | supplyLow (x : Supply)
  /-- SUPPLY_HOLD (R46). Every supply a switched domain needs has stayed valid for 100 µs on WRC; that domain's reset is released. -/
  | supplyHold (x : Supply)
  /-- NRST (R31). NRST falls past its 100 ns filter; the SSS takes its safe state, then every switched domain enters reset. -/
  | nrst
  /-- SOFTWARE_RESET (R69). A guarded write of CPM_RSTREQ.KEY = 0x5A resets all switched domains for a cold boot. -/
  | softwareReset (who : Agent) (key : BitVec 8)
  /-- BOOT_WATCHDOG (R69). Kernel handover has not come within 35 ms of SYS reset release; all switched domains reset and the slot attempt is counted. -/
  | bootWatchdog
  /-- TRIAL_WATCHDOG (R80). A TRIAL slot's program has not called confirm within TRIALT of handover; the kernel requests a reset that costs the trial one attempt. -/
  | trialWatchdog
  /-- TAP_RESET (R69). TMS held high for 5 TCK resets only the JTAG TAP controller. -/
  | tapReset
  /-- COLD_BOOT (R72). After a cold reset both cores run the boot ROM through OTP check, PLL lock, SRAM clear, slot choice, image verification, parameter load and boot self-test. -/
  | coldBoot (otpBad : Bool) (trimBad : Bool) (katOk : Bool) (found : BootChecks) (us : Nat)
  /-- ARC_STARTED (R60). ARC reports started; AON moves its time base from WRC to ARC at the next 1 ms tick without losing a count. -/
  | arcStarted
  /-- XO_LOSS (R59). The WRC count of XO edges in a 1 µs window falls outside 25 ± 2; the class B XO loss fault is raised. -/
  | xoLoss
  /-- PLL_UNLOCK (R59). The MPLL or SPLL lock detector reports loss of lock and its fault is raised. -/
  | pllUnlock (hly : Bool)
  /-- CLOCK_OUT_OF_RANGE (R59). The comparison of WRC or ARC against XO exceeds its limit and the clock fault is raised. -/
  | clockOutOfRange (arc : Bool)
  /-- DOMAIN_REQUEST (R47). A write of CPM_DOMREQ.REQ requests domains on or off; a switch-off whose condition does not hold is refused with REFUSED. -/
  | domainRequest (who : Agent) (req : BitVec 6)
  /-- DOMAIN_POWER_UP (R48). A domain's rail has settled; the CPM releases isolation, then reset, then enables its clock. -/
  | domainPowerUp (d : Domain)
  /-- STOPMAX_EXPIRY (R16). No valid speed source remains for STOPMAX after the last was lost; standstill is recorded unconfirmed and SENSE may be switched off. -/
  | stopmaxExpiry
  /-- SLEEP (R51). Kernel service 0x01, called on both cores, selects a sleep depth and commits entry by a guarded write of CPM_SLEEP, or returns at once. -/
  | sleep (slotNs : Option Nat)
  /-- WAKE_PIN (R53). WAKE rises and passes its filter, waking the device from NAP, DORMANT or PARKED. -/
  | wakePin
  /-- CAN_WAKE (R37). CAN0RX or CAN1RX held dominant for two ARC periods wakes the device. -/
  | canWake (c : Fin 2)
  /-- TIMER_COMPARE (R53). The AON time counter reaches CPM_TIMEREV and wakes the device. -/
  | timerCompare
  /-- HOST_DEADLINE (R53). The AON time counter reaches CPM_HDLN and wakes the device. -/
  | hostDeadline
  /-- VIO_RETURN (R26). VIO returns while VAON is present; after 100 µs the device wakes and the safety inputs are reaccepted through their filters. -/
  | vioReturn
  /-- RING_SLOT_WAKE (R53). The next ring slot of this node falls due and wakes a ring member from NAP. -/
  | ringSlotWake
  /-- CODE_RELOAD_COMPLETE (R77). The reload of code and data above bank 0 after DORMANT completes; the kernel clears its waiting region and waiting accesses proceed. -/
  | codeReloadComplete
  /-- CLE_RELOAD_COMPLETE (R49). The kernel's reload of CLE program and data memories after CLE power-up completes, with every PEN bit 0. -/
  | cleReloadComplete
  /-- IMPL_NAP (R52). In RUN the CPM puts GDN and AXS logic into retention between events where IMPLNAP allows. -/
  | implNap (t : Nat)
  /-- HLY_NAP (R52). In RUN the CPM puts the Halyard protocol engine and DMA into retention where HLYNAP allows. -/
  | hlyNap
  /-- HLY_NAP_WAKE (R52). HLYLEAD µs before this node's next slot the CPM wakes the Halyard engine from its nap. -/
  | hlyNapWake
  /-- BOUNDARY (R91). The frame timer reaches a tick boundary and every RWS field of each level whose boundary this is swaps as one event. -/
  | boundary (vd : Stream) (s4 : Stream) (s5 : Stream) (mw : Nat)
  /-- CUT_OFF (R92). The cut-off of a level is reached, 60 ns or 400 ns before the boundary, fixing the content of that level's swap. -/
  | cutOff (l : Level)
  /-- HOI_FRAME_WRITE (R88). A write to HOI_FRAME is ignored whole with CFGERR when it breaks the frame rules, and otherwise hoisted at H. -/
  | hoiFrameWrite (who : Agent) (value : BitVec 32)
  /-- HOI_OPEN (R95). An initiator opens a set at the levels named, withholding those levels' swaps at cut-offs it precedes. -/
  | hoiOpen (ini : Initiator) (mask : BitVec 5)
  /-- HOI_COMMIT (R96). An initiator commits its open set, releasing the swap at the next boundary or, if late, the following one with LATE. -/
  | hoiCommit (ini : Initiator) (mask : BitVec 5)
  /-- FORCED_COMMIT (R97). A level has been withheld for HOI_OPENMAX boundaries; every open set at that level is committed, FORCED set and the Hoist set overrun fault raised. -/
  | forcedCommit (l : Level)
  /-- FRAME_LOCK_LOST (R100). HOLDN consecutive cycle frames are missing in HOLDOVER; the lock goes FREE and Frame lock lost is raised. -/
  | frameLockLost
  /-- REGISTER_WRITE (R11). A write to a register field with no row of its own takes effect by its access code, to the shadow for RWS fields. -/
  | registerWrite (who : Agent) (addr : Word) (value : Word)
  /-- PWM_RUN (R113). A write of PWM_CTRL.RUN asks the stage to start or stop at the next C boundary, where the start conditions are checked. -/
  | pwmRun (who : Agent) (value : Bool)
  /-- PWM_EDGE (R107). A leg's commanded state changes; the conducting switch turns off and the dead time and switch-node watch begin. -/
  | pwmEdge (t : Nat) (n : Fin 3)
  /-- COMPLEMENT_TURN_ON (R107). The dead time of an edge expires and the complementary switch turns on. -/
  | complementTurnOn (t : Nat) (n : Fin 3)
  /-- SN_CROSSING (R107). The switch-node input crosses for a watched edge; the dead time is adapted and the miss count reset. -/
  | snCrossing (t : Nat) (n : Fin 3) (high : Bool)
  /-- SN_WATCH_TIMEOUT (R107). No crossing is seen by dead time plus SNTO; adapted values fall back to DTMAX, SNMISS is set and the miss is counted. -/
  | snWatchTimeout (t : Nat) (n : Fin 3)
  /-- READBACK_CHECK (R108). CHKDLY after a switch turns on, the switch node is checked against the gate state; two consecutive mismatches raise PWM readback mismatch. -/
  | readbackCheck (t : Nat) (n : Fin 3) (isHigh : Bool) (node : Bool)
  /-- TRIP_INPUT (R115). A trip source's filtered input becomes active; the stage latches it and forces its pattern on the pads. -/
  | tripInput (t : Nat) (run : PinRun)
  /-- TRIP_ASC_TURN_ON (R116). DTMAX after the opposite switch's last turn-off, a switch that a trip ASC pattern turns on is turned on. -/
  | tripAscTurnOn (t : Nat)
  /-- TRIP_CLEAR (R117). A write of PWM_TRIPCLR clears a latched source when its filtered input is inactive, and otherwise is refused with TRIP_CLR_ACTIVE. -/
  | tripClear (who : Agent) (mask : BitVec 6)
  /-- DISCHARGE_REQUEST (R120). A guarded write of DIS_CTRL.REQ requests an active discharge, acted on in OFF or SAFE. -/
  | dischargeRequest (who : Agent)
  /-- OPENCONF (R121). A guarded write of DIS_CTRL.OPENCONF confirms the main contactor open and moves DIS from CONFIRM or PROBE to DISCH. -/
  | openconf (t : Nat) (who : Agent)
  /-- PROBE_START (R121). In CONFIRM with INFER set and V valid, the first probe or one 1,000 ms after the last starts and ADIS is driven. -/
  | probeStart (t : Nat)
  /-- PROBE_TIMEOUT (R121). PROBET passes without the required fall; DIS returns to CONFIRM with CLOSED set. -/
  | probeTimeout (t : Nat)
  /-- CONFIRM_TIMEOUT (R121). CONFT passes in CONFIRM without confirmation; DIS enters FAIL with NOCONF. -/
  | confirmTimeout (t : Nat)
  /-- HALVING_TIMEOUT (R122). THALF passes without the next halving of V; DIS enters WIND with SLOW and WINDREQ set. -/
  | halvingTimeout (t : Nat)
  /-- DISCHARGE_TIME_LIMIT (R121). TMAX elapses with V above VTGT or invalid; DIS enters FAIL with INCOMPLETE. -/
  | dischargeTimeLimit (t : Nat)
  /-- WINDOW_RESULT (R129). A leg's low-side window ends; SDX decimates it or marks SKIP and publishes the result with its stamp. -/
  | windowResult (t : Nat) (n : Fin 3) (at0 : Nat) (ck0 : List Word) (at1 : Nat) (ck1 : List Word)
  /-- SINC2_OUTPUT (R133). A fast sinc2 output is formed and OC or OV is raised after OCN + 1 consecutive outputs beyond threshold. -/
  | sinc2Output (t : Nat) (n : Fin 4) (ck0 : List Word) (ck1 : List Word)
  /-- BITSTREAM_LOST (R135). An enabled input sees no clock edge for 4 bit periods or no transition for STUCKN bits; BSLOST is set and the loss fault raised. -/
  | bitstreamLost (seen : InputSeen)
  /-- FALLBACK_RETURN (R137). After RETN valley loop cycles with two legs measured, SDX returns to the shunt path at the next L boundary. -/
  | fallbackReturn
  /-- SINGLE_PATH_TIMEOUT (R137). The single-path timer reaches FBTMAX and Single current path too long is raised. -/
  | singlePathTimeout
  /-- CAL (R145). A write of SDX_CTRL.CAL starts the offset measurement in drive OFF, or is refused with CALREF. -/
  | cal (who : Agent) (value : Bool)
  /-- CAL_COMPLETE (R145). The 65,536-bit offset measurement ends; SDX and PCV write their offsets into the shadow and CALBUSY clears. -/
  | calComplete (t : Nat) (a : Fin 65537) (b : Fin 65537) (c : Fin 65537) (ha : Nat × Nat) (hb : Nat × Nat) (hc : Nat × Nat)
  /-- HALL_AVERAGE (R138). The Hall averaging window about a tick boundary closes and PCV publishes each Hall mean with N and stamp. -/
  | hallAverage (t : Nat) (first : Fin 16) (lead : Nat) (before : List (BitVec 12)) (after : List (BitVec 12))
  /-- HALL_RANGE (R139). A Hall input reads a rail code on RANGEN consecutive samples; RANGE is set and its average marked invalid. -/
  | hallRange (codes : Fin 3 × List (BitVec 12))
  /-- FCV_SCAN_START (R140). At every SCANOn-th O boundary a modulator's scan starts, or is skipped with OVR when the last is still running. -/
  | fcvScanStart (m : Fin 2)
  /-- FCV_START (R141). A write of FCV_CTRL.START starts a scan on a modulator, ignored during a scan. -/
  | fcvStart (who : Agent) (mask : BitVec 2)
  /-- FCV_READY (R141). A powered-up modulator and its reference buffer report ready and the scan proceeds. -/
  | fcvReady (m : Fin 2)
  /-- FCV_STARTUP_TIMEOUT (R141). Ready is not reported within 2,048 WRC cycles; SUERR is set, the FCV start-up fault raised and the scan abandoned. -/
  | fcvStartupTimeout (m : Fin 2)
  /-- FCV_RESULT (R140). An FCV entry completes its conversion and its corrected result is published. -/
  | fcvResult (t : Nat) (e : Fin 16) (codes : List (BitVec 24))
  /-- RESOLVER_SAMPLE (R152). A demodulated resolver pair updates the tracking loop and the amplitude and tracking checks. -/
  | resolverSample (t : Nat) (lead : BitVec 16) (pairs : Vector (BitVec 12 × BitVec 12) 16)
  /-- ENCODER_COUNT (R155). An accepted change of A or B counts up or down with a timestamp and feeds the speed timer. -/
  | encoderCount (t : Nat) (samples : List (Bool × Bool))
  /-- INDEX_EVENT (R158). A qualified Z event sets or checks the count against IDXPOS and updates MISSRUN. -/
  | indexEvent (t : Nat) (zWas : Bool) (z : List Bool) (withIllegal : Bool) (withPreset : Bool)
  /-- WIRE_FAULT (R157). Both pins of a differential pair read equal for longer than WIRE_T; WIREFLT is set and Encoder wire fault raised. -/
  | wireFault (pair : Fin 3) (equalFor : Option Nat)
  /-- WIREFLT_CLEAR (R157). A write of 1 to a WIREFLT bit clears it only when its pair is healthy. -/
  | wirefltClear (who : Agent) (mask : BitVec 3)
  /-- PRESET (R159). A write of POS_EPRE presets the count modulo CPR, sets IDXSEEN and clears MISSRUN. -/
  | preset (who : Agent) (value : BitVec 20)
  /-- HALL_STATE_CHANGE (R160). The Hall inputs change state; POS moves the sector or sets HALLILL. -/
  | hallStateChange (t : Nat) (code : BitVec 3)
  /-- HALL_ILLEGAL_PERSIST (R160). An illegal Hall state persists for 1 µs and the Hall source becomes invalid. -/
  | hallIllegalPersist
  /-- SSI_WORD_END (R162). An SSI word has been clocked in and is checked for CRC, error bit and Gray, then accepted or failed. -/
  | ssiWordEnd (t : Nat) (low : Bool) (rises : List (BitVec 256))
  /-- SSI_RETRY (R163). TMONO after a failed attempt POS retries, or on the last failure gives up with SWGIVEUP. -/
  | ssiRetry (t : Nat)
  /-- POSITION_TIMEOUT (R163). POSTO loop cycles pass without an accepted word; the serial word is invalid, the epoch advances and the fault is raised. -/
  | positionTimeout
  /-- SENT_FRAME (R164). A SENT fast-channel frame is received, checked and its data and status nibble accepted or rejected. -/
  | sentFrame (t : Nat) (sync : Nat) (pulses : List Nat) (pause : Option Nat)
  /-- SENTSLOW_READ (R165). A read of POS_SENTSLOW returns and removes the oldest status nibble. -/
  | sentslowRead
  /-- WHEEL_COUNT (R167). An accepted wheel input edge counts with its direction and feeds the speed timer. -/
  | wheelCount (t : Nat) (n : Fin 2) (samples : List (Bool × Bool))
  /-- PPS_EDGE (R168). A PPS edge is timestamped against the tick counter and judged valid by its interval. -/
  | ppsEdge (t : Nat) (rising : Bool)
  /-- PPS_LOST (R168). No valid PPS edge for 1.5 s; PPSLOST is set and PPS lost raised. -/
  | ppsLost (t : Nat)
  /-- SPEED_TIMEOUT (R169). A speed source has had no edge for its SPD_TIMEOUT; it publishes 0 and STILL. -/
  | speedTimeout (t : Nat) (src : Fin 3)
  /-- RETPRI (R171). A write of POS_CTRL.RETPRI with the primary valid returns the angle source to the primary at the next L boundary. -/
  | retpri (who : Agent) (value : Bool)
  /-- PROGRAM_TRIGGER (R196). A CLE program triggers at its boundary or SDX publication; its ports are latched and the instance starts or waits. -/
  | programTrigger (t : Nat) (p : Fin 8)
  /-- OUTPUT_POINT (R198). An instance's output point passes without END; it is aborted as missed and CONSEC advances. -/
  | outputPoint (t : Nat) (p : Fin 8)
  /-- NOP (R186). CLE instruction doing nothing. -/
  | cleNop
  /-- END (R194). CLE instruction ending the instance and releasing its buffered output ports together. -/
  | cleEnd (t : Nat)
  /-- BR (R186). CLE forward branch when its MODE condition holds. -/
  | cleBr (mode : Fin 8) (lane : Fin 8) (target : BitVec 12)
  /-- SETP (R186). CLE instruction loading a pointer register. -/
  | cleSetp (p : Fin 4) (ofs : BitVec 14)
  /-- LD (R186). CLE stage load from data memory, with optional pointer increment. -/
  | cleLd (d : Fin 16) (p : Fin 4) (inc : Bool) (ofs : BitVec 14)
  /-- ST (R186). CLE stage store to data memory, with optional pointer increment. -/
  | cleSt (d : Fin 16) (p : Fin 4) (inc : Bool) (ofs : BitVec 14)
  /-- LDI (R186). CLE instruction loading an immediate into every lane with an exponent. -/
  | cleLdi (d : Fin 16) (e : BitVec 6) (imm : BitVec 16)
  /-- IN (R193). CLE instruction reading a latched input port into a stage. -/
  | cleIn (d : Fin 16) (port : Fin 32)
  /-- OUT (R194). CLE instruction buffering a stage for an output port until END. -/
  | cleOut (a : Fin 16) (port : Fin 32)
  /-- MOV (R186). CLE stage copy. -/
  | cleMov (d : Fin 16) (a : Fin 16)
  /-- LANE (R186). CLE instruction copying one lane into another stage's lane. -/
  | cleLane (d : Fin 16) (a : Fin 16) (n : Bool) (la : Fin 8) (lb : Fin 8)
  /-- SCL (R186). CLE instruction scaling a stage by changing its exponent. -/
  | cleScl (d : Fin 16) (a : Fin 16) (k : BitVec 6)
  /-- NRM (R183). CLE instruction normalising a stage. -/
  | cleNrm (d : Fin 16) (a : Fin 16)
  /-- CLE_ADD (R186). CLE lane-wise addition with aligned exponents. -/
  | cleAdd (d : Fin 16) (a : Fin 16) (b : Fin 16) (n : Bool)
  /-- CLE_SUB (R186). CLE lane-wise subtraction. -/
  | cleSub (d : Fin 16) (a : Fin 16) (b : Fin 16) (n : Bool)
  /-- CLE_MUL (R186). CLE lane-wise multiplication. -/
  | cleMul (d : Fin 16) (a : Fin 16) (b : Fin 16) (n : Bool)
  /-- MAC (R186). CLE lane-wise multiply-accumulate. -/
  | cleMac (d : Fin 16) (a : Fin 16) (b : Fin 16) (n : Bool)
  /-- MACB (R186). CLE multiply-accumulate by one broadcast lane. -/
  | cleMacb (d : Fin 16) (a : Fin 16) (b : Fin 16) (n : Bool) (lb : Fin 8)
  /-- SEL (R186). CLE lane selection by the condition mask. -/
  | cleSel (d : Fin 16) (a : Fin 16) (b : Fin 16) (n : Bool)
  /-- CLE_CMP (R186). CLE lane comparison writing the condition mask. -/
  | cleCmp (a : Fin 16) (b : Fin 16) (cc : Fin 8)
  /-- LIM (R186). CLE lane limiting between bounds, marking limited lanes. -/
  | cleLim (d : Fin 16) (a : Fin 16) (b : Fin 16) (c : Fin 16) (n : Bool)
  /-- RMP (R188). CLE ramp of a state toward a target by a step, seeded from the measured value when FIRST. -/
  | cleRmp (d : Fin 16) (a : Fin 16) (b : Fin 16) (c : Fin 16) (n : Bool)
  /-- PI (R189). CLE saturating PI for up to four controllers with anti-windup. -/
  | clePi (d : Fin 16) (a : Fin 16) (b : Fin 16) (c : Fin 16) (n : Bool)
  /-- TLU (R190). CLE table interpolation through a pointer. -/
  | cleTlu (d : Fin 16) (a : Fin 16) (p : Fin 4) (n : Bool) (la : Fin 8)
  /-- CLK (R187). CLE Clarke transform. -/
  | cleClk (d : Fin 16) (a : Fin 16) (n : Bool)
  /-- ICK (R187). CLE inverse Clarke transform. -/
  | cleIck (d : Fin 16) (a : Fin 16) (n : Bool)
  /-- PRK (R187). CLE Park transform. -/
  | clePrk (d : Fin 16) (a : Fin 16) (b : Fin 16) (n : Bool)
  /-- IPK (R187). CLE inverse Park transform. -/
  | cleIpk (d : Fin 16) (a : Fin 16) (b : Fin 16) (n : Bool)
  /-- SCS (R187). CLE CORDIC cosine and sine of an angle in turns. -/
  | cleScs (d : Fin 16) (a : Fin 16) (la : Fin 8)
  /-- SVM (R191). CLE space-vector duty computation with overmodulation scaling. -/
  | cleSvm (d : Fin 16) (a : Fin 16) (b : Fin 16 × Fin 8) (n : Bool)
  /-- CLE_RUN (R200). A write of CLE_CTRL.RUN lets enabled programs trigger, or stops new triggers and drops waiting instances. -/
  | cleRun (who : Agent) (value : Bool)
  /-- PROGRAM_ENABLE (R200). A guarded write of CLE_CTRL.PEN requests enables, each taking effect after a code check of the program's range. -/
  | programEnable (who : Agent) (mask : BitVec 8)
  /-- CODE_CHECK_COMPLETE (R200). The enable code check completes; the program is enabled, or PEN cleared and CLE code check raised. -/
  | codeCheckComplete (p : Fin 8)
  /-- CHKEN (R214). A write of CLE_CTRL.CHKEN turns the code and arithmetic checks on or off, a 0 ignored outside drive OFF. -/
  | chken (who : Agent) (value : Bool)
  /-- SPDATA (R203). A write of CLE_SPDATA writes the selected set-point lane's shadow, dropped with WPERR when SP7 is selected. -/
  | spdata (who : Agent) (value : BitVec 24)
  /-- SPDATAG (R203). A guarded write of CLE_SPDATAG writes an SP7 lane or exponent shadow with its lane in the same word. -/
  | spdatag (who : Agent) (value : BitVec 24) (lane : Fin 8) (exp : Bool)
  /-- CODE_CHECK_PASS (R211). A background CRC pass over an enabled program's code completes; a mismatch clears PEN and raises CLE code check. -/
  | codeCheckPass (p : Fin 8)
  /-- ARITHMETIC_CHECK (R212). Once per outer cycle the fixed arithmetic check runs in bank 4 and a CRC mismatch raises CLE arithmetic check. -/
  | arithmeticCheck (ok : Bool)
  /-- SELF_CHECK_STARVED (R211). 64 outer cycles pass without a complete code pass or arithmetic check; STARVED is set and the fault raised. -/
  | selfCheckStarved
  /-- BUNTING_START (R209). A write of CLE_BCTRL.START arms Bunting into WAIT, or is refused with REFUSED. -/
  | buntingStart (who : Agent) (value : Bool)
  /-- BUNTING_STOP (R209). A write of CLE_BCTRL.STOP ends Bunting into DONE. -/
  | buntingStop (who : Agent) (value : Bool)
  /-- FRAME_ENTRY (R353). Each core takes the kernel frame entry on line 1 at a T boundary, advancing its view and raising its frame lines. -/
  | frameEntry (m : Bool) (t : Nat) (d1 : Word) (d0 : Word)
  /-- MEAS_END (R228). The 2 ms MEAS window ends and the drive service picks CATCH, SHORT or ALIGN from the measured speed. -/
  | measEnd (t : Nat)
  /-- SHORT_TIMEOUT (R227). SHORT_TMAX passes in SHORT and the try fails. -/
  | shortTimeout (t : Nat)
  /-- ALIGN_END (R229). ALIGN_T passes and the drive service enters RAMP. -/
  | alignEnd (t : Nat)
  /-- START_TIMEOUT (R231). START_T passes in RAMP without lock; the try fails and is counted, or Sensorless start failed is raised. -/
  | startTimeout (t : Nat)
  /-- RETRY_WAIT_END (R231). RETRY_WAIT after a failed try passes and the drive service enters MEAS again. -/
  | retryWaitEnd (t : Nat)
  /-- ROTOR_LOST (R232). The third consecutive bad boundary in OBS raises Observer rotor lost and switches to SENSOR or requests the safe state. -/
  | rotorLost (t : Nat)
  /-- RECATCH_DELAY_END (R233). RECATCH_DELAY after the safe-state request passes and the drive service runs MEAS in LOST. -/
  | recatchDelayEnd (t : Nat)
  /-- CATCH_TIMEOUT (R233). CATCH_T passes without lock; the attempt or try fails and the safe state is requested again or Rotor recatch failed raised. -/
  | catchTimeout (t : Nat)
  /-- RECATCH_HOLD_END (R233). RECATCH_HOLD in OBS without a loss passes and the attempt count returns to 0. -/
  | recatchHoldEnd (t : Nat)
  /-- AXIS_EVALUATION (R247). Every µs each axis evaluates its commanded position and emits at most one microstep toward it. -/
  | axisEvaluation (t : Nat)
  /-- GO (R251). A write of AXS_nCTRL.GO runs the segment table from START, accepted only in IDLE or HOLD. -/
  | go (n : Fin 2) (who : Agent)
  /-- AXIS_STOP (R255). A write of AXS_nCTRL.STOP freezes the axis, clears POSVAL and enters STOPPED at the next µs evaluation. -/
  | axisStop (n : Fin 2) (who : Agent)
  /-- RETARGET (R249). A write of AXS_nTGT replans the axis to the new target from its present state. -/
  | retarget (n : Fin 2) (who : Agent) (target : BitVec 32)
  /-- AXIS_PRESET (R255). A write of AXS_nPOSSET sets the output and commanded positions and POSVAL. -/
  | axisPreset (n : Fin 2) (who : Agent) (value : BitVec 32)
  /-- SEGMENT_WRITE (R246). A write of AXS_nSEGW2 stores the selected segment entry, dropped with WPERR when protected. -/
  | segmentWrite (n : Fin 2) (who : Agent) (value : BitVec 32)
  /-- STANDSTILL_CURRENT (R254). The axis has stood still for STDLY and its current falls to the holding fraction. -/
  | standstillCurrent (n : Fin 2)
  /-- CHOP_CROSSING (R252). A phase's sense input crosses a chopper threshold and the bridge switches between drive and decay. -/
  | chopCrossing (t : Nat) (n : Fin 2) (isA : Bool) (code : BitVec 10)
  /-- AXIS_OVERCURRENT (R256). Sense stays above OCCODE for 1 µs outside BLANK; the bridges go off and the axis enters FAULT. -/
  | axisOvercurrent (n : Fin 2)
  /-- AXIS_OPEN_LOAD (R256). The drive phase reaches TONMAX on OPENN consecutive cycles; the bridges go off and the axis enters FAULT. -/
  | axisOpenLoad (n : Fin 2)
  /-- AXIS_DRIVER_FAULT (R242). The step/direction driver's fault input stays low for 10 µs; ENA falls and the axis enters FAULT. -/
  | axisDriverFault (n : Fin 2)
  /-- FIX_SUBMIT (R263). A write of GDN_FIXT submits a GNSS fix for handling at the next O boundary. -/
  | fixSubmit (who : Agent) (value : BitVec 32)
  /-- GNSS_ALIGN_TIMEOUT (R263). No fix is accepted within FIXTO and GNSSAL clears. -/
  | gnssAlignTimeout
  /-- SECTION_WRITE (R267). A write of GDN_SECW2 stores a section descriptor for the next H boundary. -/
  | sectionWrite (who : Agent) (value : BitVec 32)
  /-- ENDPOINT_WRITE (R269). A write of GDN_EPW2 stores a local endpoint entry for the next H boundary. -/
  | endpointWrite (who : Agent) (value : BitVec 32)
  /-- EVENT_DISPATCH (R273). A queued Guidon event falls due and acts on local endpoints, or is handed to HLY before the cut-off. -/
  | eventDispatch (t : Nat)
  /-- MASTER (R277). A guarded write of GDN_CTRL.MASTER enables section demands, or with 0 closes every section by distance. -/
  | master (who : Agent) (value : Bool)
  /-- EVFIFO_READ (R269). A read of GDN_EVFIFO returns and removes the oldest local endpoint event. -/
  | evfifoRead
  /-- SETPOINT_RECEIVED (R279). A setpoint condensed work state is received and the kernel writes GDN_GATE from it. -/
  | setpointReceived (index : Fin 16) (value : BitVec 32)
  /-- TASK_CONTROLLER_LOST (R279). No setpoint for 3 s; every gate bit is cleared and Task controller lost raised. -/
  | taskControllerLost
  /-- WORK_STATE_REPORT (R278). The client reports the actual condensed work state on change or at least every 1 s. -/
  | workStateReport
  /-- CAN_FRAME_RECEIVED (R452). A CAN frame passing a filter is stored in the lowest free receive buffer, or dropped with RXOVF. -/
  | canFrameReceived (c : Fin 2) (id : BitVec 29) (xtd : Bool) (rtr : Bool) (esi : Bool) (fdf : Bool) (brs : Bool) (dlc : BitVec 4) (data : List Byte)
  /-- TRANSMISSION_REQUEST (R452). A write of CAN_TXREQ makes buffers pending for transmission in identifier order. -/
  | transmissionRequest (c : Fin 2) (who : Agent) (mask : BitVec 24)
  /-- CAN_TRANSMIT_DONE (R452). A pending CAN buffer has been transmitted and TXDONE is set. -/
  | canTransmitDone (c : Fin 2) (k : Fin 24)
  /-- BUS_OFF_RECOVERY (R450). 128 occurrences of 11 recessive bits after bus-off restore the controller with AUTOREC set. -/
  | busOffRecovery (c : Fin 2)
  /-- LINK_DOWN (R283). A port loses signal, lock or sees ERRN code errors, or is disabled, and goes DOWN. -/
  | linkDown (loss : LinkLoss)
  /-- LINK_TRAIN (R283). An enabled DOWN port has had signal for 100 µs and enters TRAIN. -/
  | linkTrain (seen : LinkSeen)
  /-- DELAY_FRAME (R284). A delay frame is received in TRAIN and used for the link delay measurement. -/
  | delayFrame (n : Fin 2) (sent : Nat) (returned : Nat) (turnaround : Turnaround)
  /-- LINK_UP (R283). Comma alignment, valid code groups and 16 delay exchanges complete and the port goes UP with RES fixed. -/
  | linkUp (seen : LinkSeen)
  /-- TRAIN_TIMEOUT (R283). A port has spent 10 ms in TRAIN and returns to DOWN. -/
  | trainTimeout (n : Fin 2)
  /-- CYCLE_FRAME (R292). A member receives a cycle frame copy, forwards or loops it with its area written, and accepts its contents. -/
  | cycleFrame (t : Nat) (n : Fin 2) (sofUi : Nat) (frame : List Byte) (eof : Bool) (codeErr : Bool) (ovf : Bool)
  /-- RETURNING_COPY (R293). A copy returns to the owner, which strips it and takes written areas or discards it with RETLATE. -/
  | returningCopy (t : Nat) (n : Fin 2) (frame : List Byte) (eof : Bool) (codeErr : Bool)
  /-- EVENT_APPLY (R297). A received Halyard event reaches its instant and is applied through the local endpoint table. -/
  | eventApply (t : Nat)
  /-- MEMBER_LOST (R294). MISSN ring cycles pass without a good copy; the member returns to WAIT and closes its received endpoints. -/
  | memberLost
  /-- ROUND_LATE (R293). RLATEN late returns raise Halyard round late. -/
  | roundLate
  /-- SAFETY_TIMEOUT (R303). SWD ring cycles pass without an accepted envelope from a registered producer; Halyard safety timeout is raised. -/
  | safetyTimeout
  /-- ACYCLIC_FRAME (R300). An acyclic frame arrives at a hop and is acknowledged, refused, stripped or forwarded. -/
  | acyclicFrame (t : Nat) (n : Fin 2) (frame : AcyclicFrame) (crc : BitVec 32)
  /-- ACYCLIC_SEND (R299). A node starts sending a held acyclic frame once it fits before the next cycle copy. -/
  | acyclicSend (t : Nat) (n : Fin 2)
  /-- ACK (R300). An ACK releases the sender's held copy of the acyclic frame. -/
  | ack (n : Fin 2) (seq : BitVec 8)
  /-- NAK (R300). A NAK is received for an acyclic frame and counted. -/
  | nak (n : Fin 2) (seq : BitVec 8)
  /-- ACK_TIMEOUT (R300). ACKTO passes without ACK; the frame is resent, or after HRETRY a request gives up with UNREACH. -/
  | ackTimeout (t : Nat) (n : Fin 2) (seq : BitVec 8)
  /-- TRANSACTION_TIMEOUT (R301). TXTO expires before a transaction's response and it completes with TIMEOUT. -/
  | transactionTimeout (t : Nat) (tid : BitVec 8)
  /-- INTERRUPT_TAKEN (R318). A pending enabled line of sufficient priority is taken as a trap on a core. -/
  | interruptTaken (m : Bool)
  /-- PATROL_SCRUB (R322). Every 256 SYS cycles the interconnect reads and corrects one SRAM word, raising a fault on an uncorrectable error. -/
  | patrolScrub (addr : Word) (corrected : Bool) (arisen : Upsets)
  /-- IDENTITY (R326). Kernel service 0x00 returns device id, step and versions. -/
  | kIdentity (who : Chan) (sess : Fin 5) (a5 : Word) (a6 : Word) (a7 : Word) (a8 : Word)
  /-- CONFIRM (R80). Kernel service 0x02 confirms the booted TRIAL slot, makes it preferred and advances the rollback counter when ADVANCE is set. -/
  | kConfirm (who : Chan) (sess : Fin 5) (a5 : Word) (a6 : Word) (a7 : Word) (a8 : Word)
  /-- KEY_OFF_DISCHARGE (R120). Kernel service 0x03 requests an active discharge. -/
  | keyOffDischarge (who : Chan) (sess : Fin 5) (a5 : Word) (a6 : Word) (a7 : Word) (a8 : Word)
  /-- KERNEL_SOFTWARE_RESET (R326). Kernel service 0x04 writes CPM_RSTREQ for a software reset, failing while a compare fault is held. -/
  | kernelSoftwareReset (who : Chan) (sess : Fin 5) (a5 : Word) (a6 : Word) (a7 : Word) (a8 : Word)
  /-- TICKET_RESULT (R324). Kernel service 0x05 returns the result of a completed ticket. -/
  | ticketResult (who : Chan) (sess : Fin 5) (a5 : Word) (a6 : Word) (a7 : Word) (a8 : Word)
  /-- PARAMETER_READ (R326). Kernel service 0x10 returns a parameter item's value. -/
  | parameterRead (who : Chan) (sess : Fin 5) (a5 : Word) (a6 : Word) (a7 : Word) (a8 : Word)
  /-- PARAMETER_WRITE (R460). Kernel service 0x11 stages a parameter item, checked against range and envelope. -/
  | parameterWrite (who : Chan) (sess : Fin 5) (a5 : Word) (a6 : Word) (a7 : Word) (a8 : Word)
  /-- COMMIT (R461). Kernel service 0x12 commits a staged group, or confirms a pending safety block with its CRC. -/
  | kCommit (who : Chan) (sess : Fin 5) (a5 : Word) (a6 : Word) (a7 : Word) (a8 : Word)
  /-- JOURNAL_APPEND (R326). Kernel service 0x20 appends a program item to the journal. -/
  | journalAppend (who : Chan) (sess : Fin 5) (a5 : Word) (a6 : Word) (a7 : Word) (a8 : Word)
  /-- JOURNAL_READ (R326). Kernel service 0x21 returns a journal record by number. -/
  | journalRead (who : Chan) (sess : Fin 5) (a5 : Word) (a6 : Word) (a7 : Word) (a8 : Word)
  /-- BURGEE_CHALLENGE (R456). Kernel service 0x30 advances the challenge counter and returns a nonce for a role. -/
  | burgeeChallenge (who : Chan) (sess : Fin 5) (a5 : Word) (a6 : Word) (a7 : Word) (a8 : Word)
  /-- BURGEE_RESPONSE (R457). Kernel service 0x31 checks the CMAC tag, journals the attempt and opens a session on a match. -/
  | burgeeResponse (who : Chan) (sess : Fin 5) (a5 : Word) (a6 : Word) (a7 : Word) (a8 : Word)
  /-- DROP_SESSION (R455). Kernel service 0x32 drops a session. -/
  | dropSession (who : Chan) (sess : Fin 5) (a5 : Word) (a6 : Word) (a7 : Word) (a8 : Word)
  /-- SELF_TEST_REQUEST (R435). Kernel service 0x40 requests self-test of a block mask, refused in the stated cases. -/
  | selfTestRequest (who : Chan) (sess : Fin 5) (a5 : Word) (a6 : Word) (a7 : Word) (a8 : Word)
  /-- SELF_TEST_RESULT (R435). Kernel service 0x41 returns each block's self-test result. -/
  | selfTestResult (who : Chan) (sess : Fin 5) (a5 : Word) (a6 : Word) (a7 : Word) (a8 : Word)
  /-- HALYARD_REQUEST (R301). Kernel service 0x50 issues a Halyard acyclic request with a TID, or returns BUSY at 64 outstanding. -/
  | halyardRequest (who : Chan) (sess : Fin 5) (a5 : Word) (a6 : Word) (a7 : Word) (a8 : Word)
  /-- REGISTER_PRODUCER (R303). Kernel service 0x51 registers a safety envelope producer. -/
  | registerProducer (who : Chan) (sess : Fin 5) (a5 : Word) (a6 : Word) (a7 : Word) (a8 : Word)
  /-- SWITCH_SLOT_TABLE (R295). Kernel service 0x52 switches the installation to a new slot table once every node confirms it. -/
  | switchSlotTable (who : Chan) (sess : Fin 5) (a5 : Word) (a6 : Word) (a7 : Word) (a8 : Word)
  /-- ISO_CLIENT (R278). Kernel service 0x60 starts or stops the ISO 11783 client, beginning with address claim. -/
  | isoClient (who : Chan) (sess : Fin 5) (a5 : Word) (a6 : Word) (a7 : Word) (a8 : Word)
  /-- IMAGE_BLOCK_WRITE (R76). Kernel service 0x70 writes an image block into the other slot. -/
  | imageBlockWrite (who : Chan) (sess : Fin 5) (a5 : Word) (a6 : Word) (a7 : Word) (a8 : Word)
  /-- IMAGE_FINALISE (R326). Kernel service 0x71 checks the written image and sets its slot to TRIAL. -/
  | imageFinalise (who : Chan) (sess : Fin 5) (a5 : Word) (a6 : Word) (a7 : Word) (a8 : Word)
  /-- TICKET_COMPLETE (R324). A background kernel service completes and raises line 23. -/
  | ticketComplete (n : Fin 8) (confirmed : Bool)
  /-- ADD (R333). Parart integer addition. -/
  | paAdd (m : Bool) (rd : Fin 32) (ra : Fin 32) (rb : Fin 32)
  /-- SUB (R333). Parart integer subtraction. -/
  | paSub (m : Bool) (rd : Fin 32) (ra : Fin 32) (rb : Fin 32)
  /-- AND (R333). Parart bitwise and. -/
  | paAnd (m : Bool) (rd : Fin 32) (ra : Fin 32) (rb : Fin 32)
  /-- OR (R333). Parart bitwise or. -/
  | paOr (m : Bool) (rd : Fin 32) (ra : Fin 32) (rb : Fin 32)
  /-- XOR (R333). Parart bitwise exclusive or. -/
  | paXor (m : Bool) (rd : Fin 32) (ra : Fin 32) (rb : Fin 32)
  /-- SLL (R333). Parart logical left shift by register. -/
  | paSll (m : Bool) (rd : Fin 32) (ra : Fin 32) (rb : Fin 32)
  /-- SRL (R333). Parart logical right shift by register. -/
  | paSrl (m : Bool) (rd : Fin 32) (ra : Fin 32) (rb : Fin 32)
  /-- SRA (R333). Parart arithmetic right shift by register. -/
  | paSra (m : Bool) (rd : Fin 32) (ra : Fin 32) (rb : Fin 32)
  /-- SLT (R333). Parart signed set-less-than. -/
  | paSlt (m : Bool) (rd : Fin 32) (ra : Fin 32) (rb : Fin 32)
  /-- SLTU (R333). Parart unsigned set-less-than. -/
  | paSltu (m : Bool) (rd : Fin 32) (ra : Fin 32) (rb : Fin 32)
  /-- MIN (R333). Parart signed minimum. -/
  | paMin (m : Bool) (rd : Fin 32) (ra : Fin 32) (rb : Fin 32)
  /-- MAX (R333). Parart signed maximum. -/
  | paMax (m : Bool) (rd : Fin 32) (ra : Fin 32) (rb : Fin 32)
  /-- MINU (R333). Parart unsigned minimum. -/
  | paMinu (m : Bool) (rd : Fin 32) (ra : Fin 32) (rb : Fin 32)
  /-- MAXU (R333). Parart unsigned maximum. -/
  | paMaxu (m : Bool) (rd : Fin 32) (ra : Fin 32) (rb : Fin 32)
  /-- ADDS (R333). Parart saturating addition. -/
  | paAdds (m : Bool) (rd : Fin 32) (ra : Fin 32) (rb : Fin 32)
  /-- SUBS (R333). Parart saturating subtraction. -/
  | paSubs (m : Bool) (rd : Fin 32) (ra : Fin 32) (rb : Fin 32)
  /-- ADDI (R333). Parart addition of a sign-extended immediate. -/
  | paAddi (m : Bool) (rd : Fin 32) (ra : Fin 32) (imm : BitVec 16)
  /-- ANDI (R333). Parart and with a zero-extended immediate. -/
  | paAndi (m : Bool) (rd : Fin 32) (ra : Fin 32) (imm : BitVec 16)
  /-- ORI (R333). Parart or with a zero-extended immediate. -/
  | paOri (m : Bool) (rd : Fin 32) (ra : Fin 32) (imm : BitVec 16)
  /-- XORI (R333). Parart exclusive or with a zero-extended immediate. -/
  | paXori (m : Bool) (rd : Fin 32) (ra : Fin 32) (imm : BitVec 16)
  /-- SLTI (R333). Parart signed set-less-than immediate. -/
  | paSlti (m : Bool) (rd : Fin 32) (ra : Fin 32) (imm : BitVec 16)
  /-- SLTIU (R333). Parart unsigned set-less-than immediate. -/
  | paSltiu (m : Bool) (rd : Fin 32) (ra : Fin 32) (imm : BitVec 16)
  /-- LUI (R333). Parart load of an immediate into the upper halfword. -/
  | paLui (m : Bool) (rd : Fin 32) (imm : BitVec 16)
  /-- SLLI (R333). Parart logical left shift by immediate. -/
  | paSlli (m : Bool) (rd : Fin 32) (ra : Fin 32) (sh : BitVec 5)
  /-- SRLI (R333). Parart logical right shift by immediate. -/
  | paSrli (m : Bool) (rd : Fin 32) (ra : Fin 32) (sh : BitVec 5)
  /-- SRAI (R333). Parart arithmetic right shift by immediate. -/
  | paSrai (m : Bool) (rd : Fin 32) (ra : Fin 32) (sh : BitVec 5)
  /-- MUL (R333). Parart low word of a product. -/
  | paMul (m : Bool) (rd : Fin 32) (ra : Fin 32) (rb : Fin 32)
  /-- MULH (R333). Parart high word of a signed product. -/
  | paMulh (m : Bool) (rd : Fin 32) (ra : Fin 32) (rb : Fin 32)
  /-- MULHU (R333). Parart high word of an unsigned product. -/
  | paMulhu (m : Bool) (rd : Fin 32) (ra : Fin 32) (rb : Fin 32)
  /-- DIV (R333). Parart signed division with defined results for zero and overflow. -/
  | paDiv (m : Bool) (rd : Fin 32) (ra : Fin 32) (rb : Fin 32)
  /-- DIVU (R333). Parart unsigned division. -/
  | paDivu (m : Bool) (rd : Fin 32) (ra : Fin 32) (rb : Fin 32)
  /-- REM (R333). Parart signed remainder. -/
  | paRem (m : Bool) (rd : Fin 32) (ra : Fin 32) (rb : Fin 32)
  /-- REMU (R333). Parart unsigned remainder. -/
  | paRemu (m : Bool) (rd : Fin 32) (ra : Fin 32) (rb : Fin 32)
  /-- LB (R334). Parart sign-extended byte load. -/
  | paLb (m : Bool) (rd : Fin 32) (ra : Fin 32) (imm : BitVec 16)
  /-- LBU (R334). Parart zero-extended byte load. -/
  | paLbu (m : Bool) (rd : Fin 32) (ra : Fin 32) (imm : BitVec 16)
  /-- LH (R334). Parart sign-extended halfword load. -/
  | paLh (m : Bool) (rd : Fin 32) (ra : Fin 32) (imm : BitVec 16)
  /-- LHU (R334). Parart zero-extended halfword load. -/
  | paLhu (m : Bool) (rd : Fin 32) (ra : Fin 32) (imm : BitVec 16)
  /-- LW (R334). Parart word load. -/
  | paLw (m : Bool) (rd : Fin 32) (ra : Fin 32) (imm : BitVec 16)
  /-- FLW (R334). Parart word load into a floating-point register. -/
  | paFlw (m : Bool) (rd : Fin 32) (ra : Fin 32) (imm : BitVec 16)
  /-- SB (R334). Parart byte store. -/
  | paSb (m : Bool) (rs : Fin 32) (ra : Fin 32) (imm : BitVec 16)
  /-- SH (R334). Parart halfword store. -/
  | paSh (m : Bool) (rs : Fin 32) (ra : Fin 32) (imm : BitVec 16)
  /-- SW (R334). Parart word store, faulting on a guarded register. -/
  | paSw (m : Bool) (rs : Fin 32) (ra : Fin 32) (imm : BitVec 16)
  /-- FSW (R334). Parart store of a floating-point register. -/
  | paFsw (m : Bool) (rs : Fin 32) (ra : Fin 32) (imm : BitVec 16)
  /-- GSW (R356). Parart guarded word write handed to CMP, paired with the other core's and passed when they agree. -/
  | paGsw (t : Nat) (m : Bool) (rs : Fin 32) (ra : Fin 32) (imm : BitVec 16)
  /-- BEQ (R337). Parart branch when equal. -/
  | paBeq (m : Bool) (ra : Fin 32) (rb : Fin 32) (off : BitVec 16)
  /-- BNE (R337). Parart branch when not equal. -/
  | paBne (m : Bool) (ra : Fin 32) (rb : Fin 32) (off : BitVec 16)
  /-- BLT (R337). Parart signed branch when less. -/
  | paBlt (m : Bool) (ra : Fin 32) (rb : Fin 32) (off : BitVec 16)
  /-- BGE (R337). Parart signed branch when greater or equal. -/
  | paBge (m : Bool) (ra : Fin 32) (rb : Fin 32) (off : BitVec 16)
  /-- BLTU (R337). Parart unsigned branch when less. -/
  | paBltu (m : Bool) (ra : Fin 32) (rb : Fin 32) (off : BitVec 16)
  /-- BGEU (R337). Parart unsigned branch when greater or equal. -/
  | paBgeu (m : Bool) (ra : Fin 32) (rb : Fin 32) (off : BitVec 16)
  /-- JAL (R337). Parart jump and link into g31. -/
  | paJal (m : Bool) (off : BitVec 26)
  /-- JALR (R337). Parart register jump and link. -/
  | paJalr (m : Bool) (rd : Fin 32) (ra : Fin 32) (imm : BitVec 16)
  /-- KCALL (R323). Parart kernel call trapping to the kernel with the service number in g4. -/
  | paKcall (m : Bool)
  /-- TRET (R340). Parart return from a trap restoring pc and status. -/
  | paTret (m : Bool)
  /-- BRK (R338). Parart breakpoint trap, or a halt with a debug session open. -/
  | paBrk (m : Bool)
  /-- FENCE (R338). Parart wait until every transaction of the core has completed. -/
  | paFence (m : Bool)
  /-- WAIT (R338). Parart kernel instruction stopping fetch until a line is pending. -/
  | paWait (m : Bool)
  /-- GETSR (R338). Parart read of a system register. -/
  | paGetsr (m : Bool) (rd : Fin 32) (sr : BitVec 11)
  /-- PUTSR (R339). Parart write of a system register, restricted in S. -/
  | paPutsr (m : Bool) (ra : Fin 32) (sr : BitVec 11)
  /-- FADD (R341). Parart floating-point addition. -/
  | paFadd (m : Bool) (fd : Fin 32) (fa : Fin 32) (fb : Fin 32) (rm : Fin 4) (t : Bool)
  /-- FSUB (R341). Parart floating-point subtraction. -/
  | paFsub (m : Bool) (fd : Fin 32) (fa : Fin 32) (fb : Fin 32) (rm : Fin 4) (t : Bool)
  /-- FMUL (R341). Parart floating-point multiplication. -/
  | paFmul (m : Bool) (fd : Fin 32) (fa : Fin 32) (fb : Fin 32) (rm : Fin 4) (t : Bool)
  /-- FDIV (R341). Parart floating-point division. -/
  | paFdiv (m : Bool) (fd : Fin 32) (fa : Fin 32) (fb : Fin 32) (rm : Fin 4) (t : Bool)
  /-- FSQRT (R341). Parart floating-point square root. -/
  | paFsqrt (m : Bool) (fd : Fin 32) (fa : Fin 32) (rm : Fin 4) (t : Bool)
  /-- FMIN (R341). Parart floating-point minimum. -/
  | paFmin (m : Bool) (fd : Fin 32) (fa : Fin 32) (fb : Fin 32)
  /-- FMAX (R341). Parart floating-point maximum. -/
  | paFmax (m : Bool) (fd : Fin 32) (fa : Fin 32) (fb : Fin 32)
  /-- FNEG (R341). Parart floating-point sign inversion. -/
  | paFneg (m : Bool) (fd : Fin 32) (fa : Fin 32)
  /-- FABS (R341). Parart floating-point absolute value. -/
  | paFabs (m : Bool) (fd : Fin 32) (fa : Fin 32)
  /-- FEQ (R341). Parart floating-point equality test into a general register. -/
  | paFeq (m : Bool) (fd : Fin 32) (fa : Fin 32) (fb : Fin 32)
  /-- FLT (R341). Parart floating-point less-than test into a general register. -/
  | paFlt (m : Bool) (fd : Fin 32) (fa : Fin 32) (fb : Fin 32)
  /-- FLE (R341). Parart floating-point less-or-equal test into a general register. -/
  | paFle (m : Bool) (fd : Fin 32) (fa : Fin 32) (fb : Fin 32)
  /-- FCVTWS (R342). Parart conversion of a float to a saturated signed integer. -/
  | paFcvtws (m : Bool) (fd : Fin 32) (fa : Fin 32) (rm : Fin 4) (t : Bool)
  /-- FCVTSW (R341). Parart conversion of a signed integer to a float. -/
  | paFcvtsw (m : Bool) (fd : Fin 32) (fa : Fin 32) (rm : Fin 4) (t : Bool)
  /-- FMVXW (R341). Parart move of float bits to a general register. -/
  | paFmvxw (m : Bool) (fd : Fin 32) (fa : Fin 32)
  /-- FMVWX (R341). Parart move of general register bits to a float register. -/
  | paFmvwx (m : Bool) (fd : Fin 32) (fa : Fin 32)
  /-- FMA (R341). Parart fused multiply-add rounded once. -/
  | paFma (m : Bool) (fd : Fin 32) (fa : Fin 32) (fb : Fin 32) (fc : Fin 32) (rm : Fin 4) (t : Bool) (minus : Bool)
  /-- CKPT (R343). Parart checkpoint forming a Pennant digest for CMP, with optional scrubbing of unnamed registers. -/
  | paCkpt (t : Nat) (m : Bool) (z : Bool) (ga : Fin 32) (fm : Fin 32) (id : BitVec 11)
  /-- COMPARE_TIMEOUT (R357). The second post of a guarded-write or Pennant pair has not arrived within 2,000 SYS cycles and Compare timeout is raised. -/
  | compareTimeout (t : Nat)
  /-- DUPLICATED_REGION_SET (R351). A guarded write of CMP_DUPSIZE sets the duplicated region and starts the copy, or is refused with DUPERR. -/
  | duplicatedRegionSet (who : Agent) (value : BitVec 20)
  /-- COPY_COMPLETE (R351). The main-to-checker region copy completes and COPYBUSY clears. -/
  | copyComplete
  /-- OPEN (R362). A write of DBG_CTRL.OPEN opens a debug session when lock, role and drive state allow. -/
  | dbgOpen (who : Agent) (value : Bool)
  /-- HALT (R363). A write of DBG_CTRL.HALT halts the main core, then the checker at the same retired count. -/
  | dbgHalt (who : Agent)
  /-- RESUME (R363). A write of DBG_CTRL.RESUME resumes both cores. -/
  | dbgResume (who : Agent)
  /-- STEP (R363). A write of DBG_CTRL.STEP executes one instruction on both cores. -/
  | dbgStep (who : Agent)
  /-- BREAKPOINT_HIT (R363). The main core reaches an enabled DBG_BP address with a session open and halts the pair. -/
  | dbgBreakpointHit (n : Fin 4)
  /-- REGISTER_DATA (R364). A write of DBG_REGDATA applies to the selected register of both halted cores. -/
  | dbgRegisterData (who : Agent) (value : Word)
  /-- MEMORY_DATA (R364). A DBG_MEMDATA access reaches memory through the halted main core, mirrored into the checker alias. -/
  | dbgMemoryData (who : Agent) (value : Option Word)
  /-- ARM (R369). SSS_CMD ARM moves the drive from OFF to ARMED when its conditions hold, or is refused with REFCODE. -/
  | arm (who : Agent)
  /-- DISARM (R368). SSS_CMD DISARM returns the drive from ARMED to OFF. -/
  | disarm (who : Agent)
  /-- START (R227). SSS_CMD START in ARMED makes the drive service start the motor by its state machine. -/
  | start (t : Nat) (who : Agent)
  /-- STOP (R382). SSS_CMD STOP moves ARMED or RUN into STOPPING and starts SS1. -/
  | stop (t : Nat) (who : Agent)
  /-- STO (R381). SSS_CMD STO puts the drive into SAFE with the safe state selected by the SSS. -/
  | sto (who : Agent)
  /-- RELOFF (R369). SSS_CMD RELOFF releases SAFE into OFF with the SSS holding FREEWHEEL. -/
  | reloff (who : Agent)
  /-- RELARM (R371). SSS_CMD RELARM releases SAFE into ARMED, moving ASC-H to ASC-L first and keeping ASC-L until the stage starts. -/
  | relarm (t : Nat) (who : Agent)
  /-- WINDREL (R377). SSS_CMD WINDREL grants the discharge release, activating both enables and lifting the override. -/
  | windrel (who : Agent)
  /-- HEARTBEAT_LOSS (R372). A heartbeat source's timeout expires; the SSS takes its safe state on its own and sets HBLOSS. -/
  | heartbeatLoss (t : Nat) (src : Fin 3)
  /-- MS_TICK (R60). The AON 1 ms tick falls; the SSS reselects its safe state and SAF runs its tick checks. -/
  | msTick (t : Nat) (sfb0 : Bool) (sfb1 : Bool)
  /-- ASC_TURN_ON (R375). ASCDLY after entering an ASC state the SSS turns on the conducting side. -/
  | ascTurnOn (t : Nat)
  /-- TABLE_STALE (R373). Port 20 has not been released within HBTO; the SSS keeps its last threshold and sets TBLSTALE. -/
  | tableStale (t : Nat)
  /-- SS1_TIME_LIMIT (R382). SS1TMAX expires in STOPPING; the SSS takes its safe state and raises SS1 time limit. -/
  | ss1TimeLimit (t : Nat)
  /-- SS1_NOT_STARTED (R382). SS1START passes after an SS1 demand without STOPPING; the SSS takes its safe state and raises SS1 not started. -/
  | ss1NotStarted (t : Nat)
  /-- TEST_FREEWHEEL (R392). SSS_TEST code 0b001 drives the FREEWHEEL pattern for 2 µs and reads it back. -/
  | testFreewheel (pads : BitVec 6)
  /-- TEST_ASC_L (R392). SSS_TEST code 0b010 drives the ASC-L pattern for 2 µs and reads it back. -/
  | testAscL (pads : BitVec 6)
  /-- TEST_ASC_H (R392). SSS_TEST code 0b011 drives the ASC-H pattern for 2 µs and reads it back. -/
  | testAscH (pads : BitVec 6)
  /-- TEST_HEARTBEAT_WITHHOLD (R392). SSS_TEST code 0b100 withholds heartbeats to prove the SSS acts within HBTO. -/
  | testHeartbeatWithhold (acted : Option Nat)
  /-- LATENT_TEST_DUE (R393). LFT_INT hours of RUN have passed; ARM is refused until the latent tests pass at the next entry to OFF. -/
  | latentTestDue
  /-- SWALLOWTAIL_TEST (R393). The kernel's write of SAF_TP test mode holds TPO1 low to exercise the discrepancy logic without faults. -/
  | swallowtailTest (ends : Bool)
  /-- SAFETY_INPUT_CHANGE (R384). A safety input level is accepted after its filter; the pair's demand, two-hand enable and reactions follow. -/
  | safetyInputChange (t : Nat) (run : InputRun) (stamp : Nat) (level : Bool)
  /-- TEST_PULSE (R385). A contact test pulse is driven on TPO0 or TPO1 and each closed channel is checked for it. -/
  | testPulse (line : LineAt 10) (stamp : Nat) (seen : Bool)
  /-- OFF_PULSE (R389). A safety output off-pulse is driven and SFB read back at its end. -/
  | offPulse (line : LineAt 2) (sfb : Bool)
  /-- SAF_RESET (R387). A guarded write of SAF_RESET resets pairs whose cause has ended, restarting nothing. -/
  | safReset (who : Agent) (mask : BitVec 5)
  /-- OUTPUT_ON (R389). A guarded write of SAF_OUT.ON requests the safety outputs high. -/
  | outputOn (who : Agent) (value : BitVec 2)
  /-- QUEUED_REACTION (R406). The reaction in progress ends and FLT starts the oldest queued reaction of the highest class. -/
  | queuedReaction
  /-- FAULT_CLEAR (R409). A guarded write of FLT_CLR.ID clears one fault when its clearing conditions and role allow. -/
  | faultClear (who : Agent) (id : BitVec 16)
  /-- CLEAR_ALL (R410). A guarded write of FLT_CLR.ALL clears every active fault that passes its checks and sets CLRREF otherwise. -/
  | clearAll (who : Agent)
  /-- FAULT_RECORD_MOVE (R416). The kernel moves a fault record from the FLT FIFO into the journal. -/
  | faultRecordMove
  /-- THERMAL_MODEL_STALE (R426). MBOX3.SEQ has not advanced for STALEN outer cycles; STALE is set and the fault raised. -/
  | thermalModelStale
  /-- ORDERLY_STOP_END (R430). OSTOP passes in an orderly thermal stop and Thermal shutdown is raised. -/
  | orderlyStopEnd (stop : ModelAt)
  /-- RE_ENABLE (R431). A guarded write of THM_REEN re-enables models in SHUTDOWN below SD − H, or is refused with REENREF. -/
  | reEnable (who : Agent) (value : Bool)
  /-- LIFE_COUNTER_SAVE (R432). Every RUN hour the kernel saves the life counters and checks the service-life profile. -/
  | lifeCounterSave
  /-- BST_REQUEST (R435). A write of BST_REQ.MASK requests self-test of the named blocks, merged with pending requests. -/
  | bstRequest (t : Nat) (who : Agent) (mask : BitVec 17)
  /-- ADMISSION_SCAN (R438). Every 20 µs BST admits the first pending block whose conditions and power increment allow. -/
  | admissionScan (t : Nat) (mw : BitVec 12)
  /-- ADMISSION_TIMEOUT (R438). A block is not admitted within TWAIT and completes as NOTRUN. -/
  | admissionTimeout (t : Nat) (k : Fin 17)
  /-- TEST_COMPLETE (R440). A block's self-test completes; it rejoins at the next O boundary, or stays isolated with Self-test failed. -/
  | testComplete (k : Fin 17) (ok : Bool)
  /-- READ (R447). Host READ frame returns STATUS and words, or LATE with the data held. -/
  | hostRead (hcrc : Byte) (sess : Fin 8) (addr : Word) (n : Byte) (late : Bool)
  /-- WRITE (R448). Host WRITE frame writes its words after DCRC, field by field under role, returning OK, PARTIAL or DENIED. -/
  | hostWrite (hcrc : Byte) (sess : Fin 8) (addr : Word) (words : List Word) (dcrc : Byte)
  /-- STATUS (R445). Host STATUS frame returns the status block and clears READY. -/
  | hostStatus (head : FrameHead)
  /-- SERVICE (R445). Host SERVICE frame submits a kernel service and returns a ticket. -/
  | hostService (head : FrameHead) (last : Word) (num : Word) (a5 : Word) (a6 : Word) (a7 : Word) (a8 : Word) (dcrc : Byte)
  /-- RESULT (R445). Host RESULT frame returns a ticket's g4 to g6. -/
  | hostResult (tail : FrameTail) (ticket : Word)
  /-- FRAME_ABORT (R444). HSCS rises before a host frame is complete; the frame is discarded and counted. -/
  | frameAbort
  /-- SESSION_TIMEOUT (R455). A session has had no request for SESTO seconds and is dropped. -/
  | sessionTimeout (n : Fin 5)
  /-- PLL_LOCK (R419). The MPLL or SPLL lock detector reports lock regained, clearing SPLL unlock by itself and allowing the MPLL unlock clear. -/
  | pllLock (hly : Bool)
  /-- ARC_WITHIN_LIMITS (R419). ARC has stayed within limits for 1 s, so ARC out of range clears and the tick and scheduler return to ARC. -/
  | arcWithinLimits
  /-- SUPPLY_RETURN (R419). VDDA rises above its threshold plus hysteresis and VDDA low clears by itself. -/
  | supplyReturn (x : Supply)
  /-- TRIP_INPUT_INACTIVE (R114). A trip source's filtered input becomes inactive after Fn inactive samples, or OC/OV ends, which updates PWM_TRIPSTS.FILT and allows a clear. -/
  | tripInputInactive (t : Nat) (run : PinRun)
  /-- CAN_BUS_ERROR (R450). A CAN controller detects a bus error and updates its error counters, entering error passive or bus-off. -/
  | canBusError (c : Fin 2) (sending : Bool) (dominant : Bool)
  /-- PCV_OVERRUN (R64). A PCV result finds its crossing FIFO full, so PCV_STS.OVR is set, the newest sample is dropped and PCV overrun is raised. -/
  | pcvOverrun
  /-- IMPL_NAP_WAKE (R52). The CPM wakes GDN and AXS from their IMPL nap within the 2 µs wake latency ahead of a due Guidon event. -/
  | implNapWake
  /-- CHOP_PHASE_TIMEOUT (R252). A chopper timer (BLANK, TOFFMIN or FASTT) expires, ending a drive phase at BLANK, a decay at TOFFMIN, or fast decay in mixed mode. -/
  | chopPhaseTimeout (t : Nat) (n : Fin 2) (isA : Bool) (timer : ChopTimer)
  /-- BITSTREAM_RESTORED (R146). An input whose bitstream was lost shows clock edges and transitions again, and Spare bitstream lost clears by itself. -/
  | bitstreamRestored (n : Fin 6)
  /-- HOST_FRAME_ERRORS_QUIET (R466). One second passes without a host CRC failure and Host frame errors clears by itself. -/
  | hostFrameErrorsQuiet
  /-- BOUNDARY_SCAN (R33). A JTAG boundary-scan instruction such as SAMPLE or EXTEST updates or captures the boundary cells and drives pads under the EXTEST restrictions. -/
  | boundaryScan (extest : Bool) (cells : BitVec 6) (scan : Scan)
  /-- ILLEGAL_INSTRUCTION (R331). A core issues a word that is not a listed Parart instruction and raises cause 0x1, executing nothing of it. -/
  | illegalInstruction (m : Bool)
  /-- CLE_ILLEGAL_OPCODE (R192). The CLE fetches an illegal opcode, or fetches at or beyond address 4,096, and raises the program fault that aborts the instance. -/
  | cleIllegalOpcode (op : BitVec 6)
deriving DecidableEq, Repr

end Sys2Proof
end

