-- ==== Sys2Proof/Decode.lean ====
section
/-!
DEFINITION. What the operation table's bits spell: the table gives no row any bits, so no word spells a command.
-/
namespace Sys2Proof

/-- The command that a word spells by the table's bits: none, for every word (DESIGN CHOICE, assumption 10). -/
def decodeTableWord (_nbits _w : Nat) : Option Instr := none

end Sys2Proof
end

