-- ==== Sys2Proof/Machine/FaultTable.lean ====
section
/-!
DEFINITION. The fault ids of R401 and the class, derating and setting-dependence of each fault's row (R119, R146, R175,
R213, R239, R256, R280, R307, R327, R361, R397, R419, R420, R433, R443, R466).
-/
namespace Sys2Proof

/-- What a row's "Cleared by" names: an FLT clear, a condition its block reports, a reset, or nothing (R410, R411). -/
inductive ClearBy where
  | flt | auto | reset | never
deriving DecidableEq, Repr

/-- A fault's row: its id, its class, what clears it, whether the row names a derating, and the setting its class depends on. -/
structure FaultRow where
  id : Nat
  cls : FaultClass
  clearBy : ClearBy := .flt
  derate : Bool := false
  /-- Class B when SDX_CTRL.FBEN = 0 (R146). -/
  byFben : Bool := false
  /-- The class of the safety item HALY_CLASS (R395). -/
  byHaly : Bool := false
deriving DecidableEq, Repr

namespace Fid

def xoLoss : Nat := 0x0000
def mpllUnlock : Nat := 0x0001
def spllUnlock : Nat := 0x0002
def wrcRange : Nat := 0x0003
def arcRange : Nat := 0x0004
def vddaLow : Nat := 0x0005
def otpTrim : Nat := 0x0006
def paramInvalid : Nat := 0x0007
def hoistOverrun : Nat := 0x0100
def frameLockLost : Nat := 0x0101
def trip : Nat := 0x0200
def oc : Nat := 0x0201
def ov : Nat := 0x0202
def readback : Nat := 0x0203
def snLost : Nat := 0x0204
def dtInverted : Nat := 0x0205
def contactorNotOpen : Nat := 0x0206
def dischargeSlow : Nat := 0x0207
def dischargeIncomplete : Nat := 0x0208
def shuntLost : Nat := 0x0400
def kirchhoff : Nat := 0x0401
def prediction : Nat := 0x0402
def singlePath : Nat := 0x0403
def noPath : Nat := 0x0404
def hallRange : Nat := 0x0405
def dcLinkLost : Nat := 0x0406
def spareLost : Nat := 0x0407
def refCheck : Nat := 0x0408
def fcvStartup : Nat := 0x0409
def pcvOverrun : Nat := 0x040A
def resolverSignal : Nat := 0x0700
def resolverTracking : Nat := 0x0701
def wireFault : Nat := 0x0702
def encIllegal : Nat := 0x0703
def encIndex : Nat := 0x0704
def hallIllegal : Nat := 0x0705
def giveUp : Nat := 0x0706
def posTimeout : Nat := 0x0707
def crossCheck : Nat := 0x0708
def angleLost : Nat := 0x0709
def ppsLost : Nat := 0x070A
def sentSlow : Nat := 0x070B
def curLoopDeadline : Nat := 0x0800
def cleDeadline : Nat := 0x0801
def programFault : Nat := 0x0802
def cleMemory : Nat := 0x0803
def codeCheck : Nat := 0x0804
def arithCheck : Nat := 0x0805
def starved : Nat := 0x0806
def buntingOverflow : Nat := 0x0807
def axFollowing : Nat := 0x0900
def axOvercurrent : Nat := 0x0901
def axOpenLoad : Nat := 0x0902
def axDriver : Nat := 0x0903
def axSegment : Nat := 0x0904
def axUnderrun : Nat := 0x0905
def gdnPosLost : Nat := 0x0A00
def gdnOverflow : Nat := 0x0A01
def gdnConfig : Nat := 0x0A02
def gdnSlip : Nat := 0x0A03
def tcLost : Nat := 0x0A04
def hlyLinkDown : Nat := 0x0B00
def hlyIsolated : Nat := 0x0B01
def hlySlotMismatch : Nat := 0x0B02
def hlyConflict : Nat := 0x0B03
def hlyRoundLate : Nat := 0x0B04
def hlySafetyTimeout : Nat := 0x0B05
def hlyRxOverrun : Nat := 0x0B06
def hlyRetryCfg : Nat := 0x0B07
def unintendedTorque : Nat := 0x0D00
def pathsDisagree : Nat := 0x0D01
def energyBalance : Nat := 0x0D02
def heartbeatLost : Nat := 0x0D03
def ss1Ramp : Nat := 0x0D04
def ss1Limit : Nat := 0x0D05
def ss1NotStarted : Nat := 0x0D06
def inputDiscrepancy : Nat := 0x0D07
def testPulse : Nat := 0x0D08
def outputReadback : Nat := 0x0D09
def latentTest : Nat := 0x0D0A
def queueOverflow : Nat := 0x0E00
def selfCheck : Nat := 0x0E01
def thmWarning : Nat := 0x0F00
def thmHalfmast : Nat := 0x0F01
def thmShutdown : Nat := 0x0F02
def thmStale : Nat := 0x0F03
def thmImplausible : Nat := 0x0F04
def lifeExceeded : Nat := 0x0F05
def bstFailedB : Nat := 0x1000
def bstFailedC : Nat := 0x1001
def hostFrameErrors : Nat := 0x1300
def canBusOff : Nat := 0x1301
def canPassive : Nat := 0x1302
def authLockout : Nat := 0x1303
def journalFull : Nat := 0x1304
def roleKeyInvalid : Nat := 0x1305
def compareMismatch : Nat := 0x1400
def pennantMismatch : Nat := 0x1401
def compareTimeout : Nat := 0x1402
def frameEntryLate : Nat := 0x1403
def dupRefused : Nat := 0x1404
def tolRefused : Nat := 0x1405
def coreLockup : Nat := 0x1800
def sramUncorrectable : Nat := 0x1801
def flashUncorrectable : Nat := 0x1802
def accessError : Nat := 0x1803
def rotorLost : Nat := 0x1900
def recatchFailed : Nat := 0x1901
def startFailed : Nat := 0x1902
def catchMeas : Nat := 0x1903
def windNotRun : Nat := 0x1904
def fieldParams : Nat := 0x1905

end Fid

/-- Every row, in the order of the block codes. -/
def faultRows : List FaultRow :=
  [{ id := Fid.xoLoss, clearBy := .reset, cls := .B },
    { id := Fid.mpllUnlock, cls := .B },
    { id := Fid.spllUnlock, clearBy := .auto, cls := .C },
    { id := Fid.wrcRange, clearBy := .reset, cls := .B },
    { id := Fid.arcRange, clearBy := .auto, cls := .C },
    { id := Fid.vddaLow, clearBy := .auto, cls := .C },
    { id := Fid.otpTrim, clearBy := .reset, cls := .C },
    { id := Fid.paramInvalid, clearBy := .auto, cls := .B },
    { id := Fid.hoistOverrun, clearBy := .auto, cls := .C, derate := true },
    { id := Fid.frameLockLost, clearBy := .auto, cls := .C },
    { id := Fid.trip, cls := .B },
    { id := Fid.oc, cls := .B },
    { id := Fid.ov, cls := .B },
    { id := Fid.readback, cls := .B },
    { id := Fid.snLost, clearBy := .auto, cls := .C },
    { id := Fid.dtInverted, clearBy := .auto, cls := .D },
    { id := Fid.contactorNotOpen, clearBy := .auto, cls := .C },
    { id := Fid.dischargeSlow, clearBy := .auto, cls := .D },
    { id := Fid.dischargeIncomplete, cls := .B },
    { id := Fid.shuntLost, cls := .C, byFben := true }]
  ++ [{ id := Fid.kirchhoff, cls := .C, byFben := true },
    { id := Fid.prediction, clearBy := .auto, cls := .C, byFben := true },
    { id := Fid.singlePath, cls := .B },
    { id := Fid.noPath, cls := .B },
    { id := Fid.hallRange, clearBy := .auto, cls := .C },
    { id := Fid.dcLinkLost, cls := .B },
    { id := Fid.spareLost, clearBy := .auto, cls := .D },
    { id := Fid.refCheck, clearBy := .auto, cls := .C },
    { id := Fid.fcvStartup, clearBy := .auto, cls := .C },
    { id := Fid.pcvOverrun, clearBy := .auto, cls := .D },
    { id := Fid.resolverSignal, clearBy := .auto, cls := .C },
    { id := Fid.resolverTracking, clearBy := .auto, cls := .C },
    { id := Fid.wireFault, clearBy := .auto, cls := .C },
    { id := Fid.encIllegal, clearBy := .auto, cls := .C },
    { id := Fid.encIndex, clearBy := .auto, cls := .C },
    { id := Fid.hallIllegal, clearBy := .auto, cls := .C },
    { id := Fid.giveUp, clearBy := .auto, cls := .D },
    { id := Fid.posTimeout, clearBy := .auto, cls := .C },
    { id := Fid.crossCheck, clearBy := .auto, cls := .C, derate := true },
    { id := Fid.angleLost, cls := .B }]
  ++ [{ id := Fid.ppsLost, clearBy := .auto, cls := .D },
    { id := Fid.sentSlow, clearBy := .auto, cls := .D },
    { id := Fid.curLoopDeadline, cls := .B },
    { id := Fid.cleDeadline, clearBy := .auto, cls := .C, derate := true },
    { id := Fid.programFault, cls := .B },
    { id := Fid.cleMemory, cls := .B },
    { id := Fid.codeCheck, cls := .B },
    { id := Fid.arithCheck, cls := .B },
    { id := Fid.starved, clearBy := .auto, cls := .C, derate := true },
    { id := Fid.buntingOverflow, clearBy := .auto, cls := .D },
    { id := Fid.axFollowing, cls := .C },
    { id := Fid.axOvercurrent, cls := .C },
    { id := Fid.axOpenLoad, cls := .C },
    { id := Fid.axDriver, cls := .C },
    { id := Fid.axSegment, clearBy := .auto, cls := .D },
    { id := Fid.axUnderrun, clearBy := .auto, cls := .D },
    { id := Fid.gdnPosLost, clearBy := .auto, cls := .C },
    { id := Fid.gdnOverflow, clearBy := .auto, cls := .C },
    { id := Fid.gdnConfig, clearBy := .auto, cls := .D },
    { id := Fid.gdnSlip, clearBy := .auto, cls := .C, derate := true }]
  ++ [{ id := Fid.tcLost, clearBy := .auto, cls := .D },
    { id := Fid.hlyLinkDown, clearBy := .auto, cls := .C },
    { id := Fid.hlyIsolated, clearBy := .auto, cls := .C },
    { id := Fid.hlySlotMismatch, clearBy := .auto, cls := .C },
    { id := Fid.hlyConflict, cls := .C },
    { id := Fid.hlyRoundLate, clearBy := .auto, cls := .C },
    { id := Fid.hlySafetyTimeout, cls := .B, byHaly := true },
    { id := Fid.hlyRxOverrun, clearBy := .auto, cls := .D },
    { id := Fid.hlyRetryCfg, clearBy := .auto, cls := .D },
    { id := Fid.unintendedTorque, cls := .B },
    { id := Fid.pathsDisagree, cls := .B },
    { id := Fid.energyBalance, cls := .B },
    { id := Fid.heartbeatLost, cls := .B },
    { id := Fid.ss1Ramp, cls := .B },
    { id := Fid.ss1Limit, cls := .B },
    { id := Fid.ss1NotStarted, cls := .B },
    { id := Fid.inputDiscrepancy, clearBy := .auto, cls := .D },
    { id := Fid.testPulse, clearBy := .auto, cls := .D },
    { id := Fid.outputReadback, cls := .C },
    { id := Fid.latentTest, clearBy := .auto, cls := .B }]
  ++ [{ id := Fid.queueOverflow, cls := .B },
    { id := Fid.selfCheck, clearBy := .reset, cls := .B },
    { id := Fid.thmWarning, clearBy := .auto, cls := .D },
    { id := Fid.thmHalfmast, clearBy := .auto, cls := .C },
    { id := Fid.thmShutdown, clearBy := .auto, cls := .B },
    { id := Fid.thmStale, cls := .B },
    { id := Fid.thmImplausible, cls := .C, derate := true },
    { id := Fid.lifeExceeded, clearBy := .never, cls := .D },
    { id := Fid.bstFailedB, clearBy := .auto, cls := .B },
    { id := Fid.bstFailedC, clearBy := .auto, cls := .C, derate := true },
    { id := Fid.hostFrameErrors, clearBy := .auto, cls := .D },
    { id := Fid.canBusOff, clearBy := .auto, cls := .C, derate := true },
    { id := Fid.canPassive, clearBy := .auto, cls := .D },
    { id := Fid.authLockout, clearBy := .auto, cls := .D },
    { id := Fid.journalFull, clearBy := .auto, cls := .D },
    { id := Fid.roleKeyInvalid, clearBy := .auto, cls := .C },
    { id := Fid.compareMismatch, clearBy := .reset, cls := .B },
    { id := Fid.pennantMismatch, clearBy := .reset, cls := .B },
    { id := Fid.compareTimeout, clearBy := .reset, cls := .B },
    { id := Fid.frameEntryLate, clearBy := .reset, cls := .B }]
  ++ [{ id := Fid.dupRefused, clearBy := .auto, cls := .D },
    { id := Fid.tolRefused, clearBy := .auto, cls := .D },
    { id := Fid.coreLockup, clearBy := .reset, cls := .B },
    { id := Fid.sramUncorrectable, cls := .B },
    { id := Fid.flashUncorrectable, cls := .C },
    { id := Fid.accessError, clearBy := .auto, cls := .D },
    { id := Fid.rotorLost, clearBy := .auto, cls := .D },
    { id := Fid.recatchFailed, cls := .B },
    { id := Fid.startFailed, cls := .B },
    { id := Fid.catchMeas, clearBy := .auto, cls := .D },
    { id := Fid.windNotRun, clearBy := .auto, cls := .D },
    { id := Fid.fieldParams, clearBy := .auto, cls := .D }]

/-- The row of an id, when the id is in use. -/
def faultRow? (id : Nat) : Option FaultRow := faultRows.find? (fun r => r.id == id)

/-- The severity order of the classes, A first. -/
def FaultClass.rank : FaultClass → Nat
  | .A => 3 | .B => 2 | .C => 1 | .D => 0

/-- The class encoding of R421. -/
def FaultClass.code : FaultClass → Nat
  | .A => 0 | .B => 1 | .C => 2 | .D => 3

/-- The class of a code of R421. -/
def faultClassOf (n : Nat) : FaultClass :=
  if n = 0 then .A else if n = 1 then .B else if n = 2 then .C else .D

/-- The more severe of two classes. -/
def FaultClass.worse (a b : FaultClass) : FaultClass := if a.rank < b.rank then b else a

end Sys2Proof
end

