-- ==== Sys2Proof/Config.lean ====
section
/-!
DEFINITION. What the spec leaves open, as constants without a body: nothing in Lean can evaluate them or prove a value
of them, so a claim about the machine holds whatever they are. Each is named in the assumption log.
-/
namespace Sys2Proof

/-- Free values: the n-th value the machine uses where the spec states no result (DESIGN CHOICE, assumption 12). -/
opaque Config.freeValue : Nat → Nat

/-- The error of a CLE instruction that R187, R190 and R191 bound without fixing it: of the opcode, the operands and
the lane, in LSBs of the result; the instruction keeps it within its bound (DESIGN CHOICE, assumption 15). -/
opaque Config.cleError : List Int → Int

/-- The reference factor of the OTP curvature table (R144), or of the default trims (R84), at a temperature in 1/64 °C, in units
of 2⁻²⁴ (DESIGN CHOICE, assumption 16). -/
opaque Config.kref : Bool → Int → Int

/-- Which of +0 and −0 FMIN and FMAX give of the two (R341), `true` for the first operand (DESIGN CHOICE, assumption 17). -/
opaque Config.zeroPick : Nat → Nat → Bool

/-- The resolver's tracking loop (R152), whose equations the spec does not give: output 0 is the new angle, 1 the new
velocity in 1/65,536 turn per second, 2 the tracking error, of the angle and velocity before, the demodulated pair, the
bandwidth setting and the time since the last sample (DESIGN CHOICE, assumption 19). -/
opaque Config.resolverTrack : Nat → List Int → Int

/-- The phase delay that POS measures itself when RPAUTO = 1 (R151), in 2⁻³² of a period, of the samples of SIN and COS; the
spec does not say how it is measured (DESIGN CHOICE, assumption 19). -/
opaque Config.resolverDelay : List Int → List Int → Nat

/-- What a setting outside the range that its register states acts as, where the spec says nothing: of the field's key
and the value written; the use keeps it within the range (DESIGN CHOICE, assumption 20). -/
opaque Config.outOfRange : Nat → Nat → Nat

/-- The place of the kernel's trap table in ROM, in units of 1,024 bytes (R315) (DESIGN CHOICE, assumption 21). -/
opaque Config.kernelTable : Nat

/-- The words of the boot and kernel ROM (R311), whose contents the spec does not give (DESIGN CHOICE, assumption 21). -/
opaque Config.rom : Nat → Nat

/-- The words of the flash that holds the kernel's stores (R311), by address and what the stores hold: the spec gives their
records, not the layout (DESIGN CHOICE, assumption 50). -/
opaque Config.storeWord : Nat → List Nat → Nat

/-- Where the kernel keeps its own data in the kernel area, and how many bytes: the checker's copy follows them (R351) (DESIGN
CHOICE, assumption 189). -/
opaque Config.kernelData : Nat × Nat

/-- The silicon step of this device, A1 or A0 (R1) (DESIGN CHOICE, assumption 22). -/
opaque Config.stepA1 : Bool

/-- The step code: 0 for A0, 1 for A1 (R74). -/
def Config.step : Nat := if Config.stepA1 then 1 else 0

/-- The kernel's version (R326) (DESIGN CHOICE, assumption 22). -/
opaque Config.kernelVersion : Nat

/-- Whether a word is within the range of a parameter item whose range the spec does not state (R459, R460)
(DESIGN CHOICE, assumption 23). -/
opaque Config.itemOk : Nat → Nat → Bool

/-- The item of the envelope group that holds the low (0) or the high (1) bound of an item (R459) (DESIGN CHOICE, assumption 24). -/
opaque Config.envelopeItem : Nat → Nat → Nat

/-- The register field that an item of the Guidon or the Halyard group sets, by `Fld.key` (R459) (DESIGN CHOICE, assumption 24). -/
opaque Config.itemField : Nat → Nat

/-- The value of an item that has never been written, where the spec gives no default (DESIGN CHOICE, assumption 23). -/
opaque Config.itemDefault : Nat → Nat

/-- The reason that a FAIL carries in g5 (R324): of the service number and what failed (DESIGN CHOICE, assumption 25). -/
opaque Config.failReason : Nat → Nat → Nat

/-- How g5 and g6 return what is longer than they are, a journal record or a nonce: word 0 or 1 of the bytes as a number
(R326, R456) (DESIGN CHOICE, assumption 26). -/
opaque Config.resultWord : Nat → Nat → Nat

end Sys2Proof
end

