-- ==== Sys2Proof/Machine/Real.lean ====
section
/-!
DEFINITION. Functions on reals that a rule uses without a stated rounding (R187, R207, R248, R378, R422), in fixed point: sine and
cosine to 2⁻³⁰, powers of two and logarithms to about 2⁻⁴⁰ (DEDUCED, assumption 13).
-/
namespace Sys2Proof.Machine

/-! Sine and cosine. -/

/-- The series of the sine from a term on, in units of 2⁻⁶⁰; `k` is the power of the term and `x2` the square of the angle. -/
def sineTerms (x2 : Nat) : Nat → Int → Nat → Int
  | 0, _, _ => 0
  | n + 1, t, k => t + sineTerms x2 n (-(t * x2 / 1152921504606846976) / ((k + 1) * (k + 2) : Nat)) (k + 2)

/-- The sine of an angle of the first quarter turn, in 2⁻³² turns, in units of 2⁻³⁰. -/
def sineQuarter (t : Nat) : Int :=
  let x := t * 7244019458077122842 / 4294967296
  (sineTerms (x * x / 1152921504606846976) 14 x 1 + 536870912) / 1073741824

/-- The sine of an angle in 2⁻³² turns, in units of 2⁻³⁰. -/
def sine (t : Nat) : Int :=
  let r := t % 1073741824
  match t / 1073741824 % 4 with
  | 0 => sineQuarter r
  | 1 => sineQuarter (1073741824 - r)
  | 2 => -sineQuarter r
  | _ => -sineQuarter (1073741824 - r)

def cosine (t : Nat) : Int := sine (t + 1073741824)

/-! Powers and logarithms. -/

/-- The series of the exponential from a term on, in units of 2⁻⁶⁰. -/
def expTerms (x : Nat) : Nat → Nat → Nat → Nat
  | 0, _, _ => 0
  | n + 1, t, k => t + expTerms x n (t * x / 1152921504606846976 / k) (k + 1)

/-- 2^f of a fraction in units of 2⁻⁴⁰, in units of 2⁻⁶⁰. -/
def powTwo (f : Nat) : Nat := expTerms (f * 799144290325165979 / 1099511627776) 24 1152921504606846976 1

/-- The next `n` binary digits of the logarithm of a number in [1, 2), in units of 2⁻⁶⁰, after those in `acc`. -/
def logBits : Nat → Nat → Nat → Nat
  | 0, _, acc => acc
  | n + 1, x, acc =>
    let y := x * x / 1152921504606846976
    if 2305843009213693952 ≤ y then logBits n (y / 2) (2 * acc + 1) else logBits n y (2 * acc)

/-- The logarithm to base 2 of a positive number, in units of 2⁻⁴⁰. -/
def logTwo (m : Nat) : Int :=
  let k := Nat.log2 m
  1099511627776 * k + logBits 40 (m * 1152921504606846976 / 2 ^ k) 0

/-- e^(−n/d) in units of 2⁻³², for a positive d. -/
def expNeg (n d : Nat) : Nat :=
  let q := n * 1663314137230540311 / d / 1048576
  let k := (q + 1099511627775) / 1099511627776
  if 64 < k then 0 else powTwo (1099511627776 * k - q) / 2 ^ (k + 28)

end Sys2Proof.Machine
end

