-- ==== Sys2Proof/Machine/Regs.lean ====
section
/-!
DEFINITION. The register fields of the register tables of spec/ (R68, R85, R102, R123, R124, R147-R149, R176-R179,
R214, R215, R257, R258, R281, R308, R366, R367, R399, R400, R421, R434, R443, R467-R469): for each field its
address, its place in the word, its access code, its hoist level, its role and its reset value. A register table's
index n is the argument of the field's definition. Reserved bits have no entry and read 0 (R10).
-/
namespace Sys2Proof

/-- One register field: the byte address of its word, its lowest bit and width, its access code (R11), the level it
is hoisted at (R8), the least role that writes it (R9), its value at reset, whether its register is guarded (R346),
and whether only the kernel writes it (R398, R403, R271, R51). -/
structure Fld where
  addr : Nat
  lo : Nat
  width : Nat
  acc : Access
  lvl : Hoist
  role : Role
  reset : Nat
  guarded : Bool := false
  kernelOnly : Bool := false
deriving DecidableEq, Repr

/-- The key a field's value is held under: one key per field, rising with the address and the bit. -/
def Fld.key (f : Fld) : Nat := f.addr * 32 + f.lo

namespace Reg


/-! The CPM registers. -/

def CPM_STATE_LASTSLP : Fld := ⟨0x40000000, 0, 3, .ro, .none, .none, 0, false, false⟩
def CPM_STATE_DOMON : Fld := ⟨0x40000000, 3, 9, .ro, .none, .none, 263, false, false⟩
def CPM_STATE_REFUSED : Fld := ⟨0x40000000, 12, 1, .w1c, .none, .operator, 0, false, false⟩
def CPM_STATE_XSTALE : Fld := ⟨0x40000000, 13, 1, .ro, .none, .none, 0, false, false⟩
def CPM_STATE_UNCONF : Fld := ⟨0x40000000, 14, 1, .w1c, .none, .operator, 0, false, false⟩
def CPM_DOMREQ_REQFIX : Fld := ⟨0x40000004, 0, 3, .ro, .none, .none, 7, false, false⟩
def CPM_DOMREQ_REQ : Fld := ⟨0x40000004, 3, 6, .rw, .none, .installer, 32, false, false⟩
def CPM_SLEEP_GO : Fld := ⟨0x40000008, 0, 1, .wo, .none, .none, 0, true, true⟩
def CPM_SLEEPCFG_SLPCAP : Fld := ⟨0x40000010, 0, 3, .rws, .at .O, .operator, 4, false, false⟩
def CPM_SLEEPCFG_STOPMAX : Fld := ⟨0x40000010, 3, 5, .rws, .at .O, .installer, 6, false, false⟩
def CPM_SLEEPCFG_MARGIN : Fld := ⟨0x40000010, 8, 8, .rws, .at .O, .installer, 10, false, false⟩
def CPM_SLEEPCFG_IMPLNAP : Fld := ⟨0x40000010, 16, 1, .rws, .at .O, .installer, 0, false, false⟩
def CPM_SLEEPCFG_HLYNAP : Fld := ⟨0x40000010, 17, 1, .rws, .at .O, .installer, 0, false, false⟩
def CPM_SLEEPCFG_HLYLEAD : Fld := ⟨0x40000010, 24, 8, .rws, .at .O, .installer, 4, false, false⟩
def CPM_TIMEREV_TIMEREV : Fld := ⟨0x40000014, 0, 32, .rw, .none, .operator, 0, false, false⟩
def CPM_HDLN_HDLN : Fld := ⟨0x40000018, 0, 32, .rw, .none, .operator, 0, false, false⟩
def CPM_AONTIME_AONTIME : Fld := ⟨0x4000001c, 0, 32, .ro, .none, .none, 0, false, false⟩
def CPM_WAKESRC_WAKEPIN : Fld := ⟨0x40000020, 0, 1, .w1c, .none, .operator, 0, false, false⟩
def CPM_WAKESRC_SFI : Fld := ⟨0x40000020, 1, 1, .w1c, .none, .operator, 0, false, false⟩
def CPM_WAKESRC_CANRX : Fld := ⟨0x40000020, 2, 2, .w1c, .none, .operator, 0, false, false⟩
def CPM_WAKESRC_TIMER : Fld := ⟨0x40000020, 4, 1, .w1c, .none, .operator, 0, false, false⟩
def CPM_WAKESRC_HOSTDL : Fld := ⟨0x40000020, 5, 1, .w1c, .none, .operator, 0, false, false⟩
def CPM_WAKESRC_VIORET : Fld := ⟨0x40000020, 6, 1, .w1c, .none, .operator, 0, false, false⟩
def CPM_WAKESRC_SLOT : Fld := ⟨0x40000020, 7, 1, .w1c, .none, .operator, 0, false, false⟩
def CPM_CLKSTAT_CLKOK : Fld := ⟨0x40000024, 0, 5, .ro, .none, .none, 8, false, false⟩
def CPM_XSTALE_STALE : Fld := ⟨0x40000028, 0, 12, .ro, .none, .none, 0, false, false⟩
def CPM_RSTCAUSE_SUPPLY : Fld := ⟨0x40000030, 0, 1, .w1c, .none, .operator, 0, false, false⟩
def CPM_RSTCAUSE_NRSTPIN : Fld := ⟨0x40000030, 1, 1, .w1c, .none, .operator, 0, false, false⟩
def CPM_RSTCAUSE_SOFT : Fld := ⟨0x40000030, 2, 1, .w1c, .none, .operator, 0, false, false⟩
def CPM_RSTCAUSE_BWDOG : Fld := ⟨0x40000030, 3, 1, .w1c, .none, .operator, 0, false, false⟩
def CPM_RSTCAUSE_FLTRST : Fld := ⟨0x40000030, 4, 1, .w1c, .none, .operator, 0, false, false⟩
def CPM_RSTCAUSE_PARKWAKE : Fld := ⟨0x40000030, 5, 1, .w1c, .none, .operator, 0, false, false⟩
def CPM_RSTCAUSE_DORMWAKE : Fld := ⟨0x40000030, 6, 1, .w1c, .none, .operator, 0, false, false⟩
def CPM_RSTCAUSE_POR : Fld := ⟨0x40000030, 7, 1, .ro, .none, .none, 1, false, false⟩
def CPM_RSTCAUSE_TRIALWD : Fld := ⟨0x40000030, 8, 1, .w1c, .none, .operator, 0, false, false⟩
def CPM_RSTREQ_KEY : Fld := ⟨0x40000034, 0, 8, .wo, .none, .installer, 0, true, false⟩
def CPM_BOOTSTAT_SLOT : Fld := ⟨0x40000038, 0, 1, .ro, .none, .none, 0, false, false⟩
def CPM_BOOTSTAT_TRIAL : Fld := ⟨0x40000038, 1, 1, .ro, .none, .none, 0, false, false⟩
def CPM_BOOTSTAT_RECOV : Fld := ⟨0x40000038, 2, 1, .ro, .none, .none, 0, false, false⟩
def CPM_BOOTSTAT_PARBAD : Fld := ⟨0x40000038, 3, 1, .ro, .none, .none, 0, false, false⟩
def CPM_BOOTSTAT_ROLLBACK : Fld := ⟨0x40000038, 4, 6, .ro, .none, .none, 0, false, false⟩
def CPM_BOOTSTAT_SECVER : Fld := ⟨0x40000038, 10, 6, .ro, .none, .none, 0, false, false⟩
def CPM_BOOTSTAT_BOOTUS : Fld := ⟨0x40000038, 16, 16, .ro, .none, .none, 0, false, false⟩
def CPM_BOOTOK_OK : Fld := ⟨0x4000003c, 0, 1, .wo, .none, .none, 0, true, true⟩

/-- Every field of the CPM registers. -/
def cpmTable : List Fld :=
  [CPM_STATE_LASTSLP, CPM_STATE_DOMON, CPM_STATE_REFUSED, CPM_STATE_XSTALE, CPM_STATE_UNCONF, CPM_DOMREQ_REQFIX, CPM_DOMREQ_REQ, CPM_SLEEP_GO, CPM_SLEEPCFG_SLPCAP, CPM_SLEEPCFG_STOPMAX, CPM_SLEEPCFG_MARGIN, CPM_SLEEPCFG_IMPLNAP, CPM_SLEEPCFG_HLYNAP, CPM_SLEEPCFG_HLYLEAD, CPM_TIMEREV_TIMEREV, CPM_HDLN_HDLN, CPM_AONTIME_AONTIME, CPM_WAKESRC_WAKEPIN, CPM_WAKESRC_SFI, CPM_WAKESRC_CANRX, CPM_WAKESRC_TIMER, CPM_WAKESRC_HOSTDL, CPM_WAKESRC_VIORET, CPM_WAKESRC_SLOT] ++
  [CPM_CLKSTAT_CLKOK, CPM_XSTALE_STALE, CPM_RSTCAUSE_SUPPLY, CPM_RSTCAUSE_NRSTPIN, CPM_RSTCAUSE_SOFT, CPM_RSTCAUSE_BWDOG, CPM_RSTCAUSE_FLTRST, CPM_RSTCAUSE_PARKWAKE, CPM_RSTCAUSE_DORMWAKE, CPM_RSTCAUSE_POR, CPM_RSTCAUSE_TRIALWD, CPM_RSTREQ_KEY, CPM_BOOTSTAT_SLOT, CPM_BOOTSTAT_TRIAL, CPM_BOOTSTAT_RECOV, CPM_BOOTSTAT_PARBAD, CPM_BOOTSTAT_ROLLBACK, CPM_BOOTSTAT_SECVER, CPM_BOOTSTAT_BOOTUS, CPM_BOOTOK_OK]

/-! The HOI registers. -/

def HOI_FRAME_CARP : Fld := ⟨0x40001000, 0, 17, .rws, .at .H, .installer, 20000, false, false⟩
def HOI_FRAME_LOOPT : Fld := ⟨0x40001000, 17, 1, .rws, .at .H, .installer, 0, false, false⟩
def HOI_FRAME_OUTN : Fld := ⟨0x40001000, 18, 6, .rws, .at .H, .installer, 9, false, false⟩
def HOI_FRAME_RINGN : Fld := ⟨0x40001000, 24, 8, .rws, .at .H, .installer, 1, false, false⟩
def HOI_STS_LOCK : Fld := ⟨0x40001004, 0, 2, .ro, .none, .none, 0, false, false⟩
def HOI_STS_CFGERR : Fld := ⟨0x40001004, 2, 1, .w1c, .none, .operator, 0, false, false⟩
def HOI_STS_FORCED : Fld := ⟨0x40001004, 3, 1, .w1c, .none, .operator, 0, false, false⟩
def HOI_STS_LATE : Fld := ⟨0x40001004, 4, 1, .w1c, .none, .operator, 0, false, false⟩
def HOI_STS_OPENL : Fld := ⟨0x40001004, 5, 5, .ro, .none, .none, 0, false, false⟩
def HOI_OPEN_LEVEL : Fld := ⟨0x40001008, 0, 5, .wo, .none, .operator, 0, false, false⟩
def HOI_COMMIT_LEVEL : Fld := ⟨0x4000100c, 0, 5, .wo, .none, .operator, 0, false, false⟩
def HOI_OPENMAX_TMAX : Fld := ⟨0x40001010, 0, 6, .rws, .at .H, .installer, 8, false, false⟩
def HOI_OPENMAX_CMAX : Fld := ⟨0x40001010, 6, 6, .rws, .at .H, .installer, 4, false, false⟩
def HOI_OPENMAX_LMAX : Fld := ⟨0x40001010, 12, 6, .rws, .at .H, .installer, 4, false, false⟩
def HOI_OPENMAX_OMAX : Fld := ⟨0x40001010, 18, 6, .rws, .at .H, .installer, 2, false, false⟩
def HOI_OPENMAX_HMAX : Fld := ⟨0x40001010, 24, 6, .rws, .at .H, .installer, 1, false, false⟩
def HOI_DISC_ENA : Fld := ⟨0x40001014, 0, 1, .rws, .at .H, .installer, 0, false, false⟩
def HOI_DISC_LOCKWIN : Fld := ⟨0x40001014, 8, 8, .rws, .at .H, .installer, 50, false, false⟩
def HOI_DISC_HOLDN : Fld := ⟨0x40001014, 16, 8, .rws, .at .H, .installer, 8, false, false⟩
def HOI_TICKCNT_TICKCNT : Fld := ⟨0x40001018, 0, 32, .ro, .none, .none, 0, false, false⟩
def HOI_POS_HALF : Fld := ⟨0x4000101c, 0, 1, .ro, .none, .none, 0, false, false⟩
def HOI_POS_LOOPIDX : Fld := ⟨0x4000101c, 1, 6, .ro, .none, .none, 0, false, false⟩
def HOI_POS_OUTIDX : Fld := ⟨0x4000101c, 7, 8, .ro, .none, .none, 0, false, false⟩
def HOI_PHERR_ERR : Fld := ⟨0x40001020, 0, 16, .ro, .none, .none, 0, false, false⟩
def HOI_PHERR_ADJ : Fld := ⟨0x40001020, 16, 16, .ro, .none, .none, 0, false, false⟩
def HOI_IRQEN_BND : Fld := ⟨0x40001024, 0, 5, .rws, .at .O, .operator, 0, false, false⟩
def HOI_IRQEN_LOCKCHG : Fld := ⟨0x40001024, 5, 1, .rws, .at .O, .operator, 0, false, false⟩
def HOI_IRQ_BND : Fld := ⟨0x40001028, 0, 5, .w1c, .none, .operator, 0, false, false⟩
def HOI_IRQ_LOCKCHG : Fld := ⟨0x40001028, 5, 1, .w1c, .none, .operator, 0, false, false⟩

/-- Every field of the HOI registers. -/
def hoiTable : List Fld :=
  [HOI_FRAME_CARP, HOI_FRAME_LOOPT, HOI_FRAME_OUTN, HOI_FRAME_RINGN, HOI_STS_LOCK, HOI_STS_CFGERR, HOI_STS_FORCED, HOI_STS_LATE, HOI_STS_OPENL, HOI_OPEN_LEVEL, HOI_COMMIT_LEVEL, HOI_OPENMAX_TMAX, HOI_OPENMAX_CMAX, HOI_OPENMAX_LMAX, HOI_OPENMAX_OMAX, HOI_OPENMAX_HMAX, HOI_DISC_ENA, HOI_DISC_LOCKWIN, HOI_DISC_HOLDN, HOI_TICKCNT_TICKCNT, HOI_POS_HALF, HOI_POS_LOOPIDX, HOI_POS_OUTIDX, HOI_PHERR_ERR] ++
  [HOI_PHERR_ADJ, HOI_IRQEN_BND, HOI_IRQEN_LOCKCHG, HOI_IRQ_BND, HOI_IRQ_LOCKCHG]

/-! The PWM registers. -/

def PWM_CTRL_RUN : Fld := ⟨0x40002000, 0, 1, .rw, .none, .maker, 0, false, false⟩
def PWM_CTRL_UPD : Fld := ⟨0x40002000, 1, 1, .rws, .at .H, .installer, 0, false, false⟩
def PWM_CTRL_ADAPT : Fld := ⟨0x40002000, 2, 1, .rws, .at .C, .installer, 0, false, false⟩
def PWM_CTRL_BSRE : Fld := ⟨0x40002000, 3, 1, .rws, .at .C, .installer, 1, false, false⟩
def PWM_STS_STATE : Fld := ⟨0x40002004, 0, 2, .ro, .none, .none, 0, false, false⟩
def PWM_STS_SSSOVR : Fld := ⟨0x40002004, 2, 1, .ro, .none, .none, 0, false, false⟩
def PWM_STS_TRIP_CLR_ACTIVE : Fld := ⟨0x40002004, 3, 1, .w1c, .none, .operator, 0, false, false⟩
def PWM_STS_SSSSTOP : Fld := ⟨0x40002004, 4, 1, .w1c, .none, .operator, 0, false, false⟩
def PWM_STS_REFUSED : Fld := ⟨0x40002004, 5, 1, .w1c, .none, .operator, 0, false, false⟩
def PWM_STS_DTCFG : Fld := ⟨0x40002004, 6, 1, .ro, .none, .none, 0, false, false⟩
def PWM_STS_SNMISS : Fld := ⟨0x40002004, 7, 3, .w1c, .none, .operator, 0, false, false⟩
def PWM_STS_RBERR : Fld := ⟨0x40002004, 10, 3, .w1c, .none, .operator, 0, false, false⟩
def PWM_STS_BSR : Fld := ⟨0x40002004, 13, 3, .w1c, .none, .operator, 0, false, false⟩
def PWM_STS_ABS : Fld := ⟨0x40002004, 16, 3, .w1c, .none, .operator, 0, false, false⟩
def PWM_CMP_CMP (n : Nat) : Fld := ⟨0x40002010 + 0x4 * n, 0, 21, .rws, .byUpd, .maker, 2097151, false, false⟩
def PWM_DTMIN_DTMIN : Fld := ⟨0x40002020, 0, 16, .rws, .at .C, .maker, 1600, false, false⟩
def PWM_DTMAX_DTMAX : Fld := ⟨0x40002024, 0, 16, .rws, .at .C, .maker, 9600, false, false⟩
def PWM_DTMARG_DTMARG : Fld := ⟨0x40002028, 0, 16, .rws, .at .C, .installer, 320, false, false⟩
def PWM_DTMARG_SNCOMP : Fld := ⟨0x40002028, 16, 16, .rws, .at .C, .installer, 0, false, false⟩
def PWM_MINP_MINP : Fld := ⟨0x4000202c, 0, 14, .rws, .at .C, .installer, 640, false, false⟩
def PWM_BSR_BSRN : Fld := ⟨0x40002030, 0, 8, .rws, .at .C, .installer, 16, false, false⟩
def PWM_BSR_BSRW : Fld := ⟨0x40002030, 8, 16, .rws, .at .C, .installer, 1920, false, false⟩
def PWM_SNCFG_SNTO : Fld := ⟨0x40002034, 0, 8, .rws, .at .C, .installer, 40, false, false⟩
def PWM_SNCFG_MISSN : Fld := ⟨0x40002034, 8, 4, .rws, .at .C, .installer, 8, false, false⟩
def PWM_SNCFG_VMIN : Fld := ⟨0x40002034, 12, 10, .rws, .at .C, .installer, 50, false, false⟩
def PWM_SNCFG_CHKDLY : Fld := ⟨0x40002034, 22, 8, .rws, .at .C, .installer, 60, false, false⟩
def PWM_SNCFG_SNEN : Fld := ⟨0x40002034, 30, 1, .rws, .at .H, .maker, 1, false, false⟩
def PWM_ISIGN_SIGN : Fld := ⟨0x40002038, 0, 6, .rws, .byUpd, .maker, 0, false, false⟩
def PWM_TRIPFILT_F0_F3 : Fld := ⟨0x40002040, 0, 32, .rws, .at .H, .maker, 168430090, false, false⟩
def PWM_TRIPPAT_PAT : Fld := ⟨0x40002044, 0, 12, .rws, .at .H, .maker, 2389, false, false⟩
def PWM_TRIPCLR_CLR : Fld := ⟨0x40002048, 0, 6, .wo, .none, .installer, 0, false, false⟩
def PWM_TRIPSTS_LATCH : Fld := ⟨0x4000204c, 0, 6, .ro, .none, .none, 0, false, false⟩
def PWM_TRIPSTS_FILT : Fld := ⟨0x4000204c, 6, 6, .ro, .none, .none, 0, false, false⟩
def PWM_TRIPSTS_FIRST : Fld := ⟨0x4000204c, 12, 3, .ro, .none, .none, 7, false, false⟩
def PWM_ABSCNT_CNT : Fld := ⟨0x40002050, 0, 30, .rw, .none, .operator, 0, false, false⟩
def PWM_DTA_HLP (n : Nat) : Fld := ⟨0x40002060 + 0x4 * n, 0, 16, .ro, .none, .none, 9600, false, false⟩
def PWM_DTA_LHN (n : Nat) : Fld := ⟨0x40002060 + 0x4 * n, 16, 16, .ro, .none, .none, 9600, false, false⟩
def PWM_START_PRECHW : Fld := ⟨0x40002070, 0, 16, .rws, .at .O, .installer, 0, false, false⟩
def PWM_START_ENDLY : Fld := ⟨0x40002070, 16, 8, .rws, .at .O, .installer, 20, false, false⟩
def PWM_IRQEN_TRIP : Fld := ⟨0x40002078, 0, 6, .rws, .at .O, .operator, 63, false, false⟩
def PWM_IRQEN_EVT : Fld := ⟨0x40002078, 6, 5, .rws, .at .O, .operator, 0, false, false⟩
def PWM_IRQ_TRIP : Fld := ⟨0x4000207c, 0, 6, .w1c, .none, .operator, 0, false, false⟩
def PWM_IRQ_EVT : Fld := ⟨0x4000207c, 6, 5, .w1c, .none, .operator, 0, false, false⟩

/-- Every field of the PWM registers. -/
def pwmTable : List Fld :=
  [PWM_CTRL_RUN, PWM_CTRL_UPD, PWM_CTRL_ADAPT, PWM_CTRL_BSRE, PWM_STS_STATE, PWM_STS_SSSOVR, PWM_STS_TRIP_CLR_ACTIVE, PWM_STS_SSSSTOP, PWM_STS_REFUSED, PWM_STS_DTCFG, PWM_STS_SNMISS, PWM_STS_RBERR, PWM_STS_BSR, PWM_STS_ABS, PWM_DTMIN_DTMIN, PWM_DTMAX_DTMAX, PWM_DTMARG_DTMARG, PWM_DTMARG_SNCOMP, PWM_MINP_MINP, PWM_BSR_BSRN, PWM_BSR_BSRW, PWM_SNCFG_SNTO, PWM_SNCFG_MISSN, PWM_SNCFG_VMIN] ++
  [PWM_SNCFG_CHKDLY, PWM_SNCFG_SNEN, PWM_ISIGN_SIGN, PWM_TRIPFILT_F0_F3, PWM_TRIPPAT_PAT, PWM_TRIPCLR_CLR, PWM_TRIPSTS_LATCH, PWM_TRIPSTS_FILT, PWM_TRIPSTS_FIRST, PWM_ABSCNT_CNT, PWM_START_PRECHW, PWM_START_ENDLY, PWM_IRQEN_TRIP, PWM_IRQEN_EVT, PWM_IRQ_TRIP, PWM_IRQ_EVT] ++
  ((List.range 3).map PWM_CMP_CMP) ++
  ((List.range 3).map PWM_DTA_HLP) ++
  ((List.range 3).map PWM_DTA_LHN)

/-! The DIS registers. -/

def DIS_CTRL_REQ : Fld := ⟨0x40003000, 0, 1, .wo, .none, .operator, 0, true, false⟩
def DIS_CTRL_OPENCONF : Fld := ⟨0x40003000, 1, 1, .wo, .none, .operator, 0, true, false⟩
def DIS_CFG_INFER : Fld := ⟨0x40003004, 0, 1, .rws, .at .O, .maker, 1, false, false⟩
def DIS_CFG_PROBEFR : Fld := ⟨0x40003004, 8, 8, .rws, .at .O, .maker, 4, false, false⟩
def DIS_CFG_PROBET : Fld := ⟨0x40003004, 16, 8, .rws, .at .O, .maker, 20, false, false⟩
def DIS_CFG_CONFT : Fld := ⟨0x40003004, 24, 8, .rws, .at .O, .maker, 10, false, false⟩
def DIS_LIM_VTGT : Fld := ⟨0x40003008, 0, 10, .rws, .at .O, .maker, 60, false, false⟩
def DIS_LIM_TMAX : Fld := ⟨0x40003008, 10, 16, .rws, .at .O, .maker, 2000, false, false⟩
def DIS_THALF_THALF : Fld := ⟨0x4000300c, 0, 16, .rws, .at .O, .maker, 400, false, false⟩
def DIS_STS_STATE : Fld := ⟨0x40003010, 0, 3, .ro, .none, .none, 0, false, false⟩
def DIS_STS_CLOSED : Fld := ⟨0x40003010, 3, 1, .w1c, .none, .operator, 0, false, false⟩
def DIS_STS_SLOW : Fld := ⟨0x40003010, 4, 1, .w1c, .none, .operator, 0, false, false⟩
def DIS_STS_WINDREQ : Fld := ⟨0x40003010, 5, 1, .ro, .none, .none, 0, false, false⟩
def DIS_STS_INCOMPLETE : Fld := ⟨0x40003010, 6, 1, .w1c, .none, .operator, 0, false, false⟩
def DIS_STS_NOCONF : Fld := ⟨0x40003010, 7, 1, .w1c, .none, .operator, 0, false, false⟩
def DIS_MEAS_V0 : Fld := ⟨0x40003014, 0, 10, .ro, .none, .none, 0, false, false⟩
def DIS_MEAS_ELAPSED : Fld := ⟨0x40003014, 10, 16, .ro, .none, .none, 0, false, false⟩
def DIS_MEAS_HALVINGS : Fld := ⟨0x40003014, 26, 4, .ro, .none, .none, 0, false, false⟩

/-- Every field of the DIS registers. -/
def disTable : List Fld :=
  [DIS_CTRL_REQ, DIS_CTRL_OPENCONF, DIS_CFG_INFER, DIS_CFG_PROBEFR, DIS_CFG_PROBET, DIS_CFG_CONFT, DIS_LIM_VTGT, DIS_LIM_TMAX, DIS_THALF_THALF, DIS_STS_STATE, DIS_STS_CLOSED, DIS_STS_SLOW, DIS_STS_WINDREQ, DIS_STS_INCOMPLETE, DIS_STS_NOCONF, DIS_MEAS_V0, DIS_MEAS_ELAPSED, DIS_MEAS_HALVINGS]

/-! The SDX registers. -/

def SDX_CTRL_EN : Fld := ⟨0x40004000, 0, 6, .rws, .at .O, .installer, 0, false, false⟩
def SDX_CTRL_CKEN0 : Fld := ⟨0x40004000, 6, 1, .rws, .at .O, .installer, 0, false, false⟩
def SDX_CTRL_CKEN1 : Fld := ⟨0x40004000, 7, 1, .rws, .at .O, .installer, 0, false, false⟩
def SDX_CTRL_FBEN : Fld := ⟨0x40004000, 8, 1, .rws, .at .O, .maker, 1, false, false⟩
def SDX_CTRL_CAL : Fld := ⟨0x40004000, 9, 1, .wo, .none, .installer, 0, false, false⟩
def SDX_STS_BSLOST : Fld := ⟨0x40004004, 0, 6, .w1c, .none, .operator, 0, false, false⟩
def SDX_STS_KRESERR : Fld := ⟨0x40004004, 6, 1, .w1c, .none, .operator, 0, false, false⟩
def SDX_STS_FBACT : Fld := ⟨0x40004004, 7, 1, .ro, .none, .none, 0, false, false⟩
def SDX_STS_CALBUSY : Fld := ⟨0x40004004, 8, 1, .ro, .none, .none, 0, false, false⟩
def SDX_STS_CALREF : Fld := ⟨0x40004004, 9, 1, .w1c, .none, .operator, 0, false, false⟩
def SDX_STS_SAT : Fld := ⟨0x40004004, 10, 6, .w1c, .none, .operator, 0, false, false⟩
def SDX_SKIPCNT_CNT : Fld := ⟨0x40004008, 0, 30, .rw, .none, .operator, 0, false, false⟩
def SDX_IN_CAPDLY (n : Nat) : Fld := ⟨0x40004010 + 0x4 * n, 0, 5, .rws, .at .O, .installer, 4, false, false⟩
def SDX_IN_CKSEL (n : Nat) : Fld := ⟨0x40004010 + 0x4 * n, 5, 1, .rws, .at .O, .installer, ([0, 0, 0, 1, 1, 1].getD n 0), false, false⟩
def SDX_WIN_SETTLE : Fld := ⟨0x40004030, 0, 8, .rws, .at .C, .installer, 40, false, false⟩
def SDX_WIN_WMIN : Fld := ⟨0x40004030, 8, 8, .rws, .at .C, .installer, 120, false, false⟩
def SDX_WIN_KMAX : Fld := ⟨0x40004030, 16, 8, .rws, .at .C, .installer, 64, false, false⟩
def SDX_CONT_VOSR : Fld := ⟨0x40004034, 0, 2, .rws, .at .O, .installer, 1, false, false⟩
def SDX_CONT_SOSR : Fld := ⟨0x40004034, 2, 2, .rws, .at .O, .installer, 1, false, false⟩
def SDX_OC_OCTH : Fld := ⟨0x40004038, 0, 5, .rws, .at .O, .maker, 28, false, false⟩
def SDX_OC_OCN : Fld := ⟨0x40004038, 5, 2, .rws, .at .O, .maker, 0, false, false⟩
def SDX_OC_OVTH : Fld := ⟨0x40004038, 8, 5, .rws, .at .O, .maker, 28, false, false⟩
def SDX_CHK_STUCKN : Fld := ⟨0x4000403c, 0, 8, .rws, .at .O, .maker, 64, false, false⟩
def SDX_CHK_KRES : Fld := ⟨0x4000403c, 8, 16, .rws, .at .O, .maker, 20000, false, false⟩
def SDX_CHK_KRESN : Fld := ⟨0x4000403c, 24, 4, .rws, .at .O, .maker, 3, false, false⟩
def SDX_FB_FBTMAX : Fld := ⟨0x40004040, 0, 16, .rws, .at .O, .maker, 6000, false, false⟩
def SDX_FB_RETN : Fld := ⟨0x40004040, 16, 8, .rws, .at .O, .maker, 64, false, false⟩
def SDX_OFS_OFS (n : Nat) : Fld := ⟨0x40004060 + 0x8 * n, 0, 24, .rws, .at .O, .installer, 0, false, false⟩
def SDX_GAIN_GAIN (n : Nat) : Fld := ⟨0x40004064 + 0x8 * n, 0, 24, .rws, .at .O, .installer, 0, false, false⟩
def SDX_RES_VALUE (n : Nat) : Fld := ⟨0x40004090 + 0x4 * n, 0, 24, .ro, .none, .none, 0, false, false⟩
def SDX_RES_VALID (n : Nat) : Fld := ⟨0x40004090 + 0x4 * n, 24, 1, .ro, .none, .none, 0, false, false⟩
def SDX_RES_SKIP (n : Nat) : Fld := ⟨0x40004090 + 0x4 * n, 25, 1, .ro, .none, .none, 0, false, false⟩
def SDX_RES_FB (n : Nat) : Fld := ⟨0x40004090 + 0x4 * n, 26, 1, .ro, .none, .none, 0, false, false⟩
def SDX_RES_SAT (n : Nat) : Fld := ⟨0x40004090 + 0x4 * n, 27, 1, .ro, .none, .none, 0, false, false⟩
def SDX_RES_STALE (n : Nat) : Fld := ⟨0x40004090 + 0x4 * n, 28, 1, .ro, .none, .none, 0, false, false⟩
def SDX_STAMP_TICK : Fld := ⟨0x400040a8, 0, 32, .ro, .none, .none, 0, false, false⟩

/-- Every field of the SDX registers. -/
def sdxTable : List Fld :=
  [SDX_CTRL_EN, SDX_CTRL_CKEN0, SDX_CTRL_CKEN1, SDX_CTRL_FBEN, SDX_CTRL_CAL, SDX_STS_BSLOST, SDX_STS_KRESERR, SDX_STS_FBACT, SDX_STS_CALBUSY, SDX_STS_CALREF, SDX_STS_SAT, SDX_SKIPCNT_CNT, SDX_WIN_SETTLE, SDX_WIN_WMIN, SDX_WIN_KMAX, SDX_CONT_VOSR, SDX_CONT_SOSR, SDX_OC_OCTH, SDX_OC_OCN, SDX_OC_OVTH, SDX_CHK_STUCKN, SDX_CHK_KRES, SDX_CHK_KRESN, SDX_FB_FBTMAX] ++
  [SDX_FB_RETN, SDX_STAMP_TICK] ++
  ((List.range 6).map SDX_IN_CAPDLY) ++
  ((List.range 6).map SDX_IN_CKSEL) ++
  ((List.range 6).map SDX_OFS_OFS) ++
  ((List.range 6).map SDX_GAIN_GAIN) ++
  ((List.range 6).map SDX_RES_VALUE) ++
  ((List.range 6).map SDX_RES_VALID) ++
  ((List.range 6).map SDX_RES_SKIP) ++
  ((List.range 6).map SDX_RES_FB) ++
  ((List.range 6).map SDX_RES_SAT) ++
  ((List.range 6).map SDX_RES_STALE)

/-! The PCV registers. -/

def PCV_CTRL_EN : Fld := ⟨0x40006000, 0, 1, .rws, .at .O, .installer, 0, false, false⟩
def PCV_CTRL_SEQLEN : Fld := ⟨0x40006000, 1, 4, .rws, .at .O, .installer, 2, false, false⟩
def PCV_SEQ0_SLOT0_7 : Fld := ⟨0x40006004, 0, 32, .rws, .at .O, .installer, 528, false, false⟩
def PCV_SEQ1_SLOT8_15 : Fld := ⟨0x40006008, 0, 32, .rws, .at .O, .installer, 0, false, false⟩
def PCV_ROUTE_FCV : Fld := ⟨0x4000600c, 0, 16, .rws, .at .O, .installer, 65528, false, false⟩
def PCV_HALL_HA : Fld := ⟨0x40006010, 0, 4, .rws, .at .O, .maker, 0, false, false⟩
def PCV_HALL_HB : Fld := ⟨0x40006010, 4, 4, .rws, .at .O, .maker, 1, false, false⟩
def PCV_HALL_HC : Fld := ⟨0x40006010, 8, 4, .rws, .at .O, .maker, 2, false, false⟩
def PCV_HALL_HWIN : Fld := ⟨0x40006010, 12, 8, .rws, .at .O, .maker, 40, false, false⟩
def PCV_STS_OVR : Fld := ⟨0x40006014, 0, 1, .w1c, .none, .operator, 0, false, false⟩
def PCV_STS_RANGE : Fld := ⟨0x40006014, 1, 3, .w1c, .none, .operator, 0, false, false⟩
def PCV_STS_ROUTEERR : Fld := ⟨0x40006014, 4, 1, .w1c, .none, .operator, 0, false, false⟩
def PCV_RANGE_RANGEN : Fld := ⟨0x40006018, 0, 8, .rws, .at .O, .maker, 16, false, false⟩
def PCV_OFS_OFS (n : Nat) : Fld := ⟨0x40006040 + 0x8 * n, 0, 24, .rws, .at .O, .installer, 0, false, false⟩
def PCV_GAIN_GAIN (n : Nat) : Fld := ⟨0x40006044 + 0x8 * n, 0, 24, .rws, .at .O, .installer, 0, false, false⟩
def PCV_RES_VALUE (n : Nat) : Fld := ⟨0x400060c0 + 0x4 * n, 0, 24, .ro, .none, .none, 0, false, false⟩
def PCV_RES_VALID (n : Nat) : Fld := ⟨0x400060c0 + 0x4 * n, 24, 1, .ro, .none, .none, 0, false, false⟩
def PCV_RES_SAT (n : Nat) : Fld := ⟨0x400060c0 + 0x4 * n, 25, 1, .ro, .none, .none, 0, false, false⟩
def PCV_RES_STALE (n : Nat) : Fld := ⟨0x400060c0 + 0x4 * n, 26, 1, .ro, .none, .none, 0, false, false⟩
def PCV_HALLR_VALUE (n : Nat) : Fld := ⟨0x40006100 + 0x4 * n, 0, 24, .ro, .none, .none, 0, false, false⟩
def PCV_HALLR_VALID (n : Nat) : Fld := ⟨0x40006100 + 0x4 * n, 24, 1, .ro, .none, .none, 0, false, false⟩
def PCV_HALLR_RANGE (n : Nat) : Fld := ⟨0x40006100 + 0x4 * n, 25, 1, .ro, .none, .none, 0, false, false⟩
def PCV_HALLR_N (n : Nat) : Fld := ⟨0x40006100 + 0x4 * n, 26, 6, .ro, .none, .none, 0, false, false⟩
def PCV_HSTAMP_TICK : Fld := ⟨0x4000610c, 0, 32, .ro, .none, .none, 0, false, false⟩

/-- Every field of the PCV registers. -/
def pcvTable : List Fld :=
  [PCV_CTRL_EN, PCV_CTRL_SEQLEN, PCV_SEQ0_SLOT0_7, PCV_SEQ1_SLOT8_15, PCV_ROUTE_FCV, PCV_HALL_HA, PCV_HALL_HB, PCV_HALL_HC, PCV_HALL_HWIN, PCV_STS_OVR, PCV_STS_RANGE, PCV_STS_ROUTEERR, PCV_RANGE_RANGEN, PCV_HSTAMP_TICK] ++
  ((List.range 16).map PCV_OFS_OFS) ++
  ((List.range 16).map PCV_GAIN_GAIN) ++
  ((List.range 16).map PCV_RES_VALUE) ++
  ((List.range 16).map PCV_RES_VALID) ++
  ((List.range 16).map PCV_RES_SAT) ++
  ((List.range 16).map PCV_RES_STALE) ++
  ((List.range 3).map PCV_HALLR_VALUE) ++
  ((List.range 3).map PCV_HALLR_VALID) ++
  ((List.range 3).map PCV_HALLR_RANGE) ++
  ((List.range 3).map PCV_HALLR_N)

/-! The FCV registers. -/

def FCV_CTRL_EN : Fld := ⟨0x40005000, 0, 2, .rws, .at .O, .installer, 0, false, false⟩
def FCV_CTRL_CONT : Fld := ⟨0x40005000, 2, 2, .rws, .at .O, .installer, 0, false, false⟩
def FCV_CTRL_PDOWN : Fld := ⟨0x40005000, 4, 2, .rws, .at .O, .installer, 3, false, false⟩
def FCV_CTRL_START : Fld := ⟨0x40005000, 6, 2, .wo, .none, .operator, 0, false, false⟩
def FCV_SCAN_SCANO0 : Fld := ⟨0x40005004, 0, 10, .rws, .at .O, .installer, 0, false, false⟩
def FCV_SCAN_NENT0 : Fld := ⟨0x40005004, 10, 3, .rws, .at .O, .installer, 0, false, false⟩
def FCV_SCAN_SCANO1 : Fld := ⟨0x40005004, 16, 10, .rws, .at .O, .installer, 0, false, false⟩
def FCV_SCAN_NENT1 : Fld := ⟨0x40005004, 26, 3, .rws, .at .O, .installer, 0, false, false⟩
def FCV_STS_BUSY : Fld := ⟨0x40005008, 0, 2, .ro, .none, .none, 0, false, false⟩
def FCV_STS_OVR : Fld := ⟨0x40005008, 2, 2, .w1c, .none, .operator, 0, false, false⟩
def FCV_STS_SUERR : Fld := ⟨0x40005008, 4, 2, .w1c, .none, .operator, 0, false, false⟩
def FCV_STS_ROUTEERR : Fld := ⟨0x40005008, 6, 1, .w1c, .none, .operator, 0, false, false⟩
def FCV_ENT_INPUT (n : Nat) : Fld := ⟨0x40005020 + 0x4 * n, 0, 5, .rws, .at .O, .installer, 19, false, false⟩
def FCV_ENT_OSR (n : Nat) : Fld := ⟨0x40005020 + 0x4 * n, 5, 2, .rws, .at .O, .installer, 2, false, false⟩
def FCV_ENT_AVG (n : Nat) : Fld := ⟨0x40005020 + 0x4 * n, 7, 3, .rws, .at .O, .installer, 0, false, false⟩
def FCV_OFS_OFS (n : Nat) : Fld := ⟨0x40005060 + 0x8 * n, 0, 24, .rws, .at .O, .installer, 0, false, false⟩
def FCV_GAIN_GAIN (n : Nat) : Fld := ⟨0x40005064 + 0x8 * n, 0, 24, .rws, .at .O, .installer, 0, false, false⟩
def FCV_RES_VALUE (n : Nat) : Fld := ⟨0x40005100 + 0x4 * n, 0, 24, .ro, .none, .none, 0, false, false⟩
def FCV_RES_VALID (n : Nat) : Fld := ⟨0x40005100 + 0x4 * n, 24, 1, .ro, .none, .none, 0, false, false⟩
def FCV_RES_SAT (n : Nat) : Fld := ⟨0x40005100 + 0x4 * n, 25, 1, .ro, .none, .none, 0, false, false⟩
def FCV_RES_SEQ (n : Nat) : Fld := ⟨0x40005100 + 0x4 * n, 26, 6, .ro, .none, .none, 0, false, false⟩

/-- Every field of the FCV registers. -/
def fcvTable : List Fld :=
  [FCV_CTRL_EN, FCV_CTRL_CONT, FCV_CTRL_PDOWN, FCV_CTRL_START, FCV_SCAN_SCANO0, FCV_SCAN_NENT0, FCV_SCAN_SCANO1, FCV_SCAN_NENT1, FCV_STS_BUSY, FCV_STS_OVR, FCV_STS_SUERR, FCV_STS_ROUTEERR] ++
  ((List.range 16).map FCV_ENT_INPUT) ++
  ((List.range 16).map FCV_ENT_OSR) ++
  ((List.range 16).map FCV_ENT_AVG) ++
  ((List.range 20).map FCV_OFS_OFS) ++
  ((List.range 20).map FCV_GAIN_GAIN) ++
  ((List.range 16).map FCV_RES_VALUE) ++
  ((List.range 16).map FCV_RES_VALID) ++
  ((List.range 16).map FCV_RES_SAT) ++
  ((List.range 16).map FCV_RES_SEQ)

/-! The POS registers. -/

def POS_CTRL_EN : Fld := ⟨0x40007000, 0, 6, .rws, .at .O, .installer, 0, false, false⟩
def POS_CTRL_PRI : Fld := ⟨0x40007000, 6, 2, .rws, .at .O, .installer, 0, false, false⟩
def POS_CTRL_SEC : Fld := ⟨0x40007000, 8, 2, .rws, .at .O, .installer, 0, false, false⟩
def POS_CTRL_FAILOVER : Fld := ⟨0x40007000, 10, 1, .rws, .at .O, .maker, 1, false, false⟩
def POS_CTRL_SENSLESS : Fld := ⟨0x40007000, 11, 1, .rws, .at .O, .maker, 0, false, false⟩
def POS_CTRL_RETPRI : Fld := ⟨0x40007000, 12, 1, .wo, .none, .installer, 0, false, false⟩
def POS_STS_VAL : Fld := ⟨0x40007004, 0, 6, .ro, .none, .none, 0, false, false⟩
def POS_STS_INUSE : Fld := ⟨0x40007004, 6, 2, .ro, .none, .none, 0, false, false⟩
def POS_STS_RSLOS : Fld := ⟨0x40007004, 8, 1, .w1c, .none, .operator, 0, false, false⟩
def POS_STS_RSTRK : Fld := ⟨0x40007004, 9, 1, .w1c, .none, .operator, 0, false, false⟩
def POS_STS_WIREFLT : Fld := ⟨0x40007004, 10, 3, .w1c, .none, .operator, 0, false, false⟩
def POS_STS_ILL_ERR : Fld := ⟨0x40007004, 13, 1, .w1c, .none, .operator, 0, false, false⟩
def POS_STS_IDX_FLT : Fld := ⟨0x40007004, 14, 1, .w1c, .none, .operator, 0, false, false⟩
def POS_STS_IDXSEEN : Fld := ⟨0x40007004, 15, 1, .ro, .none, .none, 0, false, false⟩
def POS_STS_HALLILL : Fld := ⟨0x40007004, 16, 1, .w1c, .none, .operator, 0, false, false⟩
def POS_STS_SWGIVEUP : Fld := ⟨0x40007004, 17, 1, .w1c, .none, .operator, 0, false, false⟩
def POS_STS_SWTO : Fld := ⟨0x40007004, 18, 1, .w1c, .none, .operator, 0, false, false⟩
def POS_STS_XERR : Fld := ⟨0x40007004, 19, 1, .w1c, .none, .operator, 0, false, false⟩
def POS_STS_PPSLOST : Fld := ⟨0x40007004, 20, 1, .w1c, .none, .operator, 0, false, false⟩
def POS_STS_SWCFGERR : Fld := ⟨0x40007004, 21, 1, .w1c, .none, .operator, 0, false, false⟩
def POS_STS_SLOWOVF : Fld := ⟨0x40007004, 22, 1, .w1c, .none, .operator, 0, false, false⟩
def POS_MAP_RATIO (n : Nat) : Fld := ⟨0x40007008 + 0x4 * n, 0, 5, .rws, .at .O, .installer, 1, false, false⟩
def POS_MAP_OFFSET (n : Nat) : Fld := ⟨0x40007008 + 0x4 * n, 16, 16, .rws, .at .O, .installer, 0, false, false⟩
def POS_RCFG_EXCF : Fld := ⟨0x40007020, 0, 7, .rws, .at .H, .installer, 40, false, false⟩
def POS_RCFG_EXCAMP : Fld := ⟨0x40007020, 7, 8, .rws, .at .O, .installer, 200, false, false⟩
def POS_RCFG_RBW : Fld := ⟨0x40007020, 15, 4, .rws, .at .O, .installer, 8, false, false⟩
def POS_RCFG_RPHASE : Fld := ⟨0x40007020, 19, 8, .rws, .at .O, .installer, 0, false, false⟩
def POS_RCFG_RPAUTO : Fld := ⟨0x40007020, 27, 1, .rws, .at .O, .installer, 1, false, false⟩
def POS_RLIM_AMIN : Fld := ⟨0x40007024, 0, 12, .rws, .at .O, .maker, 1024, false, false⟩
def POS_RLIM_AMAX : Fld := ⟨0x40007024, 12, 12, .rws, .at .O, .maker, 3900, false, false⟩
def POS_RLIM_RLOSN : Fld := ⟨0x40007024, 24, 4, .rws, .at .O, .maker, 2, false, false⟩
def POS_RTRK_TRKBND : Fld := ⟨0x40007028, 0, 16, .rws, .at .O, .maker, 1820, false, false⟩
def POS_RTRK_RSTILL : Fld := ⟨0x40007028, 16, 16, .rws, .at .O, .installer, 10, false, false⟩
def POS_RANG_ANGLE : Fld := ⟨0x4000702c, 0, 16, .ro, .none, .none, 0, false, false⟩
def POS_RANG_AMP : Fld := ⟨0x4000702c, 16, 12, .ro, .none, .none, 0, false, false⟩
def POS_ECFG_HALL : Fld := ⟨0x40007030, 0, 1, .rws, .at .O, .installer, 0, false, false⟩
def POS_ECFG_FILT : Fld := ⟨0x40007030, 1, 4, .rws, .at .O, .installer, 4, false, false⟩
def POS_ECFG_ZQUAL : Fld := ⟨0x40007030, 5, 2, .rws, .at .O, .installer, 3, false, false⟩
def POS_ECFG_RESYNC : Fld := ⟨0x40007030, 7, 1, .rws, .at .O, .maker, 1, false, false⟩
def POS_ECFG_IDX_WIN : Fld := ⟨0x40007030, 8, 8, .rws, .at .O, .maker, 4, false, false⟩
def POS_ECFG_WIRE_T : Fld := ⟨0x40007030, 16, 8, .rws, .at .O, .maker, 10, false, false⟩
def POS_ECFG_ILLN : Fld := ⟨0x40007030, 24, 8, .rws, .at .O, .maker, 4, false, false⟩
def POS_ECPR_CPR : Fld := ⟨0x40007034, 0, 20, .rws, .at .O, .installer, 4096, false, false⟩
def POS_EIDX_IDXPOS : Fld := ⟨0x40007038, 0, 20, .rws, .at .O, .installer, 0, false, false⟩
def POS_ECNT_COUNT : Fld := ⟨0x4000703c, 0, 32, .ro, .none, .none, 0, false, false⟩
def POS_EPRE_PRE : Fld := ⟨0x40007040, 0, 20, .wo, .none, .installer, 0, false, false⟩
def POS_EIDXERR_IDX_ERR : Fld := ⟨0x40007044, 0, 16, .ro, .none, .none, 0, false, false⟩
def POS_EIDXERR_MISSRUN : Fld := ⟨0x40007044, 16, 2, .ro, .none, .none, 0, false, false⟩
def POS_EIDXERR_ILLCNT : Fld := ⟨0x40007044, 24, 8, .rw, .none, .operator, 0, false, false⟩
def POS_HALLSEQ_SEQ : Fld := ⟨0x40007048, 0, 18, .rws, .at .O, .installer, 183449, false, false⟩
def POS_SWCFG_SENT : Fld := ⟨0x40007050, 0, 1, .rws, .at .O, .installer, 0, false, false⟩
def POS_SWCFG_DBITS : Fld := ⟨0x40007050, 1, 5, .rws, .at .O, .installer, 23, false, false⟩
def POS_SWCFG_SKIP : Fld := ⟨0x40007050, 6, 3, .rws, .at .O, .installer, 1, false, false⟩
def POS_SWCFG_GRAY : Fld := ⟨0x40007050, 9, 1, .rws, .at .O, .installer, 0, false, false⟩
def POS_SWCFG_ERRB : Fld := ⟨0x40007050, 10, 1, .rws, .at .O, .installer, 0, false, false⟩
def POS_SWCFG_ERRPOL : Fld := ⟨0x40007050, 11, 1, .rws, .at .O, .installer, 0, false, false⟩
def POS_SWCFG_CRCLEN : Fld := ⟨0x40007050, 12, 5, .rws, .at .O, .installer, 0, false, false⟩
def POS_SWCFG_CRCINV : Fld := ⟨0x40007050, 17, 1, .rws, .at .O, .installer, 0, false, false⟩
def POS_SWCFG_STBITS : Fld := ⟨0x40007050, 18, 5, .rws, .at .O, .installer, 16, false, false⟩
def POS_SWCFG_CLKDIV : Fld := ⟨0x40007050, 23, 7, .rws, .at .O, .installer, 19, false, false⟩
def POS_SWCRC_POLY : Fld := ⟨0x40007054, 0, 16, .rws, .at .O, .installer, 0, false, false⟩
def POS_SWCRC_SEED : Fld := ⟨0x40007054, 16, 16, .rws, .at .O, .installer, 0, false, false⟩
def POS_SWTIM_SWDLY : Fld := ⟨0x40007058, 0, 8, .rws, .at .O, .installer, 0, false, false⟩
def POS_SWTIM_TMONO : Fld := ⟨0x40007058, 8, 8, .rws, .at .O, .installer, 20, false, false⟩
def POS_SWTIM_RETRY : Fld := ⟨0x40007058, 16, 4, .rws, .at .O, .maker, 1, false, false⟩
def POS_SWTIM_SWEVERY : Fld := ⟨0x40007058, 20, 6, .rws, .at .O, .installer, 0, false, false⟩
def POS_SWTO_POSTO : Fld := ⟨0x4000705c, 0, 16, .rws, .at .O, .maker, 8, false, false⟩
def POS_SENT_TICK : Fld := ⟨0x40007060, 0, 10, .rws, .at .O, .installer, 30, false, false⟩
def POS_SENT_NIB : Fld := ⟨0x40007060, 10, 3, .rws, .at .O, .installer, 3, false, false⟩
def POS_SENT_SNIB : Fld := ⟨0x40007060, 13, 3, .rws, .at .O, .installer, 3, false, false⟩
def POS_SENT_CRCV : Fld := ⟨0x40007060, 16, 1, .rws, .at .O, .installer, 1, false, false⟩
def POS_SENT_PAUSE : Fld := ⟨0x40007060, 17, 1, .rws, .at .O, .installer, 0, false, false⟩
def POS_SWDATA_DATA : Fld := ⟨0x40007064, 0, 32, .ro, .none, .none, 0, false, false⟩
def POS_SWSTS_SEQ : Fld := ⟨0x40007068, 0, 8, .ro, .none, .none, 0, false, false⟩
def POS_SWSTS_ERRCNT : Fld := ⟨0x40007068, 8, 8, .rw, .none, .operator, 0, false, false⟩
def POS_SWSTS_LATE : Fld := ⟨0x40007068, 16, 8, .rw, .none, .operator, 0, false, false⟩
def POS_SWSTS_SKIPCNT : Fld := ⟨0x40007068, 24, 8, .rw, .none, .operator, 0, false, false⟩
def POS_SWAGE_AGE : Fld := ⟨0x4000706c, 0, 32, .ro, .none, .none, 0, false, false⟩
def POS_SENTSLOW_NIBBLE : Fld := ⟨0x40007070, 0, 4, .ro, .none, .none, 0, false, false⟩
def POS_SENTSLOW_FSEQ : Fld := ⟨0x40007070, 4, 8, .ro, .none, .none, 0, false, false⟩
def POS_SENTSLOW_LEVEL : Fld := ⟨0x40007070, 12, 5, .ro, .none, .none, 0, false, false⟩
def POS_SENTSLOW_EMPTY : Fld := ⟨0x40007070, 17, 1, .ro, .none, .none, 1, false, false⟩
def POS_WCFG_MODE0 : Fld := ⟨0x40007080, 0, 2, .rws, .at .O, .installer, 0, false, false⟩
def POS_WCFG_BOTH0 : Fld := ⟨0x40007080, 2, 1, .rws, .at .O, .installer, 0, false, false⟩
def POS_WCFG_DIRSET0 : Fld := ⟨0x40007080, 3, 1, .rws, .at .O, .operator, 0, false, false⟩
def POS_WCFG_DIRM0 : Fld := ⟨0x40007080, 4, 1, .rws, .at .O, .installer, 0, false, false⟩
def POS_WCFG_WFILT0 : Fld := ⟨0x40007080, 5, 8, .rws, .at .O, .installer, 10, false, false⟩
def POS_WCFG_MODE1 : Fld := ⟨0x40007080, 16, 2, .rws, .at .O, .installer, 0, false, false⟩
def POS_WCFG_BOTH1 : Fld := ⟨0x40007080, 18, 1, .rws, .at .O, .installer, 0, false, false⟩
def POS_WCFG_DIRSET1 : Fld := ⟨0x40007080, 19, 1, .rws, .at .O, .operator, 0, false, false⟩
def POS_WCFG_DIRM1 : Fld := ⟨0x40007080, 20, 1, .rws, .at .O, .installer, 0, false, false⟩
def POS_WCFG_WFILT1 : Fld := ⟨0x40007080, 21, 8, .rws, .at .O, .installer, 10, false, false⟩
def POS_WCNT_COUNT (n : Nat) : Fld := ⟨0x40007084 + 0x4 * n, 0, 32, .ro, .none, .none, 0, false, false⟩
def POS_SPDTO_TOM : Fld := ⟨0x40007090, 0, 10, .rws, .at .O, .installer, 100, false, false⟩
def POS_SPDTO_TOW0 : Fld := ⟨0x40007090, 10, 10, .rws, .at .O, .installer, 500, false, false⟩
def POS_SPDTO_TOW1 : Fld := ⟨0x40007090, 20, 10, .rws, .at .O, .installer, 500, false, false⟩
def POS_SPDCFG_SPANM : Fld := ⟨0x40007094, 0, 3, .rws, .at .O, .installer, 2, false, false⟩
def POS_SPDCFG_SPANW0 : Fld := ⟨0x40007094, 3, 3, .rws, .at .O, .installer, 2, false, false⟩
def POS_SPDCFG_SPANW1 : Fld := ⟨0x40007094, 6, 3, .rws, .at .O, .installer, 2, false, false⟩
def POS_SPDM_SPEED : Fld := ⟨0x40007098, 0, 32, .ro, .none, .none, 0, false, false⟩
def POS_SPDW_SPEED (n : Nat) : Fld := ⟨0x4000709c + 0x4 * n, 0, 32, .ro, .none, .none, 0, false, false⟩
def POS_SPDFLG_FM : Fld := ⟨0x400070a4, 0, 5, .ro, .none, .none, 8, false, false⟩
def POS_SPDFLG_FW0 : Fld := ⟨0x400070a4, 8, 5, .ro, .none, .none, 8, false, false⟩
def POS_SPDFLG_FW1 : Fld := ⟨0x400070a4, 16, 5, .ro, .none, .none, 8, false, false⟩
def POS_ELANG_ANGLE : Fld := ⟨0x400070b0, 0, 16, .ro, .none, .none, 0, false, false⟩
def POS_ELANG_VALID : Fld := ⟨0x400070b0, 16, 1, .ro, .none, .none, 0, false, false⟩
def POS_ELANG_SRC : Fld := ⟨0x400070b0, 17, 2, .ro, .none, .none, 0, false, false⟩
def POS_ELANG_EXTRAP : Fld := ⟨0x400070b0, 19, 1, .ro, .none, .none, 0, false, false⟩
def POS_ELANG_STALE : Fld := ⟨0x400070b0, 20, 1, .ro, .none, .none, 0, false, false⟩
def POS_STAMP_TICK : Fld := ⟨0x400070b4, 0, 32, .ro, .none, .none, 0, false, false⟩
def POS_XCHK_XBND : Fld := ⟨0x400070b8, 0, 16, .rws, .at .O, .maker, 2731, false, false⟩
def POS_XCHK_XN : Fld := ⟨0x400070b8, 16, 4, .rws, .at .O, .maker, 4, false, false⟩
def POS_XRES_RES : Fld := ⟨0x400070bc, 0, 16, .ro, .none, .none, 0, false, false⟩
def POS_XRES_XVALID : Fld := ⟨0x400070bc, 16, 1, .ro, .none, .none, 0, false, false⟩
def POS_PPST_TICK : Fld := ⟨0x400070c0, 0, 32, .ro, .none, .none, 0, false, false⟩
def POS_PPSO_OFS : Fld := ⟨0x400070c4, 0, 16, .ro, .none, .none, 0, false, false⟩
def POS_PPSO_SEQ : Fld := ⟨0x400070c4, 16, 8, .ro, .none, .none, 0, false, false⟩
def POS_PPSO_VALID : Fld := ⟨0x400070c4, 24, 1, .ro, .none, .none, 0, false, false⟩
def POS_PPSCFG_PPSTOL : Fld := ⟨0x400070c8, 0, 16, .rws, .at .O, .installer, 200, false, false⟩
def POS_PPSCFG_EDGE : Fld := ⟨0x400070c8, 16, 1, .rws, .at .O, .installer, 0, false, false⟩
def POS_IRQEN_EN : Fld := ⟨0x400070d0, 0, 9, .rws, .at .O, .operator, 7, false, false⟩
def POS_IRQ_EVT : Fld := ⟨0x400070d4, 0, 9, .w1c, .none, .operator, 0, false, false⟩

/-- Every field of the POS registers. -/
def posTable : List Fld :=
  [POS_CTRL_EN, POS_CTRL_PRI, POS_CTRL_SEC, POS_CTRL_FAILOVER, POS_CTRL_SENSLESS, POS_CTRL_RETPRI, POS_STS_VAL, POS_STS_INUSE, POS_STS_RSLOS, POS_STS_RSTRK, POS_STS_WIREFLT, POS_STS_ILL_ERR, POS_STS_IDX_FLT, POS_STS_IDXSEEN, POS_STS_HALLILL, POS_STS_SWGIVEUP, POS_STS_SWTO, POS_STS_XERR, POS_STS_PPSLOST, POS_STS_SWCFGERR, POS_STS_SLOWOVF, POS_RCFG_EXCF, POS_RCFG_EXCAMP, POS_RCFG_RBW] ++
  [POS_RCFG_RPHASE, POS_RCFG_RPAUTO, POS_RLIM_AMIN, POS_RLIM_AMAX, POS_RLIM_RLOSN, POS_RTRK_TRKBND, POS_RTRK_RSTILL, POS_RANG_ANGLE, POS_RANG_AMP, POS_ECFG_HALL, POS_ECFG_FILT, POS_ECFG_ZQUAL, POS_ECFG_RESYNC, POS_ECFG_IDX_WIN, POS_ECFG_WIRE_T, POS_ECFG_ILLN, POS_ECPR_CPR, POS_EIDX_IDXPOS, POS_ECNT_COUNT, POS_EPRE_PRE, POS_EIDXERR_IDX_ERR, POS_EIDXERR_MISSRUN, POS_EIDXERR_ILLCNT, POS_HALLSEQ_SEQ] ++
  [POS_SWCFG_SENT, POS_SWCFG_DBITS, POS_SWCFG_SKIP, POS_SWCFG_GRAY, POS_SWCFG_ERRB, POS_SWCFG_ERRPOL, POS_SWCFG_CRCLEN, POS_SWCFG_CRCINV, POS_SWCFG_STBITS, POS_SWCFG_CLKDIV, POS_SWCRC_POLY, POS_SWCRC_SEED, POS_SWTIM_SWDLY, POS_SWTIM_TMONO, POS_SWTIM_RETRY, POS_SWTIM_SWEVERY, POS_SWTO_POSTO, POS_SENT_TICK, POS_SENT_NIB, POS_SENT_SNIB, POS_SENT_CRCV, POS_SENT_PAUSE, POS_SWDATA_DATA, POS_SWSTS_SEQ] ++
  [POS_SWSTS_ERRCNT, POS_SWSTS_LATE, POS_SWSTS_SKIPCNT, POS_SWAGE_AGE, POS_SENTSLOW_NIBBLE, POS_SENTSLOW_FSEQ, POS_SENTSLOW_LEVEL, POS_SENTSLOW_EMPTY, POS_WCFG_MODE0, POS_WCFG_BOTH0, POS_WCFG_DIRSET0, POS_WCFG_DIRM0, POS_WCFG_WFILT0, POS_WCFG_MODE1, POS_WCFG_BOTH1, POS_WCFG_DIRSET1, POS_WCFG_DIRM1, POS_WCFG_WFILT1, POS_SPDTO_TOM, POS_SPDTO_TOW0, POS_SPDTO_TOW1, POS_SPDCFG_SPANM, POS_SPDCFG_SPANW0, POS_SPDCFG_SPANW1] ++
  [POS_SPDM_SPEED, POS_SPDFLG_FM, POS_SPDFLG_FW0, POS_SPDFLG_FW1, POS_ELANG_ANGLE, POS_ELANG_VALID, POS_ELANG_SRC, POS_ELANG_EXTRAP, POS_ELANG_STALE, POS_STAMP_TICK, POS_XCHK_XBND, POS_XCHK_XN, POS_XRES_RES, POS_XRES_XVALID, POS_PPST_TICK, POS_PPSO_OFS, POS_PPSO_SEQ, POS_PPSO_VALID, POS_PPSCFG_PPSTOL, POS_PPSCFG_EDGE, POS_IRQEN_EN, POS_IRQ_EVT] ++
  ((List.range 3).map POS_MAP_RATIO) ++
  ((List.range 3).map POS_MAP_OFFSET) ++
  ((List.range 2).map POS_WCNT_COUNT) ++
  ((List.range 2).map POS_SPDW_SPEED)

/-! The CLE registers. -/

def CLE_CTRL_RUN : Fld := ⟨0x40008000, 0, 1, .rw, .none, .maker, 0, true, false⟩
def CLE_CTRL_PEN : Fld := ⟨0x40008000, 8, 8, .rw, .none, .maker, 0, true, false⟩
def CLE_CTRL_CHKEN : Fld := ⟨0x40008000, 16, 1, .rw, .none, .maker, 1, true, false⟩
def CLE_STS_PROG : Fld := ⟨0x40008004, 0, 3, .ro, .none, .none, 0, false, false⟩
def CLE_STS_BUSY : Fld := ⟨0x40008004, 3, 1, .ro, .none, .none, 0, false, false⟩
def CLE_STS_FIRST : Fld := ⟨0x40008004, 4, 8, .ro, .none, .none, 0, false, false⟩
def CLE_STS_CRCFAIL : Fld := ⟨0x40008004, 12, 8, .w1c, .none, .operator, 0, false, false⟩
def CLE_STS_ARFAIL : Fld := ⟨0x40008004, 20, 1, .w1c, .none, .operator, 0, false, false⟩
def CLE_STS_WPERR : Fld := ⟨0x40008004, 21, 1, .w1c, .none, .operator, 0, false, false⟩
def CLE_STS_CFGERR : Fld := ⟨0x40008004, 22, 1, .w1c, .none, .operator, 0, false, false⟩
def CLE_STS_STARVED : Fld := ⟨0x40008004, 23, 1, .w1c, .none, .operator, 0, false, false⟩
def CLE_PCFG_ENTRY (n : Nat) : Fld := ⟨0x40008020 + 0x8 * n, 0, 12, .rws, .at .H, .maker, 0, false, false⟩
def CLE_PCFG_LENM1 (n : Nat) : Fld := ⟨0x40008020 + 0x8 * n, 12, 12, .rws, .at .H, .maker, 0, false, false⟩
def CLE_PCFG_PRIO (n : Nat) : Fld := ⟨0x40008020 + 0x8 * n, 24, 2, .rws, .at .H, .maker, 3, false, false⟩
def CLE_PCFG_TLEV (n : Nat) : Fld := ⟨0x40008020 + 0x8 * n, 26, 3, .rws, .at .H, .maker, 2, false, false⟩
def CLE_PCFG_TSRC (n : Nat) : Fld := ⟨0x40008020 + 0x8 * n, 29, 1, .rws, .at .H, .maker, 0, false, false⟩
def CLE_PCFG_CURLOOP (n : Nat) : Fld := ⟨0x40008020 + 0x8 * n, 30, 1, .rws, .at .H, .maker, 0, false, false⟩
def CLE_PTIM_DIV (n : Nat) : Fld := ⟨0x40008024 + 0x8 * n, 0, 6, .rws, .at .H, .maker, 0, false, false⟩
def CLE_PTIM_BUD (n : Nat) : Fld := ⟨0x40008024 + 0x8 * n, 8, 16, .rws, .at .O, .maker, 30, false, false⟩
def CLE_PTIM_MISSN (n : Nat) : Fld := ⟨0x40008024 + 0x8 * n, 24, 4, .rws, .at .O, .maker, 3, false, false⟩
def CLE_PCRC_CRC (n : Nat) : Fld := ⟨0x40008060 + 0x4 * n, 0, 32, .rws, .at .H, .maker, 0, false, false⟩
def CLE_PFLG_SAT (n : Nat) : Fld := ⟨0x40008080 + 0x4 * n, 0, 1, .w1c, .none, .operator, 0, false, false⟩
def CLE_PFLG_EOV (n : Nat) : Fld := ⟨0x40008080 + 0x4 * n, 1, 1, .w1c, .none, .operator, 0, false, false⟩
def CLE_PFLG_EUF (n : Nat) : Fld := ⟨0x40008080 + 0x4 * n, 2, 1, .w1c, .none, .operator, 0, false, false⟩
def CLE_PFLG_PFAULT (n : Nat) : Fld := ⟨0x40008080 + 0x4 * n, 3, 1, .w1c, .none, .operator, 0, false, false⟩
def CLE_PFLG_PFCODE (n : Nat) : Fld := ⟨0x40008080 + 0x4 * n, 4, 3, .ro, .none, .none, 0, false, false⟩
def CLE_PFLG_DLMISS (n : Nat) : Fld := ⟨0x40008080 + 0x4 * n, 7, 1, .w1c, .none, .operator, 0, false, false⟩
def CLE_PFLG_MISSCNT (n : Nat) : Fld := ⟨0x40008080 + 0x4 * n, 8, 8, .rw, .none, .operator, 0, false, false⟩
def CLE_PFLG_CONSEC (n : Nat) : Fld := ⟨0x40008080 + 0x4 * n, 16, 4, .ro, .none, .none, 0, false, false⟩
def CLE_SPCFG_SPLV : Fld := ⟨0x400080a0, 0, 24, .rws, .at .H, .maker, 4793490, false, false⟩
def CLE_SPSEL_SP : Fld := ⟨0x400080a4, 0, 3, .rw, .none, .installer, 0, false, false⟩
def CLE_SPSEL_LANE : Fld := ⟨0x400080a4, 3, 3, .rw, .none, .installer, 0, false, false⟩
def CLE_SPSEL_EXP : Fld := ⟨0x400080a4, 6, 1, .rw, .none, .installer, 0, false, false⟩
def CLE_SPDATA_DATA : Fld := ⟨0x400080a8, 0, 24, .rws, .none, .installer, 0, false, false⟩
def CLE_SPDATAG_DATA : Fld := ⟨0x400080ac, 0, 24, .wo, .none, .installer, 0, true, false⟩
def CLE_SPDATAG_LANE : Fld := ⟨0x400080ac, 24, 3, .wo, .none, .installer, 0, true, false⟩
def CLE_SPDATAG_EXP : Fld := ⟨0x400080ac, 27, 1, .wo, .none, .installer, 0, true, false⟩
def CLE_ECC_CECNT : Fld := ⟨0x400080b0, 0, 16, .rw, .none, .operator, 0, false, false⟩
def CLE_ECC_UEP : Fld := ⟨0x400080b0, 16, 1, .w1c, .none, .operator, 0, false, false⟩
def CLE_ECC_UED : Fld := ⟨0x400080b0, 17, 1, .w1c, .none, .operator, 0, false, false⟩
def CLE_MBOX_M (k j : Nat) : Fld := ⟨0x40008100 + 0x40 * k + 4 * j, 0, 24, .ro, .none, .none, 0, false, false⟩
def CLE_MBOX8_E (n : Nat) : Fld := ⟨0x40008120 + 0x40 * n, 0, 6, .ro, .none, .none, 0, false, false⟩
def CLE_MBOX8_SEQ (n : Nat) : Fld := ⟨0x40008120 + 0x40 * n, 8, 8, .ro, .none, .none, 0, false, false⟩
def CLE_BCTRL_ARM : Fld := ⟨0x40008200, 0, 1, .rw, .none, .installer, 0, false, false⟩
def CLE_BCTRL_START : Fld := ⟨0x40008200, 1, 1, .wo, .none, .installer, 0, false, false⟩
def CLE_BCTRL_STOP : Fld := ⟨0x40008200, 2, 1, .wo, .none, .operator, 0, false, false⟩
def CLE_BCTRL_SIG : Fld := ⟨0x40008200, 3, 2, .rw, .none, .installer, 0, false, false⟩
def CLE_BCTRL_INJ : Fld := ⟨0x40008200, 5, 8, .rw, .none, .installer, 0, false, false⟩
def CLE_BCTRL_TRIG : Fld := ⟨0x40008200, 13, 1, .rw, .none, .installer, 0, false, false⟩
def CLE_BCTRL_PACE : Fld := ⟨0x40008200, 14, 3, .rw, .none, .installer, 0, false, false⟩
def CLE_BSTS_STATE : Fld := ⟨0x40008204, 0, 2, .ro, .none, .none, 0, false, false⟩
def CLE_BSTS_NCAP : Fld := ⟨0x40008204, 2, 15, .ro, .none, .none, 0, false, false⟩
def CLE_BSTS_OVF : Fld := ⟨0x40008204, 17, 1, .w1c, .none, .operator, 0, false, false⟩
def CLE_BSTS_ABORT : Fld := ⟨0x40008204, 18, 1, .w1c, .none, .operator, 0, false, false⟩
def CLE_BSTS_REFUSED : Fld := ⟨0x40008204, 19, 1, .w1c, .none, .operator, 0, false, false⟩
def CLE_BAMP_AMP : Fld := ⟨0x40008208, 0, 32, .rw, .none, .installer, 0, false, false⟩
def CLE_BF0_F0 : Fld := ⟨0x4000820c, 0, 32, .rw, .none, .installer, 0, false, false⟩
def CLE_BF1_F1 : Fld := ⟨0x40008210, 0, 32, .rw, .none, .installer, 0, false, false⟩
def CLE_BPAR_NSM1 : Fld := ⟨0x40008214, 0, 14, .rw, .none, .installer, 0, false, false⟩
def CLE_BPAR_HOLD : Fld := ⟨0x40008214, 14, 10, .rw, .none, .installer, 0, false, false⟩
def CLE_BPAR_DECM1 : Fld := ⟨0x40008214, 24, 8, .rw, .none, .installer, 0, false, false⟩
def CLE_BBUF_BASE : Fld := ⟨0x40008218, 0, 32, .rw, .none, .installer, 536936448, false, false⟩
def CLE_BNODE_ADDR (n : Nat) : Fld := ⟨0x40008220 + 0x4 * n, 0, 12, .rw, .none, .installer, 0, false, false⟩
def CLE_BNODE_LANE (n : Nat) : Fld := ⟨0x40008220 + 0x4 * n, 12, 3, .rw, .none, .installer, 0, false, false⟩
def CLE_BNODE_PROG (n : Nat) : Fld := ⟨0x40008220 + 0x4 * n, 16, 3, .rw, .none, .installer, 0, false, false⟩
def CLE_BNODE_VALID (n : Nat) : Fld := ⟨0x40008220 + 0x4 * n, 19, 1, .rw, .none, .installer, 0, false, false⟩
def CLE_BCAP_NODE (n : Nat) : Fld := ⟨0x40008240 + 0x4 * n, 0, 3, .rw, .none, .installer, 0, false, false⟩
def CLE_BCAP_PRE (n : Nat) : Fld := ⟨0x40008240 + 0x4 * n, 3, 1, .rw, .none, .installer, 0, false, false⟩
def CLE_BCAP_EN (n : Nat) : Fld := ⟨0x40008240 + 0x4 * n, 4, 1, .rw, .none, .installer, 0, false, false⟩

/-- Every field of the CLE registers. -/
def cleTable : List Fld :=
  [CLE_CTRL_RUN, CLE_CTRL_PEN, CLE_CTRL_CHKEN, CLE_STS_PROG, CLE_STS_BUSY, CLE_STS_FIRST, CLE_STS_CRCFAIL, CLE_STS_ARFAIL, CLE_STS_WPERR, CLE_STS_CFGERR, CLE_STS_STARVED, CLE_SPCFG_SPLV, CLE_SPSEL_SP, CLE_SPSEL_LANE, CLE_SPSEL_EXP, CLE_SPDATA_DATA, CLE_SPDATAG_DATA, CLE_SPDATAG_LANE, CLE_SPDATAG_EXP, CLE_ECC_CECNT, CLE_ECC_UEP, CLE_ECC_UED, CLE_BCTRL_ARM, CLE_BCTRL_START] ++
  [CLE_BCTRL_STOP, CLE_BCTRL_SIG, CLE_BCTRL_INJ, CLE_BCTRL_TRIG, CLE_BCTRL_PACE, CLE_BSTS_STATE, CLE_BSTS_NCAP, CLE_BSTS_OVF, CLE_BSTS_ABORT, CLE_BSTS_REFUSED, CLE_BAMP_AMP, CLE_BF0_F0, CLE_BF1_F1, CLE_BPAR_NSM1, CLE_BPAR_HOLD, CLE_BPAR_DECM1, CLE_BBUF_BASE] ++
  ((List.range 8).map CLE_PCFG_ENTRY) ++
  ((List.range 8).map CLE_PCFG_LENM1) ++
  ((List.range 8).map CLE_PCFG_PRIO) ++
  ((List.range 8).map CLE_PCFG_TLEV) ++
  ((List.range 8).map CLE_PCFG_TSRC) ++
  ((List.range 8).map CLE_PCFG_CURLOOP) ++
  ((List.range 8).map CLE_PTIM_DIV) ++
  ((List.range 8).map CLE_PTIM_BUD) ++
  ((List.range 8).map CLE_PTIM_MISSN) ++
  ((List.range 8).map CLE_PCRC_CRC) ++
  ((List.range 8).map CLE_PFLG_SAT) ++
  ((List.range 8).map CLE_PFLG_EOV) ++
  ((List.range 8).map CLE_PFLG_EUF) ++
  ((List.range 8).map CLE_PFLG_PFAULT) ++
  ((List.range 8).map CLE_PFLG_PFCODE) ++
  ((List.range 8).map CLE_PFLG_DLMISS) ++
  ((List.range 8).map CLE_PFLG_MISSCNT) ++
  ((List.range 8).map CLE_PFLG_CONSEC) ++
  ((List.range 4).flatMap (fun k => (List.range 8).map (CLE_MBOX_M k))) ++
  ((List.range 4).map CLE_MBOX8_E) ++
  ((List.range 4).map CLE_MBOX8_SEQ) ++
  ((List.range 8).map CLE_BNODE_ADDR) ++
  ((List.range 8).map CLE_BNODE_LANE) ++
  ((List.range 8).map CLE_BNODE_PROG) ++
  ((List.range 8).map CLE_BNODE_VALID) ++
  ((List.range 4).map CLE_BCAP_NODE) ++
  ((List.range 4).map CLE_BCAP_PRE) ++
  ((List.range 4).map CLE_BCAP_EN)

/-! The AXS registers. -/

def AXS_CTRL_EN (n : Nat) : Fld := ⟨0x40009000 + 0x100 * n, 0, 1, .rws, .at .O, .installer, 0, false, false⟩
def AXS_CTRL_MODE (n : Nat) : Fld := ⟨0x40009000 + 0x100 * n, 1, 1, .rws, .at .H, .installer, 0, false, false⟩
def AXS_CTRL_GO (n : Nat) : Fld := ⟨0x40009000 + 0x100 * n, 2, 1, .wo, .none, .operator, 0, false, false⟩
def AXS_CTRL_STOP (n : Nat) : Fld := ⟨0x40009000 + 0x100 * n, 3, 1, .wo, .none, .operator, 0, false, false⟩
def AXS_CTRL_DECAY (n : Nat) : Fld := ⟨0x40009000 + 0x100 * n, 4, 2, .rws, .at .L, .installer, 3, false, false⟩
def AXS_CTRL_STOPOFF (n : Nat) : Fld := ⟨0x40009000 + 0x100 * n, 6, 1, .rws, .at .O, .installer, 0, false, false⟩
def AXS_CTRL_ADAPT (n : Nat) : Fld := ⟨0x40009000 + 0x100 * n, 7, 1, .rws, .at .L, .installer, 1, false, false⟩
def AXS_CTRL_FLTEN (n : Nat) : Fld := ⟨0x40009000 + 0x100 * n, 8, 1, .rws, .at .O, .installer, 0, false, false⟩
def AXS_STS_STATE (n : Nat) : Fld := ⟨0x40009004 + 0x100 * n, 0, 3, .ro, .none, .none, 0, false, false⟩
def AXS_STS_POSVAL (n : Nat) : Fld := ⟨0x40009004 + 0x100 * n, 3, 1, .ro, .none, .none, 0, false, false⟩
def AXS_STS_STILL (n : Nat) : Fld := ⟨0x40009004 + 0x100 * n, 4, 1, .ro, .none, .none, 0, false, false⟩
def AXS_STS_OVERSHOOT (n : Nat) : Fld := ⟨0x40009004 + 0x100 * n, 5, 1, .w1c, .none, .operator, 0, false, false⟩
def AXS_STS_UNDERRUN (n : Nat) : Fld := ⟨0x40009004 + 0x100 * n, 6, 1, .w1c, .none, .operator, 0, false, false⟩
def AXS_STS_SEGERR (n : Nat) : Fld := ⟨0x40009004 + 0x100 * n, 7, 1, .w1c, .none, .operator, 0, false, false⟩
def AXS_STS_WPERR (n : Nat) : Fld := ⟨0x40009004 + 0x100 * n, 8, 1, .w1c, .none, .operator, 0, false, false⟩
def AXS_STS_REFUSED (n : Nat) : Fld := ⟨0x40009004 + 0x100 * n, 9, 1, .w1c, .none, .operator, 0, false, false⟩
def AXS_STS_FCAUSE (n : Nat) : Fld := ⟨0x40009004 + 0x100 * n, 10, 4, .ro, .none, .none, 0, false, false⟩
def AXS_STS_RD (n : Nat) : Fld := ⟨0x40009004 + 0x100 * n, 16, 8, .ro, .none, .none, 0, false, false⟩
def AXS_POS_POS (n : Nat) : Fld := ⟨0x40009008 + 0x100 * n, 0, 32, .ro, .none, .none, 0, false, false⟩
def AXS_POSSET_PRESET (n : Nat) : Fld := ⟨0x4000900c + 0x100 * n, 0, 32, .wo, .none, .installer, 0, false, false⟩
def AXS_VEL_VEL (n : Nat) : Fld := ⟨0x40009010 + 0x100 * n, 0, 32, .ro, .none, .none, 0, false, false⟩
def AXS_TGT_TGT (n : Nat) : Fld := ⟨0x40009014 + 0x100 * n, 0, 32, .wo, .none, .operator, 0, false, false⟩
def AXS_LIM0_VMAX (n : Nat) : Fld := ⟨0x40009018 + 0x100 * n, 0, 23, .rws, .at .L, .installer, 1600000, false, false⟩
def AXS_LIM1_AMAX (n : Nat) : Fld := ⟨0x4000901c + 0x100 * n, 0, 16, .rws, .at .L, .installer, 5000, false, false⟩
def AXS_LIM1_DMAX (n : Nat) : Fld := ⟨0x4000901c + 0x100 * n, 16, 16, .rws, .at .L, .installer, 5000, false, false⟩
def AXS_TAB_START (n : Nat) : Fld := ⟨0x40009020 + 0x100 * n, 0, 8, .rw, .none, .operator, 0, false, false⟩
def AXS_TAB_WR (n : Nat) : Fld := ⟨0x40009020 + 0x100 * n, 8, 8, .rw, .none, .operator, 0, false, false⟩
def AXS_SEGSEL_IDX (n : Nat) : Fld := ⟨0x40009024 + 0x100 * n, 0, 8, .rw, .none, .operator, 0, false, false⟩
def AXS_SEGW0_T1 (n : Nat) : Fld := ⟨0x40009028 + 0x100 * n, 0, 32, .rw, .none, .operator, 0, false, false⟩
def AXS_SEGW1_P1 (n : Nat) : Fld := ⟨0x4000902c + 0x100 * n, 0, 32, .rw, .none, .operator, 0, false, false⟩
def AXS_SEGW2_V1 (n : Nat) : Fld := ⟨0x40009030 + 0x100 * n, 0, 24, .rw, .none, .operator, 0, false, false⟩
def AXS_SEGW2_HOLD (n : Nat) : Fld := ⟨0x40009030 + 0x100 * n, 24, 1, .rw, .none, .operator, 0, false, false⟩
def AXS_CUR_IRUN (n : Nat) : Fld := ⟨0x40009034 + 0x100 * n, 0, 10, .rws, .at .L, .installer, 0, false, false⟩
def AXS_CUR_IHOLD (n : Nat) : Fld := ⟨0x40009034 + 0x100 * n, 10, 8, .rws, .at .L, .installer, 128, false, false⟩
def AXS_CUR_STDLY (n : Nat) : Fld := ⟨0x40009034 + 0x100 * n, 18, 14, .rws, .at .L, .installer, 200, false, false⟩
def AXS_CHOP_HYST (n : Nat) : Fld := ⟨0x40009038 + 0x100 * n, 0, 7, .rws, .at .L, .installer, 16, false, false⟩
def AXS_CHOP_BLANK (n : Nat) : Fld := ⟨0x40009038 + 0x100 * n, 7, 5, .rws, .at .L, .installer, 20, false, false⟩
def AXS_CHOP_TOFFMIN (n : Nat) : Fld := ⟨0x40009038 + 0x100 * n, 12, 5, .rws, .at .L, .installer, 10, false, false⟩
def AXS_CHOP_FASTT (n : Nat) : Fld := ⟨0x40009038 + 0x100 * n, 17, 5, .rws, .at .L, .installer, 5, false, false⟩
def AXS_CHOP_CDLY (n : Nat) : Fld := ⟨0x40009038 + 0x100 * n, 22, 5, .rws, .at .L, .installer, 15, false, false⟩
def AXS_PROT_OCCODE (n : Nat) : Fld := ⟨0x4000903c + 0x100 * n, 0, 10, .rws, .at .O, .maker, 1000, false, false⟩
def AXS_PROT_TONMAX (n : Nat) : Fld := ⟨0x4000903c + 0x100 * n, 10, 8, .rws, .at .O, .maker, 200, false, false⟩
def AXS_PROT_OPENN (n : Nat) : Fld := ⟨0x4000903c + 0x100 * n, 18, 4, .rws, .at .O, .maker, 8, false, false⟩
def AXS_PROT_LAGMAX (n : Nat) : Fld := ⟨0x4000903c + 0x100 * n, 22, 10, .rws, .at .O, .maker, 4, false, false⟩
def AXS_SD_STEPDIV (n : Nat) : Fld := ⟨0x40009040 + 0x100 * n, 0, 4, .rws, .at .O, .installer, 0, false, false⟩
def AXS_SD_STEPW (n : Nat) : Fld := ⟨0x40009040 + 0x100 * n, 4, 8, .rws, .at .O, .installer, 20, false, false⟩
def AXS_SD_DIRSU (n : Nat) : Fld := ⟨0x40009040 + 0x100 * n, 12, 8, .rws, .at .O, .installer, 20, false, false⟩
def AXS_SD_FLTCODE (n : Nat) : Fld := ⟨0x40009040 + 0x100 * n, 20, 10, .rws, .at .O, .installer, 500, false, false⟩
def AXS_CHSTS_OFSA (n : Nat) : Fld := ⟨0x40009044 + 0x100 * n, 0, 8, .ro, .none, .none, 0, false, false⟩
def AXS_CHSTS_OFSB (n : Nat) : Fld := ⟨0x40009044 + 0x100 * n, 8, 8, .ro, .none, .none, 0, false, false⟩
def AXS_CHSTS_PHASE (n : Nat) : Fld := ⟨0x40009044 + 0x100 * n, 16, 10, .ro, .none, .none, 0, false, false⟩
def AXS_TIME_TIME : Fld := ⟨0x40009400, 0, 32, .ro, .none, .none, 0, false, false⟩
def AXS_HTIME_HTIME : Fld := ⟨0x40009404, 0, 32, .ro, .none, .none, 0, false, false⟩
def AXS_IRQEN_EN : Fld := ⟨0x40009408, 0, 12, .rws, .at .O, .operator, 0, false, false⟩
def AXS_IRQ_EVT : Fld := ⟨0x4000940c, 0, 12, .w1c, .none, .operator, 0, false, false⟩

/-- Every field of the AXS registers. -/
def axsTable : List Fld :=
  [AXS_TIME_TIME, AXS_HTIME_HTIME, AXS_IRQEN_EN, AXS_IRQ_EVT] ++
  ((List.range 2).map AXS_CTRL_EN) ++
  ((List.range 2).map AXS_CTRL_MODE) ++
  ((List.range 2).map AXS_CTRL_GO) ++
  ((List.range 2).map AXS_CTRL_STOP) ++
  ((List.range 2).map AXS_CTRL_DECAY) ++
  ((List.range 2).map AXS_CTRL_STOPOFF) ++
  ((List.range 2).map AXS_CTRL_ADAPT) ++
  ((List.range 2).map AXS_CTRL_FLTEN) ++
  ((List.range 2).map AXS_STS_STATE) ++
  ((List.range 2).map AXS_STS_POSVAL) ++
  ((List.range 2).map AXS_STS_STILL) ++
  ((List.range 2).map AXS_STS_OVERSHOOT) ++
  ((List.range 2).map AXS_STS_UNDERRUN) ++
  ((List.range 2).map AXS_STS_SEGERR) ++
  ((List.range 2).map AXS_STS_WPERR) ++
  ((List.range 2).map AXS_STS_REFUSED) ++
  ((List.range 2).map AXS_STS_FCAUSE) ++
  ((List.range 2).map AXS_STS_RD) ++
  ((List.range 2).map AXS_POS_POS) ++
  ((List.range 2).map AXS_POSSET_PRESET) ++
  ((List.range 2).map AXS_VEL_VEL) ++
  ((List.range 2).map AXS_TGT_TGT) ++
  ((List.range 2).map AXS_LIM0_VMAX) ++
  ((List.range 2).map AXS_LIM1_AMAX) ++
  ((List.range 2).map AXS_LIM1_DMAX) ++
  ((List.range 2).map AXS_TAB_START) ++
  ((List.range 2).map AXS_TAB_WR) ++
  ((List.range 2).map AXS_SEGSEL_IDX) ++
  ((List.range 2).map AXS_SEGW0_T1) ++
  ((List.range 2).map AXS_SEGW1_P1) ++
  ((List.range 2).map AXS_SEGW2_V1) ++
  ((List.range 2).map AXS_SEGW2_HOLD) ++
  ((List.range 2).map AXS_CUR_IRUN) ++
  ((List.range 2).map AXS_CUR_IHOLD) ++
  ((List.range 2).map AXS_CUR_STDLY) ++
  ((List.range 2).map AXS_CHOP_HYST) ++
  ((List.range 2).map AXS_CHOP_BLANK) ++
  ((List.range 2).map AXS_CHOP_TOFFMIN) ++
  ((List.range 2).map AXS_CHOP_FASTT) ++
  ((List.range 2).map AXS_CHOP_CDLY) ++
  ((List.range 2).map AXS_PROT_OCCODE) ++
  ((List.range 2).map AXS_PROT_TONMAX) ++
  ((List.range 2).map AXS_PROT_OPENN) ++
  ((List.range 2).map AXS_PROT_LAGMAX) ++
  ((List.range 2).map AXS_SD_STEPDIV) ++
  ((List.range 2).map AXS_SD_STEPW) ++
  ((List.range 2).map AXS_SD_DIRSU) ++
  ((List.range 2).map AXS_SD_FLTCODE) ++
  ((List.range 2).map AXS_CHSTS_OFSA) ++
  ((List.range 2).map AXS_CHSTS_OFSB) ++
  ((List.range 2).map AXS_CHSTS_PHASE)

/-! The GDN registers. -/

def GDN_CTRL_EN : Fld := ⟨0x4000a000, 0, 1, .rws, .at .H, .installer, 0, true, false⟩
def GDN_CTRL_MASTER : Fld := ⟨0x4000a000, 1, 1, .rw, .none, .operator, 0, true, false⟩
def GDN_CTRL_TCGATE : Fld := ⟨0x4000a000, 2, 1, .rws, .at .H, .installer, 0, true, false⟩
def GDN_CTRL_SRCEN : Fld := ⟨0x4000a000, 3, 3, .rws, .at .O, .installer, 7, true, false⟩
def GDN_CTRL_GNSSEN : Fld := ⟨0x4000a000, 6, 1, .rws, .at .O, .installer, 0, true, false⟩
def GDN_STS_POSVAL : Fld := ⟨0x4000a004, 0, 1, .ro, .none, .none, 0, false, false⟩
def GDN_STS_GNSSAL : Fld := ⟨0x4000a004, 1, 1, .ro, .none, .none, 0, false, false⟩
def GDN_STS_ALLOFF : Fld := ⟨0x4000a004, 2, 1, .w1c, .none, .operator, 0, false, false⟩
def GDN_STS_ONREF : Fld := ⟨0x4000a004, 3, 1, .w1c, .none, .operator, 0, false, false⟩
def GDN_STS_OFFDISP : Fld := ⟨0x4000a004, 4, 1, .w1c, .none, .operator, 0, false, false⟩
def GDN_STS_CFGERR : Fld := ⟨0x4000a004, 5, 1, .w1c, .none, .operator, 0, false, false⟩
def GDN_STS_FIXREJ : Fld := ⟨0x4000a004, 6, 1, .w1c, .none, .operator, 0, false, false⟩
def GDN_STS_ROWUNK : Fld := ⟨0x4000a004, 7, 1, .w1c, .none, .operator, 0, false, false⟩
def GDN_STS_ROWSKIP : Fld := ⟨0x4000a004, 8, 1, .w1c, .none, .operator, 0, false, false⟩
def GDN_STS_EVOVF : Fld := ⟨0x4000a004, 9, 1, .w1c, .none, .operator, 0, false, false⟩
def GDN_STS_QLEVEL : Fld := ⟨0x4000a004, 10, 11, .ro, .none, .none, 0, false, false⟩
def GDN_DIST_DIST : Fld := ⟨0x4000a008, 0, 32, .ro, .none, .none, 0, false, false⟩
def GDN_SPEED_SPEED : Fld := ⟨0x4000a00c, 0, 32, .ro, .none, .none, 0, false, false⟩
def GDN_SLIP_SLIP : Fld := ⟨0x4000a010, 0, 16, .ro, .none, .none, 0, false, false⟩
def GDN_SLIP_SLIPMAX : Fld := ⟨0x4000a010, 16, 16, .rws, .at .O, .installer, 9830, false, false⟩
def GDN_MMPE_MMPE : Fld := ⟨0x4000a014, 0, 32, .rws, .at .O, .installer, 0, false, false⟩
def GDN_UMPC_UMPC (n : Nat) : Fld := ⟨0x4000a018 + 0x4 * n, 0, 32, .rws, .at .O, .installer, 0, false, false⟩
def GDN_FUSE_WW : Fld := ⟨0x4000a020, 0, 9, .rws, .at .O, .installer, 256, false, false⟩
def GDN_FUSE_SLIPTAU : Fld := ⟨0x4000a020, 9, 3, .rws, .at .O, .installer, 4, false, false⟩
def GDN_FUSE_SLIPV : Fld := ⟨0x4000a020, 12, 4, .rws, .at .O, .installer, 5, false, false⟩
def GDN_FUSE_CORRMAX : Fld := ⟨0x4000a020, 16, 8, .rws, .at .O, .installer, 2, false, false⟩
def GDN_FUSE_FIXJMP : Fld := ⟨0x4000a020, 24, 8, .rws, .at .O, .installer, 50, false, false⟩
def GDN_FIXD_FIXD : Fld := ⟨0x4000a024, 0, 32, .wo, .none, .operator, 0, false, false⟩
def GDN_FIXT_PPSSEQ : Fld := ⟨0x4000a028, 0, 8, .wo, .none, .operator, 0, false, false⟩
def GDN_FIXT_OFS : Fld := ⟨0x4000a028, 8, 20, .wo, .none, .operator, 0, false, false⟩
def GDN_FIXCFG_FIXTO : Fld := ⟨0x4000a02c, 0, 8, .rws, .at .O, .installer, 5, false, false⟩
def GDN_TILE_CELLL : Fld := ⟨0x4000a030, 0, 12, .rws, .at .H, .installer, 250, false, false⟩
def GDN_TILE_CELLW : Fld := ⟨0x4000a030, 12, 12, .rws, .at .H, .installer, 250, false, false⟩
def GDN_TILEBASE_BASE : Fld := ⟨0x4000a034, 0, 32, .rws, .at .H, .installer, 536936448, false, false⟩
def GDN_LOADED_LOADED : Fld := ⟨0x4000a038, 0, 32, .rw, .none, .operator, 0, false, false⟩
def GDN_DONE_DONE : Fld := ⟨0x4000a03c, 0, 32, .ro, .none, .none, 0, false, false⟩
def GDN_CFG_ONK : Fld := ⟨0x4000a040, 0, 4, .rws, .at .H, .installer, 4, false, false⟩
def GDN_CFG_MINT : Fld := ⟨0x4000a040, 4, 16, .rws, .at .H, .installer, 20000, false, false⟩
def GDN_SECSEL_IDX : Fld := ⟨0x4000a050, 0, 12, .rw, .none, .installer, 0, false, false⟩
def GDN_SECW0_ALONG : Fld := ⟨0x4000a054, 0, 16, .rws, .at .H, .installer, 0, false, false⟩
def GDN_SECW0_LAT : Fld := ⟨0x4000a054, 16, 16, .rws, .at .H, .installer, 0, false, false⟩
def GDN_SECW1_WIDTH : Fld := ⟨0x4000a058, 0, 12, .rws, .at .H, .installer, 0, false, false⟩
def GDN_SECW1_LATON : Fld := ⟨0x4000a058, 12, 10, .rws, .at .H, .installer, 0, false, false⟩
def GDN_SECW1_LATOFF : Fld := ⟨0x4000a058, 22, 10, .rws, .at .H, .installer, 0, false, false⟩
def GDN_SECW2_EPADDR : Fld := ⟨0x4000a05c, 0, 20, .rws, .at .H, .installer, 0, false, false⟩
def GDN_SECW2_COUNTM1 : Fld := ⟨0x4000a05c, 20, 8, .rws, .at .H, .installer, 0, false, false⟩
def GDN_SECW2_SEN : Fld := ⟨0x4000a05c, 28, 1, .rws, .at .H, .installer, 0, false, false⟩
def GDN_SECST_SCHED : Fld := ⟨0x4000a060, 0, 1, .ro, .none, .none, 0, false, false⟩
def GDN_SECST_ACTUAL : Fld := ⟨0x4000a060, 1, 1, .ro, .none, .none, 0, false, false⟩
def GDN_SECST_DEMAND : Fld := ⟨0x4000a060, 2, 1, .ro, .none, .none, 0, false, false⟩
def GDN_SECST_DISABLED : Fld := ⟨0x4000a060, 3, 1, .ro, .none, .none, 0, false, false⟩
def GDN_EPSEL_IDX : Fld := ⟨0x4000a070, 0, 8, .rw, .none, .installer, 0, false, false⟩
def GDN_EPW0_KIND : Fld := ⟨0x4000a074, 0, 2, .rws, .at .H, .installer, 0, false, false⟩
def GDN_EPW1_ONPOS : Fld := ⟨0x4000a078, 0, 32, .rws, .at .H, .installer, 0, false, false⟩
def GDN_EPW2_OFFPOS : Fld := ⟨0x4000a07c, 0, 32, .rws, .at .H, .installer, 0, false, false⟩
def GDN_EVFIFO_EP : Fld := ⟨0x4000a080, 0, 8, .ro, .none, .none, 0, false, false⟩
def GDN_EVFIFO_ON : Fld := ⟨0x4000a080, 8, 1, .ro, .none, .none, 0, false, false⟩
def GDN_EVFIFO_EMPTY : Fld := ⟨0x4000a080, 9, 1, .ro, .none, .none, 1, false, false⟩
def GDN_EVFIFO_OFS : Fld := ⟨0x4000a080, 16, 16, .ro, .none, .none, 0, false, false⟩
def GDN_CNT_ONREF : Fld := ⟨0x4000a084, 0, 10, .rw, .none, .operator, 0, false, false⟩
def GDN_CNT_LATEON : Fld := ⟨0x4000a084, 10, 10, .rw, .none, .operator, 0, false, false⟩
def GDN_CNT_SHORT : Fld := ⟨0x4000a084, 20, 10, .rw, .none, .operator, 0, false, false⟩
def GDN_IRQEN_EN : Fld := ⟨0x4000a088, 0, 6, .rws, .at .O, .operator, 0, false, false⟩
def GDN_IRQ_EVT : Fld := ⟨0x4000a08c, 0, 6, .w1c, .none, .operator, 0, false, false⟩
def GDN_GATE_GATE (n : Nat) : Fld := ⟨0x4000a100 + 0x4 * n, 0, 32, .rw, .none, .maker, 0, false, true⟩

/-- Every field of the GDN registers. -/
def gdnTable : List Fld :=
  [GDN_CTRL_EN, GDN_CTRL_MASTER, GDN_CTRL_TCGATE, GDN_CTRL_SRCEN, GDN_CTRL_GNSSEN, GDN_STS_POSVAL, GDN_STS_GNSSAL, GDN_STS_ALLOFF, GDN_STS_ONREF, GDN_STS_OFFDISP, GDN_STS_CFGERR, GDN_STS_FIXREJ, GDN_STS_ROWUNK, GDN_STS_ROWSKIP, GDN_STS_EVOVF, GDN_STS_QLEVEL, GDN_DIST_DIST, GDN_SPEED_SPEED, GDN_SLIP_SLIP, GDN_SLIP_SLIPMAX, GDN_MMPE_MMPE, GDN_FUSE_WW, GDN_FUSE_SLIPTAU, GDN_FUSE_SLIPV] ++
  [GDN_FUSE_CORRMAX, GDN_FUSE_FIXJMP, GDN_FIXD_FIXD, GDN_FIXT_PPSSEQ, GDN_FIXT_OFS, GDN_FIXCFG_FIXTO, GDN_TILE_CELLL, GDN_TILE_CELLW, GDN_TILEBASE_BASE, GDN_LOADED_LOADED, GDN_DONE_DONE, GDN_CFG_ONK, GDN_CFG_MINT, GDN_SECSEL_IDX, GDN_SECW0_ALONG, GDN_SECW0_LAT, GDN_SECW1_WIDTH, GDN_SECW1_LATON, GDN_SECW1_LATOFF, GDN_SECW2_EPADDR, GDN_SECW2_COUNTM1, GDN_SECW2_SEN, GDN_SECST_SCHED, GDN_SECST_ACTUAL] ++
  [GDN_SECST_DEMAND, GDN_SECST_DISABLED, GDN_EPSEL_IDX, GDN_EPW0_KIND, GDN_EPW1_ONPOS, GDN_EPW2_OFFPOS, GDN_EVFIFO_EP, GDN_EVFIFO_ON, GDN_EVFIFO_EMPTY, GDN_EVFIFO_OFS, GDN_CNT_ONREF, GDN_CNT_LATEON, GDN_CNT_SHORT, GDN_IRQEN_EN, GDN_IRQ_EVT] ++
  ((List.range 2).map GDN_UMPC_UMPC) ++
  ((List.range 8).map GDN_GATE_GATE)

/-! The HLY registers. -/

def HLY_CTRL_EN : Fld := ⟨0x4000b000, 0, 1, .rws, .at .H, .installer, 0, false, false⟩
def HLY_CTRL_PORTEN : Fld := ⟨0x4000b000, 1, 2, .rws, .at .H, .installer, 0, false, false⟩
def HLY_CTRL_OWNER : Fld := ⟨0x4000b000, 3, 1, .rws, .at .H, .maker, 0, false, false⟩
def HLY_CTRL_ENSEN : Fld := ⟨0x4000b000, 4, 1, .rws, .at .H, .maker, 0, false, false⟩
def HLY_NODE_ADDR : Fld := ⟨0x4000b004, 0, 12, .rws, .at .H, .installer, 0, false, false⟩
def HLY_NODE_INST : Fld := ⟨0x4000b004, 12, 16, .rws, .at .H, .maker, 0, false, false⟩
def HLY_STS_RSTATE : Fld := ⟨0x4000b008, 0, 2, .ro, .none, .none, 0, false, false⟩
def HLY_STS_STMIS : Fld := ⟨0x4000b008, 2, 1, .w1c, .none, .operator, 0, false, false⟩
def HLY_STS_CONFLICT : Fld := ⟨0x4000b008, 3, 1, .w1c, .none, .operator, 0, false, false⟩
def HLY_STS_RETLATE : Fld := ⟨0x4000b008, 4, 1, .w1c, .none, .operator, 0, false, false⟩
def HLY_STS_RXOVF : Fld := ⟨0x4000b008, 5, 1, .w1c, .none, .operator, 0, false, false⟩
def HLY_STS_RETRYCFG : Fld := ⟨0x4000b008, 6, 1, .ro, .none, .none, 0, false, false⟩
def HLY_STS_CFGERR : Fld := ⟨0x4000b008, 7, 1, .w1c, .none, .operator, 0, false, false⟩
def HLY_STS_EVDEFER : Fld := ⟨0x4000b008, 8, 1, .w1c, .none, .operator, 0, false, false⟩
def HLY_STS_SAFETO : Fld := ⟨0x4000b008, 9, 1, .w1c, .none, .operator, 0, false, false⟩
def HLY_PORT_LSTATE (n : Nat) : Fld := ⟨0x4000b010 + 0x4 * n, 0, 2, .ro, .none, .none, 0, false, false⟩
def HLY_PORT_LOOP (n : Nat) : Fld := ⟨0x4000b010 + 0x4 * n, 2, 1, .ro, .none, .none, 0, false, false⟩
def HLY_PORT_LDLY (n : Nat) : Fld := ⟨0x4000b010 + 0x4 * n, 3, 13, .ro, .none, .none, 0, false, false⟩
def HLY_PORT_RES (n : Nat) : Fld := ⟨0x4000b010 + 0x4 * n, 16, 10, .ro, .none, .none, 0, false, false⟩
def HLY_STBASE_BASE : Fld := ⟨0x4000b018, 0, 32, .rws, .at .H, .installer, 0, false, false⟩
def HLY_TXBUF_BASE : Fld := ⟨0x4000b01c, 0, 32, .rws, .at .H, .installer, 0, false, false⟩
def HLY_RXBUF_BASE : Fld := ⟨0x4000b020, 0, 32, .rws, .at .H, .installer, 0, false, false⟩
def HLY_PATH_PATH : Fld := ⟨0x4000b024, 0, 23, .ro, .none, .none, 0, false, false⟩
def HLY_PATH_COPY : Fld := ⟨0x4000b024, 23, 1, .ro, .none, .none, 0, false, false⟩
def HLY_PATH_VALID : Fld := ⟨0x4000b024, 24, 1, .ro, .none, .none, 0, false, false⟩
def HLY_OWNSTS_NMISS : Fld := ⟨0x4000b028, 0, 12, .ro, .none, .none, 0, false, false⟩
def HLY_OWNSTS_RT : Fld := ⟨0x4000b028, 12, 20, .ro, .none, .none, 0, false, false⟩
def HLY_CFG_MISSN : Fld := ⟨0x4000b02c, 0, 4, .rws, .at .H, .installer, 4, false, false⟩
def HLY_CFG_RLATEN : Fld := ⟨0x4000b02c, 4, 4, .rws, .at .H, .installer, 4, false, false⟩
def HLY_CFG_LATEMAX : Fld := ⟨0x4000b02c, 8, 16, .rws, .at .O, .installer, 1000, false, false⟩
def HLY_CFG_ERRN : Fld := ⟨0x4000b02c, 24, 4, .rws, .at .H, .installer, 4, false, false⟩
def HLY_ACFG_ACKTO : Fld := ⟨0x4000b030, 0, 8, .rws, .at .O, .installer, 20, false, false⟩
def HLY_ACFG_HRETRY : Fld := ⟨0x4000b030, 8, 4, .rws, .at .O, .installer, 3, false, false⟩
def HLY_ACFG_TXTO : Fld := ⟨0x4000b030, 12, 16, .rws, .at .O, .installer, 100, false, false⟩
def HLY_SAFE_SWD : Fld := ⟨0x4000b034, 0, 8, .rws, .at .O, .maker, 4, false, false⟩
def HLY_SAFE_SEQWIN : Fld := ⟨0x4000b034, 8, 8, .rws, .at .O, .maker, 3, false, false⟩
def HLY_CNT_CRCERR : Fld := ⟨0x4000b038, 0, 8, .rw, .none, .operator, 0, false, false⟩
def HLY_CNT_EVLATE : Fld := ⟨0x4000b038, 8, 8, .rw, .none, .operator, 0, false, false⟩
def HLY_CNT_LATE : Fld := ⟨0x4000b038, 16, 8, .rw, .none, .operator, 0, false, false⟩
def HLY_CNT_NAKCNT : Fld := ⟨0x4000b038, 24, 8, .rw, .none, .operator, 0, false, false⟩
def HLY_ACQ_OUTST : Fld := ⟨0x4000b03c, 0, 7, .ro, .none, .none, 0, false, false⟩
def HLY_ACQ_BUSYCNT : Fld := ⟨0x4000b03c, 8, 8, .rw, .none, .operator, 0, false, false⟩
def HLY_IRQEN_EN : Fld := ⟨0x4000b040, 0, 8, .rws, .at .O, .operator, 0, false, false⟩
def HLY_IRQ_EVT : Fld := ⟨0x4000b044, 0, 8, .w1c, .none, .operator, 0, false, false⟩

/-- Every field of the HLY registers. -/
def hlyTable : List Fld :=
  [HLY_CTRL_EN, HLY_CTRL_PORTEN, HLY_CTRL_OWNER, HLY_CTRL_ENSEN, HLY_NODE_ADDR, HLY_NODE_INST, HLY_STS_RSTATE, HLY_STS_STMIS, HLY_STS_CONFLICT, HLY_STS_RETLATE, HLY_STS_RXOVF, HLY_STS_RETRYCFG, HLY_STS_CFGERR, HLY_STS_EVDEFER, HLY_STS_SAFETO, HLY_STBASE_BASE, HLY_TXBUF_BASE, HLY_RXBUF_BASE, HLY_PATH_PATH, HLY_PATH_COPY, HLY_PATH_VALID, HLY_OWNSTS_NMISS, HLY_OWNSTS_RT, HLY_CFG_MISSN] ++
  [HLY_CFG_RLATEN, HLY_CFG_LATEMAX, HLY_CFG_ERRN, HLY_ACFG_ACKTO, HLY_ACFG_HRETRY, HLY_ACFG_TXTO, HLY_SAFE_SWD, HLY_SAFE_SEQWIN, HLY_CNT_CRCERR, HLY_CNT_EVLATE, HLY_CNT_LATE, HLY_CNT_NAKCNT, HLY_ACQ_OUTST, HLY_ACQ_BUSYCNT, HLY_IRQEN_EN, HLY_IRQ_EVT] ++
  ((List.range 2).map HLY_PORT_LSTATE) ++
  ((List.range 2).map HLY_PORT_LOOP) ++
  ((List.range 2).map HLY_PORT_LDLY) ++
  ((List.range 2).map HLY_PORT_RES)

/-! The CMP registers. -/

def CMP_DUPBASE_BASE : Fld := ⟨0x40014000, 0, 32, .rw, .none, .maker, 0, true, false⟩
def CMP_DUPSIZE_SIZE : Fld := ⟨0x40014004, 0, 20, .rw, .none, .maker, 0, true, false⟩
def CMP_STS_MIS : Fld := ⟨0x40014008, 0, 1, .ro, .none, .none, 0, false, false⟩
def CMP_STS_MISKIND : Fld := ⟨0x40014008, 1, 3, .ro, .none, .none, 0, false, false⟩
def CMP_STS_COPYBUSY : Fld := ⟨0x40014008, 4, 1, .ro, .none, .none, 0, false, false⟩
def CMP_STS_DUPSET : Fld := ⟨0x40014008, 5, 1, .ro, .none, .none, 0, false, false⟩
def CMP_STS_DUPERR : Fld := ⟨0x40014008, 6, 1, .w1c, .none, .operator, 0, false, false⟩
def CMP_STS_TOLERR : Fld := ⟨0x40014008, 7, 1, .w1c, .none, .operator, 0, false, false⟩
def CMP_MISADDR_ADDR : Fld := ⟨0x4001400c, 0, 32, .ro, .none, .none, 0, false, false⟩
def CMP_MISMAIN_MAIN : Fld := ⟨0x40014010, 0, 32, .ro, .none, .none, 0, false, false⟩
def CMP_MISCHK_CHK : Fld := ⟨0x40014014, 0, 32, .ro, .none, .none, 0, false, false⟩
def CMP_FRAMEL_LINE : Fld := ⟨0x40014020, 0, 20, .rws, .at .H, .installer, 0, false, false⟩
def CMP_LAG_LAST : Fld := ⟨0x40014024, 0, 12, .ro, .none, .none, 0, false, false⟩
def CMP_LAG_MAX : Fld := ⟨0x40014024, 16, 12, .rw, .none, .operator, 0, false, false⟩
def CMP_CNT_GPASS : Fld := ⟨0x40014028, 0, 16, .rw, .none, .operator, 0, false, false⟩
def CMP_CNT_STALLG : Fld := ⟨0x40014028, 16, 8, .rw, .none, .operator, 0, false, false⟩
def CMP_CNT_STALLP : Fld := ⟨0x40014028, 24, 8, .rw, .none, .operator, 0, false, false⟩
def CMP_TOLADDR_ADDR (n : Nat) : Fld := ⟨0x40014040 + 0x8 * n, 0, 32, .rws, .at .O, .maker, 0, false, false⟩
def CMP_TOL_TOL (n : Nat) : Fld := ⟨0x40014044 + 0x8 * n, 0, 24, .rws, .at .O, .maker, 0, false, false⟩
def CMP_TOL_FMT (n : Nat) : Fld := ⟨0x40014044 + 0x8 * n, 24, 2, .rws, .at .O, .maker, 0, false, false⟩
def CMP_TOL_EN (n : Nat) : Fld := ⟨0x40014044 + 0x8 * n, 26, 1, .rws, .at .O, .maker, 0, false, false⟩

/-- Every field of the CMP registers. -/
def cmpTable : List Fld :=
  [CMP_DUPBASE_BASE, CMP_DUPSIZE_SIZE, CMP_STS_MIS, CMP_STS_MISKIND, CMP_STS_COPYBUSY, CMP_STS_DUPSET, CMP_STS_DUPERR, CMP_STS_TOLERR, CMP_MISADDR_ADDR, CMP_MISMAIN_MAIN, CMP_MISCHK_CHK, CMP_FRAMEL_LINE, CMP_LAG_LAST, CMP_LAG_MAX, CMP_CNT_GPASS, CMP_CNT_STALLG, CMP_CNT_STALLP] ++
  ((List.range 16).map CMP_TOLADDR_ADDR) ++
  ((List.range 16).map CMP_TOL_TOL) ++
  ((List.range 16).map CMP_TOL_FMT) ++
  ((List.range 16).map CMP_TOL_EN)

/-! The DBG registers. -/

def DBG_CTRL_OPEN : Fld := ⟨0x40015000, 0, 1, .rw, .none, .maker, 0, false, false⟩
def DBG_CTRL_HALT : Fld := ⟨0x40015000, 1, 1, .wo, .none, .maker, 0, false, false⟩
def DBG_CTRL_RESUME : Fld := ⟨0x40015000, 2, 1, .wo, .none, .maker, 0, false, false⟩
def DBG_CTRL_STEP : Fld := ⟨0x40015000, 3, 1, .wo, .none, .maker, 0, false, false⟩
def DBG_STS_STATE : Fld := ⟨0x40015004, 0, 2, .ro, .none, .none, 0, false, false⟩
def DBG_STS_LOCKED : Fld := ⟨0x40015004, 2, 1, .ro, .none, .none, 0, false, false⟩
def DBG_STS_REFUSED : Fld := ⟨0x40015004, 3, 1, .w1c, .none, .operator, 0, false, false⟩
def DBG_BP_ADDR (n : Nat) : Fld := ⟨0x40015010 + 0x4 * n, 2, 30, .rw, .none, .maker, 0, false, false⟩
def DBG_BP_EN (n : Nat) : Fld := ⟨0x40015010 + 0x4 * n, 0, 1, .rw, .none, .maker, 0, false, false⟩
def DBG_REGSEL_SEL : Fld := ⟨0x40015020, 0, 12, .rw, .none, .maker, 0, false, false⟩
def DBG_REGDATA_DATA : Fld := ⟨0x40015024, 0, 32, .rw, .none, .maker, 0, false, false⟩
def DBG_MEMADDR_ADDR : Fld := ⟨0x40015028, 0, 32, .rw, .none, .maker, 0, false, false⟩
def DBG_MEMDATA_DATA : Fld := ⟨0x4001502c, 0, 32, .rw, .none, .maker, 0, false, false⟩

/-- Every field of the DBG registers. -/
def dbgTable : List Fld :=
  [DBG_CTRL_OPEN, DBG_CTRL_HALT, DBG_CTRL_RESUME, DBG_CTRL_STEP, DBG_STS_STATE, DBG_STS_LOCKED, DBG_STS_REFUSED, DBG_REGSEL_SEL, DBG_REGDATA_DATA, DBG_MEMADDR_ADDR, DBG_MEMDATA_DATA] ++
  ((List.range 4).map DBG_BP_ADDR) ++
  ((List.range 4).map DBG_BP_EN)

/-! The SSS registers. -/

def SSS_CMD_CODE : Fld := ⟨0x4000d000, 0, 4, .wo, .none, .operator, 0, true, false⟩
def SSS_STS_DSTATE : Fld := ⟨0x4000d004, 0, 3, .ro, .none, .none, 4, false, false⟩
def SSS_STS_SAFEST : Fld := ⟨0x4000d004, 3, 2, .ro, .none, .none, 1, false, false⟩
def SSS_STS_OVR : Fld := ⟨0x4000d004, 5, 1, .ro, .none, .none, 1, false, false⟩
def SSS_STS_HBLOSS : Fld := ⟨0x4000d004, 6, 1, .ro, .none, .none, 0, false, false⟩
def SSS_STS_HBSRC : Fld := ⟨0x4000d004, 7, 3, .ro, .none, .none, 0, false, false⟩
def SSS_STS_TBLSTALE : Fld := ⟨0x4000d004, 10, 1, .ro, .none, .none, 0, false, false⟩
def SSS_STS_NOTBL : Fld := ⟨0x4000d004, 11, 1, .ro, .none, .none, 1, false, false⟩
def SSS_STS_VIOLOST : Fld := ⟨0x4000d004, 12, 1, .w1c, .none, .operator, 0, false, false⟩
def SSS_STS_WINDREL : Fld := ⟨0x4000d004, 13, 1, .ro, .none, .none, 0, false, false⟩
def SSS_STS_SS1RUN : Fld := ⟨0x4000d004, 14, 1, .ro, .none, .none, 0, false, false⟩
def SSS_STS_CMDREF : Fld := ⟨0x4000d004, 15, 1, .w1c, .none, .operator, 0, false, false⟩
def SSS_STS_REFCODE : Fld := ⟨0x4000d004, 16, 4, .ro, .none, .none, 0, false, false⟩
def SSS_STS_TBUSY : Fld := ⟨0x4000d004, 20, 1, .ro, .none, .none, 0, false, false⟩
def SSS_STS_TFAIL : Fld := ⟨0x4000d004, 21, 1, .w1c, .none, .operator, 0, false, false⟩
def SSS_STS_PADS : Fld := ⟨0x4000d004, 22, 6, .ro, .none, .none, 0, false, false⟩
def SSS_CFG_HBTO : Fld := ⟨0x4000d008, 0, 12, .rws, .at .H, .maker, 32, false, true⟩
def SSS_CFG_ASCDLY : Fld := ⟨0x4000d008, 12, 8, .rws, .at .H, .maker, 24, false, true⟩
def SSS_CFG_SIDE : Fld := ⟨0x4000d008, 20, 1, .rws, .at .H, .maker, 0, false, true⟩
def SSS_CFG_DEFST : Fld := ⟨0x4000d008, 21, 2, .rws, .at .H, .maker, 1, false, true⟩
def SSS_HYS_HYST : Fld := ⟨0x4000d00c, 0, 16, .rws, .at .O, .maker, 40, false, true⟩
def SSS_SPD_THR : Fld := ⟨0x4000d010, 0, 16, .ro, .none, .none, 0, false, false⟩
def SSS_SPD_SPEED : Fld := ⟨0x4000d010, 16, 16, .ro, .none, .none, 0, false, false⟩
def SSS_SS1_SS1TMAX : Fld := ⟨0x4000d014, 0, 16, .rws, .at .H, .maker, 15000, false, true⟩
def SSS_SS1_SS1START : Fld := ⟨0x4000d014, 16, 8, .rws, .at .H, .maker, 6, false, true⟩
def SSS_TEST_TEST : Fld := ⟨0x4000d018, 0, 3, .wo, .none, .maker, 0, false, true⟩
def SSS_ENSIGN_ENSIGN : Fld := ⟨0x4000d01c, 0, 32, .ro, .none, .none, 0, false, false⟩

/-- Every field of the SSS registers. -/
def sssTable : List Fld :=
  [SSS_CMD_CODE, SSS_STS_DSTATE, SSS_STS_SAFEST, SSS_STS_OVR, SSS_STS_HBLOSS, SSS_STS_HBSRC, SSS_STS_TBLSTALE, SSS_STS_NOTBL, SSS_STS_VIOLOST, SSS_STS_WINDREL, SSS_STS_SS1RUN, SSS_STS_CMDREF, SSS_STS_REFCODE, SSS_STS_TBUSY, SSS_STS_TFAIL, SSS_STS_PADS, SSS_CFG_HBTO, SSS_CFG_ASCDLY, SSS_CFG_SIDE, SSS_CFG_DEFST, SSS_HYS_HYST, SSS_SPD_THR, SSS_SPD_SPEED, SSS_SS1_SS1TMAX] ++
  [SSS_SS1_SS1START, SSS_TEST_TEST, SSS_ENSIGN_ENSIGN]

/-! The SAF registers. -/

def SAF_PAIR_TYPE (n : Nat) : Fld := ⟨0x4000c000 + 0x4 * n, 0, 3, .rws, .at .H, .maker, 0, false, true⟩
def SAF_PAIR_TPEN (n : Nat) : Fld := ⟨0x4000c000 + 0x4 * n, 3, 1, .rws, .at .H, .maker, 1, false, true⟩
def SAF_PAIR_AUTORST (n : Nat) : Fld := ⟨0x4000c000 + 0x4 * n, 4, 1, .rws, .at .H, .maker, 0, false, true⟩
def SAF_PAIR_FILT (n : Nat) : Fld := ⟨0x4000c000 + 0x4 * n, 5, 4, .rws, .at .H, .maker, 4, false, true⟩
def SAF_PAIR_TD (n : Nat) : Fld := ⟨0x4000c000 + 0x4 * n, 9, 11, .rws, .at .H, .maker, 100, false, true⟩
def SAF_PAIR_REACT (n : Nat) : Fld := ⟨0x4000c000 + 0x4 * n, 20, 7, .rws, .at .H, .maker, 2, false, true⟩
def SAF_STS_DEMAND : Fld := ⟨0x4000c014, 0, 5, .ro, .none, .none, 0, false, false⟩
def SAF_STS_LOCK : Fld := ⟨0x4000c014, 5, 5, .ro, .none, .none, 0, false, false⟩
def SAF_STS_RSTREQ : Fld := ⟨0x4000c014, 10, 5, .ro, .none, .none, 0, false, false⟩
def SAF_STS_TPERR : Fld := ⟨0x4000c014, 15, 5, .w1c, .none, .operator, 0, false, false⟩
def SAF_STS_DISC : Fld := ⟨0x4000c014, 20, 5, .w1c, .none, .operator, 0, false, false⟩
def SAF_STS_VIOLOST : Fld := ⟨0x4000c014, 25, 1, .w1c, .none, .operator, 0, false, false⟩
def SAF_STS_THEN : Fld := ⟨0x4000c014, 26, 2, .ro, .none, .none, 0, false, false⟩
def SAF_RESET_RST : Fld := ⟨0x4000c018, 0, 5, .wo, .none, .operator, 0, true, false⟩
def SAF_TP_TPP : Fld := ⟨0x4000c01c, 0, 10, .rws, .at .H, .maker, 100, false, true⟩
def SAF_TP_TPW : Fld := ⟨0x4000c01c, 10, 9, .rws, .at .H, .maker, 100, false, true⟩
def SAF_TP_TEST : Fld := ⟨0x4000c01c, 19, 1, .rw, .none, .maker, 0, false, true⟩
def SAF_TP_HOLDB : Fld := ⟨0x4000c01c, 20, 1, .rw, .none, .maker, 0, false, true⟩
def SAF_OUT_ON : Fld := ⟨0x4000c020, 0, 2, .rw, .none, .operator, 0, true, false⟩
def SAF_OUT_OPEN : Fld := ⟨0x4000c020, 2, 2, .rws, .at .H, .maker, 3, true, true⟩
def SAF_OUT_LEVEL : Fld := ⟨0x4000c020, 4, 2, .ro, .none, .none, 0, true, false⟩
def SAF_OUT_LATCHOFF : Fld := ⟨0x4000c020, 6, 2, .ro, .none, .none, 0, true, false⟩
def SAF_OUT_RBERR : Fld := ⟨0x4000c020, 8, 2, .w1c, .none, .operator, 0, true, false⟩
def SAF_OPT_OPP : Fld := ⟨0x4000c024, 0, 10, .rws, .at .H, .maker, 100, false, true⟩
def SAF_OPT_OPW : Fld := ⟨0x4000c024, 10, 9, .rws, .at .H, .maker, 300, false, true⟩
def SAF_OPT_SFBN : Fld := ⟨0x4000c024, 19, 4, .rws, .at .H, .maker, 2, false, true⟩
def SAF_DISC_AGE : Fld := ⟨0x4000c028, 0, 16, .ro, .none, .none, 0, false, false⟩
def SAF_DISC_PAIR : Fld := ⟨0x4000c028, 16, 3, .ro, .none, .none, 0, false, false⟩
def SAF_IRQEN_EN : Fld := ⟨0x4000c030, 0, 5, .rws, .at .O, .operator, 0, false, false⟩
def SAF_IRQ_EVT : Fld := ⟨0x4000c034, 0, 5, .w1c, .none, .operator, 0, false, false⟩

/-- Every field of the SAF registers. -/
def safTable : List Fld :=
  [SAF_STS_DEMAND, SAF_STS_LOCK, SAF_STS_RSTREQ, SAF_STS_TPERR, SAF_STS_DISC, SAF_STS_VIOLOST, SAF_STS_THEN, SAF_RESET_RST, SAF_TP_TPP, SAF_TP_TPW, SAF_TP_TEST, SAF_TP_HOLDB, SAF_OUT_ON, SAF_OUT_OPEN, SAF_OUT_LEVEL, SAF_OUT_LATCHOFF, SAF_OUT_RBERR, SAF_OPT_OPP, SAF_OPT_OPW, SAF_OPT_SFBN, SAF_DISC_AGE, SAF_DISC_PAIR, SAF_IRQEN_EN, SAF_IRQ_EVT] ++
  ((List.range 5).map SAF_PAIR_TYPE) ++
  ((List.range 5).map SAF_PAIR_TPEN) ++
  ((List.range 5).map SAF_PAIR_AUTORST) ++
  ((List.range 5).map SAF_PAIR_FILT) ++
  ((List.range 5).map SAF_PAIR_TD) ++
  ((List.range 5).map SAF_PAIR_REACT)

/-! The FLT registers. -/

def FLT_STS_QLEVEL : Fld := ⟨0x4000e000, 0, 5, .ro, .none, .none, 0, false, false⟩
def FLT_STS_PCLASS : Fld := ⟨0x4000e000, 5, 3, .ro, .none, .none, 0, false, false⟩
def FLT_STS_HELD : Fld := ⟨0x4000e000, 8, 4, .ro, .none, .none, 0, false, false⟩
def FLT_STS_OVF : Fld := ⟨0x4000e000, 12, 1, .w1c, .none, .installer, 0, false, false⟩
def FLT_STS_CLRREF : Fld := ⟨0x4000e000, 13, 1, .w1c, .none, .operator, 0, false, false⟩
def FLT_STS_JLOST : Fld := ⟨0x4000e000, 14, 1, .w1c, .none, .operator, 0, false, false⟩
def FLT_STS_ESCERR : Fld := ⟨0x4000e000, 15, 1, .w1c, .none, .operator, 0, false, false⟩
def FLT_STS_NFLOW : Fld := ⟨0x4000e000, 16, 1, .ro, .none, .none, 0, false, false⟩
def FLT_CFG_CDER : Fld := ⟨0x4000e004, 0, 8, .rws, .at .O, .maker, 128, false, false⟩
def FLT_CFG_NFC : Fld := ⟨0x4000e004, 8, 1, .rws, .at .O, .installer, 0, false, false⟩
def FLT_CLR_ID : Fld := ⟨0x4000e008, 0, 16, .wo, .none, .operator, 0, true, false⟩
def FLT_CLR_ALL : Fld := ⟨0x4000e008, 16, 1, .wo, .none, .operator, 0, true, false⟩
def FLT_LAST_ID : Fld := ⟨0x4000e00c, 0, 16, .ro, .none, .none, 0, false, false⟩
def FLT_LAST_CLASS : Fld := ⟨0x4000e00c, 16, 2, .ro, .none, .none, 0, false, false⟩
def FLT_LAST_DETAIL : Fld := ⟨0x4000e00c, 18, 8, .ro, .none, .none, 0, false, false⟩
def FLT_LASTT_TICK : Fld := ⟨0x4000e010, 0, 32, .ro, .none, .none, 0, false, false⟩
def FLT_SEL_ID : Fld := ⟨0x4000e014, 0, 16, .rw, .none, .operator, 0, false, false⟩
def FLT_INFO_ACTIVE : Fld := ⟨0x4000e018, 0, 1, .ro, .none, .none, 0, false, false⟩
def FLT_INFO_QUEUED : Fld := ⟨0x4000e018, 1, 1, .ro, .none, .none, 0, false, false⟩
def FLT_INFO_CLASS : Fld := ⟨0x4000e018, 2, 2, .ro, .none, .none, 0, false, false⟩
def FLT_INFO_OCC : Fld := ⟨0x4000e018, 4, 12, .ro, .none, .none, 0, false, false⟩
def FLT_INFO_DETAIL : Fld := ⟨0x4000e018, 16, 8, .ro, .none, .none, 0, false, false⟩
def FLT_INFO_CLRABLE : Fld := ⟨0x4000e018, 24, 1, .ro, .none, .none, 0, false, false⟩
def FLT_IRQEN_EN : Fld := ⟨0x4000e020, 0, 7, .rws, .at .O, .operator, 3, false, false⟩
def FLT_IRQ_EVT : Fld := ⟨0x4000e024, 0, 7, .w1c, .none, .operator, 0, false, false⟩
def FLT_ESC_ID (n : Nat) : Fld := ⟨0x4000e040 + 0x4 * n, 0, 16, .rws, .at .H, .maker, 0, false, true⟩
def FLT_ESC_CLASS (n : Nat) : Fld := ⟨0x4000e040 + 0x4 * n, 16, 2, .rws, .at .H, .maker, 1, false, true⟩
def FLT_ESC_EN (n : Nat) : Fld := ⟨0x4000e040 + 0x4 * n, 18, 1, .rws, .at .H, .maker, 0, false, true⟩

/-- Every field of the FLT registers. -/
def fltTable : List Fld :=
  [FLT_STS_QLEVEL, FLT_STS_PCLASS, FLT_STS_HELD, FLT_STS_OVF, FLT_STS_CLRREF, FLT_STS_JLOST, FLT_STS_ESCERR, FLT_STS_NFLOW, FLT_CFG_CDER, FLT_CFG_NFC, FLT_CLR_ID, FLT_CLR_ALL, FLT_LAST_ID, FLT_LAST_CLASS, FLT_LAST_DETAIL, FLT_LASTT_TICK, FLT_SEL_ID, FLT_INFO_ACTIVE, FLT_INFO_QUEUED, FLT_INFO_CLASS, FLT_INFO_OCC, FLT_INFO_DETAIL, FLT_INFO_CLRABLE, FLT_IRQEN_EN] ++
  [FLT_IRQ_EVT] ++
  ((List.range 8).map FLT_ESC_ID) ++
  ((List.range 8).map FLT_ESC_CLASS) ++
  ((List.range 8).map FLT_ESC_EN)

/-! The THM registers. -/

def THM_CTRL_PTEN : Fld := ⟨0x4000f000, 0, 1, .rws, .at .O, .maker, 1, false, false⟩
def THM_CTRL_DTEN : Fld := ⟨0x4000f000, 1, 1, .rws, .at .O, .maker, 1, false, false⟩
def THM_STS_PLEVEL : Fld := ⟨0x4000f004, 0, 2, .ro, .none, .none, 0, false, false⟩
def THM_STS_DLEVEL : Fld := ⟨0x4000f004, 2, 2, .ro, .none, .none, 0, false, false⟩
def THM_STS_FACTOR : Fld := ⟨0x4000f004, 4, 9, .ro, .none, .none, 256, false, false⟩
def THM_STS_ORDER : Fld := ⟨0x4000f004, 13, 1, .ro, .none, .none, 0, false, false⟩
def THM_STS_STALE : Fld := ⟨0x4000f004, 14, 1, .w1c, .none, .operator, 0, false, false⟩
def THM_STS_PIMPL : Fld := ⟨0x4000f004, 15, 1, .w1c, .none, .operator, 0, false, false⟩
def THM_STS_DIMPL : Fld := ⟨0x4000f004, 16, 1, .w1c, .none, .operator, 0, false, false⟩
def THM_STS_REENREF : Fld := ⟨0x4000f004, 17, 1, .w1c, .none, .operator, 0, false, false⟩
def THM_STS_LIFEX : Fld := ⟨0x4000f004, 18, 1, .ro, .none, .none, 0, false, false⟩
def THM_PTHR_W : Fld := ⟨0x4000f008, 0, 8, .rws, .at .O, .maker, 150, false, false⟩
def THM_PTHR_HM : Fld := ⟨0x4000f008, 8, 8, .rws, .at .O, .maker, 165, false, false⟩
def THM_PTHR_SD : Fld := ⟨0x4000f008, 16, 8, .rws, .at .O, .maker, 175, false, false⟩
def THM_PTHR_LIM : Fld := ⟨0x4000f008, 24, 8, .rws, .at .O, .maker, 180, false, false⟩
def THM_DTHR_W : Fld := ⟨0x4000f00c, 0, 8, .rws, .at .O, .maker, 135, false, false⟩
def THM_DTHR_HM : Fld := ⟨0x4000f00c, 8, 8, .rws, .at .O, .maker, 142, false, false⟩
def THM_DTHR_SD : Fld := ⟨0x4000f00c, 16, 8, .rws, .at .O, .maker, 148, false, false⟩
def THM_DTHR_LIM : Fld := ⟨0x4000f00c, 24, 8, .rws, .at .O, .maker, 150, false, false⟩
def THM_HYS_PH : Fld := ⟨0x4000f010, 0, 5, .rws, .at .O, .maker, 10, false, false⟩
def THM_HYS_DH : Fld := ⟨0x4000f010, 5, 5, .rws, .at .O, .maker, 6, false, false⟩
def THM_HYS_HMMIN : Fld := ⟨0x4000f010, 10, 8, .rws, .at .O, .maker, 128, false, false⟩
def THM_HYS_HMREC : Fld := ⟨0x4000f010, 18, 8, .rws, .at .O, .maker, 5, false, false⟩
def THM_OSTOP_OSTOP : Fld := ⟨0x4000f014, 0, 16, .rws, .at .O, .maker, 2000, false, false⟩
def THM_OSTOP_STALEN : Fld := ⟨0x4000f014, 16, 8, .rws, .at .O, .maker, 4, false, false⟩
def THM_IN_CREF : Fld := ⟨0x4000f018, 0, 4, .rws, .at .O, .installer, 0, false, false⟩
def THM_IN_PNTC : Fld := ⟨0x4000f018, 4, 4, .rws, .at .O, .installer, 1, false, false⟩
def THM_IN_DREF : Fld := ⟨0x4000f018, 8, 4, .rws, .at .O, .installer, 2, false, false⟩
def THM_IN_DDIO : Fld := ⟨0x4000f018, 12, 4, .rws, .at .O, .installer, 3, false, false⟩
def THM_IN_DTAFIX : Fld := ⟨0x4000f018, 16, 8, .rws, .at .O, .installer, 85, false, false⟩
def THM_IN_DREFEN : Fld := ⟨0x4000f018, 24, 1, .rws, .at .O, .installer, 0, false, false⟩
def THM_ADP_ADPSH : Fld := ⟨0x4000f01c, 0, 4, .rws, .at .O, .maker, 8, false, false⟩
def THM_ADP_ADPMAX : Fld := ⟨0x4000f01c, 4, 5, .rws, .at .O, .maker, 5, false, false⟩
def THM_ADP_PLAUS : Fld := ⟨0x4000f01c, 9, 8, .rws, .at .O, .maker, 15, false, false⟩
def THM_ADP_PLN : Fld := ⟨0x4000f01c, 17, 8, .rws, .at .O, .maker, 16, false, false⟩
def THM_DFOS_RTH (n : Nat) : Fld := ⟨0x4000f020 + 0x4 * n, 0, 16, .rws, .at .O, .maker, ([50, 150, 600, 1400].getD n 0), false, false⟩
def THM_DFOS_TAU (n : Nat) : Fld := ⟨0x4000f020 + 0x4 * n, 16, 16, .rws, .at .O, .maker, ([1, 20, 800, 30000].getD n 0), false, false⟩
def THM_TJ_PTJ : Fld := ⟨0x4000f030, 0, 16, .ro, .none, .none, 0, false, false⟩
def THM_TJ_DTJ : Fld := ⟨0x4000f030, 16, 16, .ro, .none, .none, 0, false, false⟩
def THM_PRED_TPRED : Fld := ⟨0x4000f034, 0, 16, .ro, .none, .none, 65535, false, false⟩
def THM_PRED_POFS : Fld := ⟨0x4000f034, 16, 8, .ro, .none, .none, 0, false, false⟩
def THM_PRED_DOFS : Fld := ⟨0x4000f034, 24, 8, .ro, .none, .none, 0, false, false⟩
def THM_REEN_REEN : Fld := ⟨0x4000f038, 0, 1, .wo, .none, .operator, 0, true, false⟩
def THM_LIFE_HOURS (n : Nat) : Fld := ⟨0x4000f040 + 0x4 * n, 0, 32, .ro, .none, .none, 0, false, false⟩
def THM_KEYS_KEYS : Fld := ⟨0x4000f050, 0, 32, .ro, .none, .none, 0, false, false⟩
def THM_IRQEN_EN : Fld := ⟨0x4000f058, 0, 4, .rws, .at .O, .operator, 0, false, false⟩
def THM_IRQ_EVT : Fld := ⟨0x4000f05c, 0, 4, .w1c, .none, .operator, 0, false, false⟩

/-- Every field of the THM registers. -/
def thmTable : List Fld :=
  [THM_CTRL_PTEN, THM_CTRL_DTEN, THM_STS_PLEVEL, THM_STS_DLEVEL, THM_STS_FACTOR, THM_STS_ORDER, THM_STS_STALE, THM_STS_PIMPL, THM_STS_DIMPL, THM_STS_REENREF, THM_STS_LIFEX, THM_PTHR_W, THM_PTHR_HM, THM_PTHR_SD, THM_PTHR_LIM, THM_DTHR_W, THM_DTHR_HM, THM_DTHR_SD, THM_DTHR_LIM, THM_HYS_PH, THM_HYS_DH, THM_HYS_HMMIN, THM_HYS_HMREC, THM_OSTOP_OSTOP] ++
  [THM_OSTOP_STALEN, THM_IN_CREF, THM_IN_PNTC, THM_IN_DREF, THM_IN_DDIO, THM_IN_DTAFIX, THM_IN_DREFEN, THM_ADP_ADPSH, THM_ADP_ADPMAX, THM_ADP_PLAUS, THM_ADP_PLN, THM_TJ_PTJ, THM_TJ_DTJ, THM_PRED_TPRED, THM_PRED_POFS, THM_PRED_DOFS, THM_REEN_REEN, THM_KEYS_KEYS, THM_IRQEN_EN, THM_IRQ_EVT] ++
  ((List.range 4).map THM_DFOS_RTH) ++
  ((List.range 4).map THM_DFOS_TAU) ++
  ((List.range 4).map THM_LIFE_HOURS)

/-! The BST registers. -/

def BST_REQ_MASK : Fld := ⟨0x40010000, 0, 17, .wo, .none, .operator, 0, false, false⟩
def BST_STS_ISO : Fld := ⟨0x40010004, 0, 17, .ro, .none, .none, 0, false, false⟩
def BST_STS_BUSY : Fld := ⟨0x40010004, 17, 1, .ro, .none, .none, 0, false, false⟩
def BST_STS_ABORTS : Fld := ⟨0x40010004, 18, 8, .rw, .none, .operator, 0, false, false⟩
def BST_CFG_PLIM : Fld := ⟨0x40010008, 0, 12, .rws, .at .O, .maker, 2100, false, false⟩
def BST_CFG_TWAIT : Fld := ⟨0x40010008, 12, 16, .rws, .at .O, .installer, 100, false, false⟩
def BST_RES0_RES : Fld := ⟨0x40010010, 0, 30, .ro, .none, .none, 0, false, false⟩
def BST_RES1_RES : Fld := ⟨0x40010014, 0, 21, .ro, .none, .none, 0, false, false⟩
def BST_PWR_P : Fld := ⟨0x40010018, 0, 12, .ro, .none, .none, 0, false, false⟩
def BST_PWR_PEAK : Fld := ⟨0x40010018, 12, 12, .rw, .none, .operator, 0, false, false⟩
def BST_IRQEN_EN : Fld := ⟨0x4001001c, 0, 3, .rws, .at .O, .operator, 0, false, false⟩
def BST_IRQ_EVT : Fld := ⟨0x40010020, 0, 3, .w1c, .none, .operator, 0, false, false⟩

/-- Every field of the BST registers. -/
def bstTable : List Fld :=
  [BST_REQ_MASK, BST_STS_ISO, BST_STS_BUSY, BST_STS_ABORTS, BST_CFG_PLIM, BST_CFG_TWAIT, BST_RES0_RES, BST_RES1_RES, BST_PWR_P, BST_PWR_PEAK, BST_IRQEN_EN, BST_IRQ_EVT]

/-! The HSP registers. -/

def HSP_CFG_DUMMY : Fld := ⟨0x40011000, 0, 5, .rw, .none, .installer, 16, false, false⟩
def HSP_STS_HCRCCNT : Fld := ⟨0x40011004, 0, 8, .rw, .none, .operator, 0, false, false⟩
def HSP_STS_DCRCCNT : Fld := ⟨0x40011004, 8, 8, .rw, .none, .operator, 0, false, false⟩
def HSP_STS_ABORTCNT : Fld := ⟨0x40011004, 16, 8, .rw, .none, .operator, 0, false, false⟩
def HSP_STS_LATEHELD : Fld := ⟨0x40011004, 24, 1, .ro, .none, .none, 0, false, false⟩
def HSP_IRQEN_EN : Fld := ⟨0x40011008, 0, 5, .rws, .at .O, .operator, 1, false, false⟩
def HSP_IRQ_EVT : Fld := ⟨0x4001100c, 0, 5, .w1c, .none, .operator, 0, false, false⟩

/-- Every field of the HSP registers. -/
def hspTable : List Fld :=
  [HSP_CFG_DUMMY, HSP_STS_HCRCCNT, HSP_STS_DCRCCNT, HSP_STS_ABORTCNT, HSP_STS_LATEHELD, HSP_IRQEN_EN, HSP_IRQ_EVT]

/-! The ROL registers. -/

def ROL_SES_ROLE (n : Nat) : Fld := ⟨0x40013000 + 0x4 * n, 0, 2, .ro, .none, .none, 0, false, false⟩
def ROL_SES_CHAN (n : Nat) : Fld := ⟨0x40013000 + 0x4 * n, 2, 2, .ro, .none, .none, 0, false, false⟩
def ROL_SES_NODE (n : Nat) : Fld := ⟨0x40013000 + 0x4 * n, 4, 12, .ro, .none, .none, 0, false, false⟩
def ROL_SES_IDLE (n : Nat) : Fld := ⟨0x40013000 + 0x4 * n, 16, 16, .ro, .none, .none, 0, false, false⟩
def ROL_LOCK_LOCKI : Fld := ⟨0x40013014, 0, 16, .ro, .none, .none, 0, false, false⟩
def ROL_LOCK_LOCKM : Fld := ⟨0x40013014, 16, 16, .ro, .none, .none, 0, false, false⟩
def ROL_JSTS_LEVEL : Fld := ⟨0x40013018, 0, 13, .ro, .none, .none, 0, false, false⟩
def ROL_JSTS_FULL : Fld := ⟨0x40013018, 13, 1, .ro, .none, .none, 0, false, false⟩
def ROL_JSTS_NOOVW : Fld := ⟨0x40013018, 14, 1, .ro, .none, .none, 0, false, false⟩
def ROL_JSEQ_NEWEST : Fld := ⟨0x4001301c, 0, 32, .ro, .none, .none, 0, false, false⟩
def ROL_KEY_KVERI : Fld := ⟨0x40013020, 0, 8, .ro, .none, .none, 0, false, false⟩
def ROL_KEY_KVERM : Fld := ⟨0x40013020, 8, 8, .ro, .none, .none, 0, false, false⟩
def ROL_KEY_KVALID : Fld := ⟨0x40013020, 16, 1, .ro, .none, .none, 0, false, false⟩

/-- Every field of the ROL registers. -/
def rolTable : List Fld :=
  [ROL_LOCK_LOCKI, ROL_LOCK_LOCKM, ROL_JSTS_LEVEL, ROL_JSTS_FULL, ROL_JSTS_NOOVW, ROL_JSEQ_NEWEST, ROL_KEY_KVERI, ROL_KEY_KVERM, ROL_KEY_KVALID] ++
  ((List.range 5).map ROL_SES_ROLE) ++
  ((List.range 5).map ROL_SES_CHAN) ++
  ((List.range 5).map ROL_SES_NODE) ++
  ((List.range 5).map ROL_SES_IDLE)

/-! The CAN registers. -/

def CAN_CTRL_EN (n : Nat) : Fld := ⟨0x40012000 + 0x800 * n, 0, 1, .rws, .at .O, .installer, 0, false, false⟩
def CAN_CTRL_FDEN (n : Nat) : Fld := ⟨0x40012000 + 0x800 * n, 1, 1, .rws, .at .H, .installer, 0, false, false⟩
def CAN_CTRL_BRSEN (n : Nat) : Fld := ⟨0x40012000 + 0x800 * n, 2, 1, .rws, .at .H, .installer, 0, false, false⟩
def CAN_CTRL_MON (n : Nat) : Fld := ⟨0x40012000 + 0x800 * n, 3, 1, .rws, .at .H, .installer, 0, false, false⟩
def CAN_CTRL_ROM (n : Nat) : Fld := ⟨0x40012000 + 0x800 * n, 4, 1, .rws, .at .H, .installer, 0, false, false⟩
def CAN_CTRL_AUTOREC (n : Nat) : Fld := ⟨0x40012000 + 0x800 * n, 5, 1, .rws, .at .H, .installer, 1, false, false⟩
def CAN_NBT_BRP (n : Nat) : Fld := ⟨0x40012004 + 0x800 * n, 0, 5, .rws, .at .H, .installer, 19, false, false⟩
def CAN_NBT_TSEG1 (n : Nat) : Fld := ⟨0x40012004 + 0x800 * n, 5, 8, .rws, .at .H, .installer, 12, false, false⟩
def CAN_NBT_TSEG2 (n : Nat) : Fld := ⟨0x40012004 + 0x800 * n, 13, 7, .rws, .at .H, .installer, 1, false, false⟩
def CAN_NBT_SJW (n : Nat) : Fld := ⟨0x40012004 + 0x800 * n, 20, 7, .rws, .at .H, .installer, 1, false, false⟩
def CAN_DBT_BRP (n : Nat) : Fld := ⟨0x40012008 + 0x800 * n, 0, 5, .rws, .at .H, .installer, 0, false, false⟩
def CAN_DBT_TSEG1 (n : Nat) : Fld := ⟨0x40012008 + 0x800 * n, 5, 5, .rws, .at .H, .installer, 29, false, false⟩
def CAN_DBT_TSEG2 (n : Nat) : Fld := ⟨0x40012008 + 0x800 * n, 10, 4, .rws, .at .H, .installer, 8, false, false⟩
def CAN_DBT_SJW (n : Nat) : Fld := ⟨0x40012008 + 0x800 * n, 14, 4, .rws, .at .H, .installer, 7, false, false⟩
def CAN_DBT_TDCEN (n : Nat) : Fld := ⟨0x40012008 + 0x800 * n, 18, 1, .rws, .at .H, .installer, 0, false, false⟩
def CAN_DBT_TDCO (n : Nat) : Fld := ⟨0x40012008 + 0x800 * n, 19, 7, .rws, .at .H, .installer, 0, false, false⟩
def CAN_STS_STATE (n : Nat) : Fld := ⟨0x4001200c + 0x800 * n, 0, 2, .ro, .none, .none, 3, false, false⟩
def CAN_STS_TEC (n : Nat) : Fld := ⟨0x4001200c + 0x800 * n, 2, 8, .ro, .none, .none, 0, false, false⟩
def CAN_STS_REC (n : Nat) : Fld := ⟨0x4001200c + 0x800 * n, 10, 7, .ro, .none, .none, 0, false, false⟩
def CAN_STS_OWNERR (n : Nat) : Fld := ⟨0x4001200c + 0x800 * n, 17, 1, .w1c, .none, .operator, 0, false, false⟩
def CAN_STS_RXOVF (n : Nat) : Fld := ⟨0x4001200c + 0x800 * n, 18, 1, .w1c, .none, .operator, 0, false, false⟩
def CAN_BUFCFG_TX (n : Nat) : Fld := ⟨0x40012010 + 0x800 * n, 0, 24, .rws, .at .H, .installer, 0, false, false⟩
def CAN_TXREQ_REQ (n : Nat) : Fld := ⟨0x40012014 + 0x800 * n, 0, 24, .wo, .none, .installer, 0, false, false⟩
def CAN_TXDONE_DONE (n : Nat) : Fld := ⟨0x40012018 + 0x800 * n, 0, 24, .w1c, .none, .operator, 0, false, false⟩
def CAN_RXNEW_NEW (n : Nat) : Fld := ⟨0x4001201c + 0x800 * n, 0, 24, .w1c, .none, .operator, 0, false, false⟩
def CAN_IRQEN_EN (n : Nat) : Fld := ⟨0x40012020 + 0x800 * n, 0, 5, .rws, .at .O, .operator, 0, false, false⟩
def CAN_IRQ_EVT (n : Nat) : Fld := ⟨0x40012024 + 0x800 * n, 0, 5, .w1c, .none, .operator, 0, false, false⟩
def CAN_FLTID_ID (n j : Nat) : Fld := ⟨0x40012040 + 0x800 * n + 8 * j, 0, 29, .rws, .at .H, .installer, 0, false, false⟩
def CAN_FLTID_XTD (n j : Nat) : Fld := ⟨0x40012040 + 0x800 * n + 8 * j, 29, 1, .rws, .at .H, .installer, 0, false, false⟩
def CAN_FLTID_EN (n j : Nat) : Fld := ⟨0x40012040 + 0x800 * n + 8 * j, 30, 1, .rws, .at .H, .installer, 0, false, false⟩
def CAN_FLTM_MASK (n j : Nat) : Fld := ⟨0x40012044 + 0x800 * n + 8 * j, 0, 29, .rws, .at .H, .installer, 0, false, false⟩

/-- Every field of the CAN registers. -/
def canTable : List Fld :=
  ((List.range 2).map CAN_CTRL_EN) ++
  ((List.range 2).map CAN_CTRL_FDEN) ++
  ((List.range 2).map CAN_CTRL_BRSEN) ++
  ((List.range 2).map CAN_CTRL_MON) ++
  ((List.range 2).map CAN_CTRL_ROM) ++
  ((List.range 2).map CAN_CTRL_AUTOREC) ++
  ((List.range 2).map CAN_NBT_BRP) ++
  ((List.range 2).map CAN_NBT_TSEG1) ++
  ((List.range 2).map CAN_NBT_TSEG2) ++
  ((List.range 2).map CAN_NBT_SJW) ++
  ((List.range 2).map CAN_DBT_BRP) ++
  ((List.range 2).map CAN_DBT_TSEG1) ++
  ((List.range 2).map CAN_DBT_TSEG2) ++
  ((List.range 2).map CAN_DBT_SJW) ++
  ((List.range 2).map CAN_DBT_TDCEN) ++
  ((List.range 2).map CAN_DBT_TDCO) ++
  ((List.range 2).map CAN_STS_STATE) ++
  ((List.range 2).map CAN_STS_TEC) ++
  ((List.range 2).map CAN_STS_REC) ++
  ((List.range 2).map CAN_STS_OWNERR) ++
  ((List.range 2).map CAN_STS_RXOVF) ++
  ((List.range 2).map CAN_BUFCFG_TX) ++
  ((List.range 2).map CAN_TXREQ_REQ) ++
  ((List.range 2).map CAN_TXDONE_DONE) ++
  ((List.range 2).map CAN_RXNEW_NEW) ++
  ((List.range 2).map CAN_IRQEN_EN) ++
  ((List.range 2).map CAN_IRQ_EVT) ++
  ((List.range 2).flatMap (fun n => (List.range 16).map (CAN_FLTID_ID n))) ++
  ((List.range 2).flatMap (fun n => (List.range 16).map (CAN_FLTID_XTD n))) ++
  ((List.range 2).flatMap (fun n => (List.range 16).map (CAN_FLTID_EN n))) ++
  ((List.range 2).flatMap (fun n => (List.range 16).map (CAN_FLTM_MASK n)))

/-- The block window an address lies in (R312), as a list of its fields; no block has an empty list. -/
def tableAt (addr : Nat) : List Fld :=
  match addr / 0x1000 with
  | 0x40000 => cpmTable
  | 0x40001 => hoiTable
  | 0x40002 => pwmTable
  | 0x40003 => disTable
  | 0x40004 => sdxTable
  | 0x40006 => pcvTable
  | 0x40005 => fcvTable
  | 0x40007 => posTable
  | 0x40008 => cleTable
  | 0x40009 => axsTable
  | 0x4000a => gdnTable
  | 0x4000b => hlyTable
  | 0x40014 => cmpTable
  | 0x40015 => dbgTable
  | 0x4000d => sssTable
  | 0x4000c => safTable
  | 0x4000e => fltTable
  | 0x4000f => thmTable
  | 0x40010 => bstTable
  | 0x40011 => hspTable
  | 0x40013 => rolTable
  | 0x40012 => canTable
  | _ => []

/-- The fields of the word at a word address. -/
def fieldsAt (addr : Nat) : List Fld := (tableAt addr).filter (fun f => f.addr == addr)

/-- The field held under a key, where the register tables name one. -/
def fieldOfKey (k : Nat) : Option Fld := (tableAt (k / 32)).find? (fun f => f.key == k)

end Reg
end Sys2Proof
end

