-- ==== Sys2Proof/Machine/StateControl.lean ====
section
/-!
DEFINITION. The parts of the machine's state that the Control Law Engine, Bunting and the kernel's drive service hold
outside their registers (R180 to R240).
-/
namespace Sys2Proof.Machine

/-- A stage: eight 24-bit two's-complement mantissas and one 6-bit signed exponent (R180). -/
structure Stage where
  m : Vector (BitVec 24) 8 := Vector.replicate 8 0
  e : BitVec 6 := 0
deriving DecidableEq, Repr

/-- A bank of sixteen stage registers with the pointers and the condition mask of banks 0 to 3 (R180). -/
structure Bank where
  s : Vector Stage 16 := Vector.replicate 16 {}
  a : Vector (BitVec 14) 4 := Vector.replicate 4 0
  c : BitVec 8 := 0
deriving DecidableEq, Repr

/-- One instance of a program (R196 to R198): its program, next instruction address, latched input ports, buffered
output ports, its trigger in u, whether it is FIRST, and whether it started while Bunting ran. -/
structure Instance where
  prog : Nat
  pc : Nat
  trig : Nat
  first : Bool
  inputs : List (Nat × Stage)
  outputs : List (Nat × Stage)
  inj : Bool := false
deriving DecidableEq, Repr

/-- One program slot outside its registers: the code check of an enable runs (R200), a refused configuration (R201),
boundaries counted toward the trigger, the earliest instant in u of a trigger that is due and whether port 0 then shows SKIP
on every leg (R196), and outer cycles since the last complete check pass (R211). -/
structure Slot where
  enabling : Bool := false
  enabled : Bool := false
  refused : Bool := false
  divCount : Nat := 0
  due : Option Nat := none
  noWindow : Bool := false
  sincePass : Nat := 0
deriving DecidableEq, Repr

/-- Bunting outside its registers (R206 to R209): the settings frozen while it runs stand in the registers; here the
instance index, the sweep phase in 2⁻⁴⁸ turns, the LFSR, the node values seen in the present PACE instance before and after
injection, whether an H boundary has been waited for, and the index of the next record. -/
structure Bunting where
  j : Nat := 0
  phaseNum : Int := 0
  lfsr : BitVec 15 := 1
  seen : List (Nat × Word × Word) := []
  sawH : Bool := false
  nrec : Nat := 0
deriving DecidableEq, Repr

/-- The Control Law Engine outside its registers. -/
structure Cle where
  bank0 : Bank := {}
  bank1 : Bank := {}
  bank2 : Bank := {}
  bank3 : Bank := {}
  bank4 : Bank := {}
  /-- The eight program slots (R196). -/
  slots : Vector Slot 8 := Vector.replicate 8 {}
  /-- Started instances, the running one first, the pre-empted ones below it (R197). -/
  started : List Instance := []
  /-- Triggered instances not yet started, in trigger order, at most one per program (R198). -/
  waiting : List Instance := []
  /-- Mailboxes released and not yet readable (R194), by number. -/
  boxes : List (Nat × Stage) := []
  /-- The last released values of ports 0, 1 and 20 (R194). -/
  port0 : Stage := {}
  port1 : Stage := {}
  port20 : Stage := {}
  /-- Outer cycles since the last completed arithmetic check (R212). -/
  sinceArith : Nat := 0
  /-- The last arithmetic check failed (R212, R213). -/
  arithBad : Bool := false
  /-- Bunting (R206 to R209). -/
  bunting : Bunting := {}
  /-- Bunting's records on their way to SRAM, oldest first, at most 16: their addresses and words (R208). -/
  records : List (Nat × List Nat) := []
  /-- Nodes that name an instruction where no node is valid, a mask (R206). -/
  badNodes : Nat := 0
  /-- Code and data memory words holding an uncorrectable error, and those with one turned bit, by byte address (R210). -/
  badWords : List Nat := []
  softWords : List Nat := []
deriving DecidableEq, Repr

/-- The states of the kernel's drive service (R227). -/
inductive DriveSvc where
  | idle | meas | short | align | ramp | catch | obs | sens | lost | wind | retry
deriving DecidableEq, Repr

/-- The drive service outside its registers (R216, R226 to R240). Instants are in u since SYS was first clocked. -/
structure Drive where
  svc : DriveSvc := .idle
  /-- When the present state's time began; in MEAS the first L boundary after entry, in CATCH the stage's entry into RUN. -/
  since : Option Nat := none
  /-- Tries of this start, failed recatch attempts of this loss (R231, R233). -/
  tries : Nat := 0
  attempts : Nat := 0
  /-- CATCH was entered from LOST, or MEAS runs in LOST (R233). -/
  fromLost : Bool := false
  /-- When the drive service asked for the safe state in LOST (R233). -/
  lostAt : Nat := 0
  /-- Since when OBS has run without a loss (R233). -/
  holdFrom : Option Nat := none
  /-- Consecutive boundaries in lock and bad (R230, R232), MBOX1.SEQ at the last one. -/
  lock : Nat := 0
  bad : Nat := 0
  lastSeq : Nat := 0
  /-- SP5's lanes m0 to m5 as the drive service last wrote them, and its sequence m7 (R226). -/
  lanes : List Int := [0, 0, 0, 0, 0, 0]
  seq : Nat := 0
  /-- The PWM stage is to be put in RUN after the next O boundary; the drive was re-armed from an ASC state; PRECHW as
  found before that start, to be written back (R371). -/
  runAtO : Bool := false
  relarmed : Bool := false
  prechOld : Option Nat := none
  /-- The discharge release has been asked for, for the present WINDREQ (R236). -/
  askedRel : Bool := false
  /-- The kernel's parameters as read when the drive last left OFF (R240), by item id. -/
  params : Sparse Word := []
deriving DecidableEq, Repr

end Sys2Proof.Machine
end

