-- ==== Sys2Proof/Machine/StateTypes.lean ====
section
/-!
DEFINITION. The parts of the machine's state that are not register words: power, clocks and boot, the frame timer,
the PWM stage and the discharge block, the current and voltage paths, the position sources.
Times written `fine` count PWM fine units f of 156.25 ps (R103); times written `u` count 5 ns (R86).
-/
namespace Sys2Proof.Machine

/-- An exact fraction, for quantities the rules compute on reals: numerator over a positive denominator. -/
structure Frac where
  num : Int := 0
  den : Nat := 1
deriving DecidableEq, Repr

/-- Where the kernel stands between a reset and the program: held in reset, in the boot ROM, handed over (R72), in
recovery (R81), or off with SYS (R50). -/
inductive BootPhase where
  | inReset | rom | running | recovery
deriving DecidableEq, Repr

/-- Supplies, power domains, clocks, sleep and boot (R26, R45 to R60, R69 to R82). -/
structure Cpm where
  /-- Supplies above their monitor thresholds (R45). -/
  vio : Bool := false
  vdda : Bool := false
  vddc : Bool := false
  vdds : Bool := false
  /-- Supplies that have stayed valid for the 100 µs of R46. -/
  held : List Supply := []
  /-- The device state of R6. -/
  dev : DevState := .run
  /-- Where boot stands (R72, R81). -/
  phase : BootPhase := .inReset
  /-- Domains held in reset by a supply or a device reset (R45, R69), a mask in the bit order of R68. -/
  inReset : Nat := 0x1FF
  /-- Domains whose switch is closed and whose rail has not settled (R48). -/
  rising : Nat := 0
  /-- AON periods counted since VAON POR; CPM_AONTIME is its low 32 bits (R60). -/
  aon : Nat := 0
  /-- 1 ms ticks fallen since VAON POR (R60). -/
  msTick : Nat := 0
  /-- ARC has reported started, and AON has moved its base to ARC (R60). -/
  arcStarted : Bool := false
  onArc : Bool := false
  /-- ARC out of range stands: the tick and the scheduler run on WRC (R59, R419). -/
  arcBad : Bool := false
  /-- SYS runs from WRC after an XO loss (R419). -/
  sysOnWrc : Bool := false
  /-- The bridge entered a safe state and standstill is not confirmed yet: SENSE is held on (R16). -/
  coasting : Bool := false
  /-- STOPMAX has run out since: standstill is recorded unconfirmed, and SENSE may go off (R16). -/
  unconf : Bool := false
  /-- The 1 ms tick at which the last valid speed source was lost during the stop (R16). -/
  stopFrom : Option Nat := none
  /-- Code above bank 0 is still being reloaded after DORMANT (R77). -/
  codeReload : Bool := false
  /-- CLE memories are still being reloaded after a CLE power-up (R49). -/
  cleReload : Bool := false
  /-- IMPL and HLY naps in RUN (R52). -/
  implNap : Bool := false
  hlyNap : Bool := false
  /-- The trial watchdog runs (R80). -/
  trialRun : Bool := false
  /-- The 1 ms tick at which the trial's deadline passes (R80). -/
  trialEnd : Nat := 0
  /-- The booted image's header fields that later rules use: ADVANCE and VERSION (R74, R80, R326). The rest is read in the
  slot, which nothing writes until the next cold reset (R76). -/
  imgAdvance : Bool := false
  imgVersion : Nat := 0
  /-- The die temperature, in 1/64 °C, that the last ARC and WRC trim used (R58). -/
  trimTemp : Int := 0
  /-- The default trims are in use: those in OTP cannot be read (R84). -/
  defTrims : Bool := false
  /-- SRAM bank 0 is in retention (R49, R70). -/
  bank0Held : Bool := false
  /-- A wake source has come in DORMANT or PARKED while VIO or VDDC was not held: the wake waits for them (R46). -/
  wakeDue : Bool := false
  /-- PWM-ready has been reached since the handover (R73). -/
  ready : Bool := false
  /-- The kernel's own RELOFF after a cold boot is still to come (R368). -/
  relOff : Bool := false
deriving DecidableEq, Repr

/-- One shadow write the block holds past its cut-off (R92). -/
structure HeldWrite where
  key : Nat
  value : Word
  lvl : Level
deriving DecidableEq, Repr

/-- One entry per boundary level. -/
structure PerLevel (α : Type) where
  T : α
  C : α
  L : α
  O : α
  H : α
deriving DecidableEq, Repr

/-- The lock state of ring discipline (R100), in the encoding of HOI_STS.LOCK. -/
inductive LockState where
  | free | acquire | locked | holdover
deriving DecidableEq, Repr

/-- The frame timer, Hoist and ring discipline (R86 to R101). -/
structure Hoi where
  /-- Time of the last tick boundary since SYS was first clocked, in u; it does not wrap. -/
  base : Nat := 0
  /-- Time since the last tick boundary of the latest command that carried an instant, in u. -/
  now : Nat := 0
  /-- The part of that instant below 5 ns, in fine units of 156.25 ps (R103). -/
  fine : Nat := 0
  /-- Levels past the cut-off that precedes their next boundary, with the swap's content fixed (R92). -/
  cut : List Level := []
  /-- Levels whose coming swap is withheld by an open set (R95, R96). -/
  withheld : List Level := []
  /-- Shadow writes held past the cut-off (R92). -/
  late : List HeldWrite := []
  /-- The open sets: who holds which level open (R95). -/
  opened : List (Initiator × Level) := []
  /-- Consecutive boundaries at which each level has been withheld (R97). -/
  count : PerLevel Nat := ⟨0, 0, 0, 0, 0⟩
  /-- The sets that the coming forced commit will commit: open at the cut-off after OPENMAX withheld boundaries (R97). -/
  forced : List (Initiator × Level) := []
  /-- The next boundary is the H boundary that follows a stop of the frame timer (R101). -/
  wakeH : Bool := false
  /-- Ring discipline: the frequency term f (R99), in u. -/
  freq : Frac := {}
  /-- The owner's launch instant that the accepted copy of this ring cycle gives (R98), in u since SYS was first clocked. -/
  launch : Option Frac := none
  /-- The H boundary that began the present ring cycle, and the one before it, in u. -/
  cycleAt : Nat := 0
  cyclePrev : Nat := 0
  /-- A NAP has passed since the last H boundary that swapped: cycle frames went by unseen (R101). -/
  napped : Bool := false
  /-- Consecutive H boundaries with |e| within LOCKWIN, and consecutive missing frames (R100). -/
  inWin : Nat := 0
  missing : Nat := 0
  /-- The lock state HOLDOVER returns to (R100). -/
  before : LockState := .free
deriving DecidableEq, Repr

/-- An edge the switch-node watch follows (R107). -/
structure SnWatch where
  high : Bool
  sign : Int
  tOff : Nat
  dead : Nat
deriving DecidableEq, Repr

/-- What is on of a leg's two switches: none, the low side or the high side. A leg never has both on. -/
inductive Force where
  | off | low | high
deriving DecidableEq, Repr

/-- One leg of the PWM stage (R103 to R111). Instants are fine units since SYS was first clocked. -/
structure Leg where
  /-- The commanded high-side state (R104). -/
  cmd : Bool := false
  /-- The stage's own output for the leg. -/
  on : Force := .off
  /-- The complement waiting for its dead time, `true` the high side, and the instant it turns on (R107). -/
  turnOn : Option (Bool × Nat) := none
  watch : Option SnWatch := none
  /-- miss(x) of R107, and whether "Switch-node feedback lost" holds the leg at DTMAX. -/
  miss : Nat := 0
  fbLost : Bool := false
  /-- Consecutive readback mismatches per switch (R108). -/
  rbHi : Nat := 0
  rbLo : Nat := 0
  /-- The turn-ons of the high and of the low side that have been checked last (R108). -/
  chkHi : Option Nat := none
  chkLo : Option Nat := none
  /-- The carry being gathered, and the carry that this carrier applies (R109, R110). -/
  carry : Int := 0
  apply : Int := 0
  /-- What each edge of this carrier takes with UPD = 0 (R110). -/
  take : Int := 0
  /-- The edges of this tick that are still to come, in order: the instant, and the new commanded state. -/
  plan : List (Nat × Bool) := []
  /-- The opening edge of the pulse now emitted: its instant and dead time (R109). -/
  openAt : Nat := 0
  openDead : Nat := 0
  /-- Consecutive carriers without the low side on, and the steps of a refresh to come (R111). -/
  lowOff : Nat := 0
  refresh : List (Nat × Force) := []
deriving DecidableEq, Repr

/-- The PWM stage outside its registers (R103 to R117). -/
structure Pwm where
  legA : Leg := {}
  legB : Leg := {}
  legC : Leg := {}
  /-- The precharge of START is on, until an instant in fine units (R112). -/
  precharge : Option Nat := none
  /-- The last carrier valley, in fine units (R111). -/
  valleyAt : Nat := 0
  /-- Boundary-scan cells of the six PWM pads under EXTEST, and whether EXTEST is selected (R29, R33). -/
  extest : Bool := false
  cells : Nat := 0
  /-- The same for the remaining signal pins, by pin number: the cells that are 1 (R33). -/
  pinCells : List Nat := []
  /-- What the cells last captured at the pads: the pins, by number, that were high (R33). -/
  captured : List Nat := []
deriving DecidableEq, Repr

/-- The state of the discharge block, in the encoding of DIS_STS.STATE (R121). -/
inductive DisState where
  | idle | confirm | probe | disch | wind | done | fail
deriving DecidableEq, Repr

/-- The discharge block outside its registers (R120 to R122). -/
structure Dis where
  /-- A request held until the drive is in OFF or SAFE (R120). -/
  reqHeld : Bool := false
  /-- When the request acted, in u (R121). -/
  reqAt : Nat := 0
  /-- When the last probe since CONFIRM was entered started, in u (R121). -/
  probeAt : Option Nat := none
  /-- V at probe start, or V0, in mV; none until known (R122). -/
  v0 : Option Int := none
  /-- The start of elapsed time, in u (R121). -/
  startAt : Option Nat := none
  /-- The next halving k to reach (R122). -/
  k : Nat := 1
  /-- The time with V valid since the start of elapsed time, in u: what has passed of it, since when it runs, and how much of it
  lay before t_(k−1) (R122). -/
  halfAcc : Nat := 0
  halfFrom : Option Nat := none
  halfMark : Nat := 0
deriving DecidableEq, Repr

/-- Why SDX runs in fallback (R136, R137). -/
structure FbCause where
  lost : Bool := false
  kres : Bool := false
  predict : Bool := false
deriving DecidableEq, Repr

/-- One FCV modulator (R140, R141): the entry being converted, whether it waits for ready, O boundaries since the last
scheduled start, whether its last start-up failed, and whether the conversion under way is to be discarded (R143). -/
structure FcvMod where
  entry : Option Nat := none
  waiting : Bool := false
  sinceScan : Nat := 0
  failed : Bool := false
  discard : Bool := false
  /-- What runs began, or goes on, in continuous mode (R140). -/
  cont : Bool := false
deriving DecidableEq, Repr

/-- SDX, PCV and FCV outside their registers (R126 to R145). -/
structure Sense where
  /-- Consecutive qualifying sinc2 outputs per input A, B, C, VD (R133), and the legs whose OC stands, a mask (R114). -/
  qualified : List Nat := [0, 0, 0, 0]
  ocLegs : Nat := 0
  /-- Inputs whose bitstream is lost now (R135), a mask. -/
  lostNow : Nat := 0
  /-- The legs whose results of the present valley have come, and those of them measured, masks; their currents in mA
  (R130, R135). -/
  arrived : Nat := 0
  /-- A leg that has come for this valley had a window (R196). -/
  anyWin : Bool := false
  measured : Nat := 0
  shunt : List Int := [0, 0, 0]
  /-- Consecutive three-leg samples beyond KRES (R135), and prediction counts per leg (R131). -/
  kresRun : Nat := 0
  predict : List Nat := [0, 0, 0]
  /-- Why SDX runs in fallback (R136, R137). -/
  cause : FbCause := {}
  /-- Valley loop cycles in a row with at least two legs measured, in fallback (R137). -/
  goodRun : Nat := 0
  /-- Milliseconds for which only one current path has been healthy (R137). -/
  singleMs : Nat := 0
  /-- Hall phases whose input reads a rail now (R139), a mask. -/
  hallBad : Nat := 0
  /-- The reference check has failed and no later reading has passed (R142). -/
  refBad : Bool := false
  /-- The temperature of the reference factor in force, in 1/64 °C (R144). -/
  krefTemp : Int := 0
  /-- The two FCV modulators (R140, R141). -/
  fcv0 : FcvMod := {}
  fcv1 : FcvMod := {}
deriving DecidableEq, Repr

/-- A speed source timed by edges (R169): motor, wheel 0, wheel 1, and the serial word by accepted words. -/
structure EdgeTimer where
  /-- Edge times, newest first, in u since SYS was first clocked; at most SPAN + 1. -/
  hist : List Nat := []
  /-- The direction of the last edge: forward (R169, R170). -/
  fwd : Bool := true
  /-- The source stands still (R170). -/
  still : Bool := true
  /-- The history has just begun anew, and v is not measured yet (R169). -/
  lowconf : Bool := false
  /-- The instant in u of the last edge (R169). -/
  last : Nat := 0
  /-- v(s) as a count over a time in u: edges signed, and the time they took; 0 over 1 when v is 0. -/
  vNum : Int := 0
  vDen : Nat := 1
deriving DecidableEq, Repr

/-- One serial attempt or request in progress (R161, R163). -/
structure SerialReq where
  epoch : Nat
  sampledAt : Nat
  tries : Nat
  /-- The attempt has failed and waits for its retry. -/
  failed : Bool
deriving DecidableEq, Repr

/-- POS outside its registers (R150 to R173). -/
structure Pos where
  /-- Live encoder count and wheel counts; the published registers latch them at L (R150). -/
  enc : Word := 0
  wheel : List Word := [0, 0]
  /-- Encoder: the next index event is the first since enable, preset or IDXSEEN cleared; faults of R156 and R158. -/
  idxFirst : Bool := true
  illFault : Bool := false
  idxFault : Bool := false
  illInOuter : Nat := 0
  /-- The levels of A and B that the filter has accepted, of the encoder and of each wheel (R155, R167). -/
  encAB : Bool × Bool := (false, false)
  /-- The present qualified interval of Z has given its index event (R158). -/
  zIn : Bool := false
  wheelAB : List (Bool × Bool) := [(false, false), (false, false)]
  /-- Pairs A, B, Z whose two pins read equal now (R157), a mask. -/
  wireNow : Nat := 0
  /-- Hall mode: the last sector, an illegal state reading now, and the source made invalid (R160). -/
  sector : Option Nat := none
  hallIllNow : Bool := false
  hallInvalid : Bool := false
  /-- Resolver: angle and velocity of the tracking loop at the last peak, the peak's time, runs of the checks of R152
  and R153, and whether the resolver is valid. -/
  resAngle : Nat := 0
  /-- In 1/65,536 turn per second. -/
  resVel : Int := 0
  /-- The last peak's time in u, and the runs of good samples, of AMP and of tracking errors (R152, R153). -/
  resPeak : Nat := 0
  resGood : Nat := 0
  resAmpBad : Nat := 0
  resTrkBad : Nat := 0
  /-- RSLOS has been set for the present run of AMP out of range (R153). -/
  resLost : Bool := false
  /-- The resolver is valid, and its direction is forward (R152, R153, R170). -/
  resValid : Bool := false
  resDirFwd : Bool := true
  /-- The peak since which |velocity| has stayed below RSTILL (R170). -/
  resSlow : Option Nat := none
  resStill : Bool := true
  /-- Serial word: request in progress, epoch, loop cycles since the last accepted word, validity, the last accepted
  word's single-turn position and instant, the one before it, and a break between them (R163, R166). -/
  req : Option SerialReq := none
  epoch : Nat := 0
  /-- Position timeout has expired and no word of a later request has been accepted. -/
  timedOut : Bool := false
  /-- Loop cycles since the last accepted word and since the last request (R163, R166). -/
  sinceWord : Nat := 0
  sinceReq : Nat := 0
  /-- The serial source is valid, and the last accepted word's single-turn position and instant (R163, R166). -/
  swValid : Bool := false
  swAngle : Nat := 0
  swAt : Nat := 0
  /-- A word has been accepted since POS was reset (R166). -/
  swAny : Bool := false
  /-- The instant in u up to which the last attempt lasts, TMONO included (R161). -/
  swBusy : Nat := 0
  /-- The last accepted word no break has followed (R166). -/
  swRef : Option (Nat × Nat) := none
  /-- The position and the instant of the word before the last, while the speed is valid; the last request was given up (R163,
  R166). -/
  swPrev : Option (Nat × Nat) := none
  gaveUp : Bool := false
  /-- The budget check of R163 fails. -/
  swBad : Bool := false
  /-- The serial word's speed (R166). -/
  swTimer : EdgeTimer := {}
  /-- SENT: the frame sequence, the previous accepted sync length in u, and the slow FIFO, oldest first. -/
  sentSeq : Nat := 0
  sentSync : Option Nat := none
  slow : List (Nat × Nat) := []
  /-- The edge timers of the encoder or Hall source and of the two wheels (R167, R169). -/
  motor : EdgeTimer := {}
  wheel0 : EdgeTimer := {}
  wheel1 : EdgeTimer := {}
  /-- The published source is the secondary and stays so until RETPRI (R171); RETPRI has been written. -/
  onSec : Bool := false
  retpri : Bool := false
  /-- Consecutive L boundaries with |XRES| beyond and within XBND (R173). -/
  xBad : Nat := 0
  xGood : Nat := 0
  /-- PPS: time of the last edge in u, whether one has come, and whether the last interval was valid (R168). -/
  ppsAt : Option Nat := none
  /-- PPS edges by number: number, instant in u, validity, newest first, at most 256 (R168, R263). -/
  pps : List (Nat × Nat × Bool) := []
deriving DecidableEq, Repr

/-- A low-side window that has ended (R127): where it begins, its length, the stamp of its valley or ASC-L tick (R129), whether
a missing measurement counts as a skip though the length is 0 (R128), and whether it belongs to a carrier valley. -/
structure Window where
  start : Nat
  len : Nat
  stamp : Nat
  counted : Bool
  valley : Bool
deriving DecidableEq, Repr

/-- The window of a leg in the span between two carrier centres (R127): since when the low side has been on in it, whether
its first on-interval has ended, and the last ended window that SDX has not published. -/
structure LegWin where
  since : Option Nat := none
  closed : Bool := false
  due : Option Window := none
deriving DecidableEq, Repr

/-- The two PWM pads of one leg: their levels and the fine time, since SYS was first clocked, of each pad's last
turn-off (R116) and turn-on (R108), and the low side's window. -/
structure PadLeg where
  hi : Bool := false
  lo : Bool := false
  offHi : Nat := 0
  offLo : Nat := 0
  onHi : Nat := 0
  onLo : Nat := 0
  win : LegWin := {}
deriving DecidableEq, Repr

/-- What an output pad shows (R27, R34): driven low or high, its output off with a pull or in high impedance, a CML
transmitter in electrical idle, or a waveform that its block drives. -/
inductive PadLevel where
  | low | high | pullUp | pullDown | hiZ | idle | signal
deriving DecidableEq, Repr

/-- The output pads beside the gate-drive group, NFAULT and HIRQ (R22, R27, R34). -/
structure OutPads where
  sdck0 : PadLevel := .hiZ
  sdck1 : PadLevel := .hiZ
  /-- AXnPA, AXnNA, AXnPB and AXnNB of the two axes (R242). -/
  ax0 : List PadLevel := List.replicate 4 .hiZ
  ax1 : List PadLevel := List.replicate 4 .hiZ
  /-- The test-pulse and the safety outputs (R385, R389). -/
  tpo0 : PadLevel := .hiZ
  tpo1 : PadLevel := .hiZ
  sfo0 : PadLevel := .hiZ
  sfo1 : PadLevel := .hiZ
  tdo : PadLevel := .hiZ
  /-- HSD0 to HSD3. -/
  hsd : List PadLevel := List.replicate 4 .hiZ
  can0tx : PadLevel := .hiZ
  can1tx : PadLevel := .hiZ
  /-- The transmitters of the two ring ports. -/
  h0tx : PadLevel := .idle
  h1tx : PadLevel := .idle
  /-- The clock and the driver enable of the serial sensor (R161). -/
  swck : PadLevel := .hiZ
  swde : PadLevel := .hiZ
  /-- EXCP and EXCN (R151). -/
  exc : PadLevel := .hiZ
deriving DecidableEq, Repr

/-- The levels the device drives on its pins (R27 to R34, R385, R389, R414). They follow from the rest of the state; every
command settles them. While VIO is absent no digital pad is driven (R25, R26). -/
structure Pins where
  padA : PadLeg := {}
  padB : PadLeg := {}
  padC : PadLeg := {}
  /-- An ASC-L pattern has held the pads since the last tick boundary (R127). -/
  ascTick : Bool := false
  gdenH : Bool := false
  gdenL : Bool := false
  adis : Bool := false
  nfaultLow : Bool := false
  /-- HIRQ is driven low (R449). -/
  hirqLow : Bool := false
  out : OutPads := {}
  /-- A line has become pending at a core since WAIT stopped it (R338). -/
  lineMain : Bool := false
  lineChk : Bool := false
  /-- Since when GDENH and GDENL have both been active, in u (R113). -/
  enabledAt : Option Nat := none
deriving DecidableEq, Repr

end Sys2Proof.Machine
end

