-- ==== Sys2Proof/Machine/StateImpl.lean ====
section
/-!
DEFINITION. The parts of the machine's state that the auxiliary axes, Guidon and the ISO 11783 client hold outside
their registers (R241 to R279).
-/
namespace Sys2Proof.Machine

/-- A segment of an axis's table (R244): end time in µs after GO, end position in microsteps, end velocity in 1/16
microstep/s, and HOLD. -/
structure Seg where
  t1 : Nat := 0
  p1 : Int := 0
  v1 : Int := 0
  hold : Bool := false
deriving DecidableEq, Repr

/-- A Hermite piece: its length in µs and its two ends, positions in microsteps and velocities in microsteps/s. -/
structure Piece where
  len : Nat
  p0 : Frac
  v0 : Frac
  p1 : Frac
  v1 : Frac
deriving DecidableEq, Repr

/-- The four levels of a phase's bridge pins P, N (R241). -/
inductive Bridge where
  | off | pos | neg | slow
deriving DecidableEq, Repr

/-- The chopper of one phase (R252, R253). -/
structure ChopPhase where
  bridge : Bridge := .off
  /-- The cycle's drive phase runs; otherwise its decay. -/
  driving : Bool := false
  /-- The sign of the cycle's drive. -/
  positive : Bool := true
  /-- The instants of the last switching and of the beginning of the decay, in u since SYS was first clocked. -/
  since : Nat := 0
  decayAt : Nat := 0
  /-- The code that the sense input reached last, and the instant since which it lies above OCCODE (R252, R256). -/
  sense : Nat := 0
  overAt : Option Nat := none
  /-- Consecutive cycles whose drive phase has reached TONMAX (R256). -/
  longOn : Nat := 0
  /-- The drive time of this cycle in u, and whether it ended without a crossing, at BLANK or at TONMAX. -/
  tOn : Nat := 0
  atBlank : Bool := false
  /-- The fast part of a mixed decay runs. -/
  fast : Bool := false
  /-- The adaptive offset, in 1/65,536 code. -/
  ofs : Int := 0
  /-- The set code and its sign, and whether the code fell at the last microstep. -/
  code : Nat := 0
  codePos : Bool := true
  falling : Bool := false
deriving DecidableEq, Repr

/-- One axis (R242 to R256). -/
structure Axis where
  /-- The 256-entry segment ring; an index not listed holds the empty segment. -/
  segs : Sparse Seg := []
  /-- Output position, and commanded position and velocity. -/
  po : Int := 0
  pc : Frac := {}
  vel : Frac := {}
  /-- Axis time in µs since GO took effect. -/
  time : Nat := 0
  /-- The Hermite piece that runs (R244, R249). -/
  piece : Option Piece := none
  /-- Time in µs within the active piece, and the pieces of the plan after it. -/
  into : Nat := 0
  plan : List Piece := []
  /-- The position at which the run ends (R250). -/
  goal : Frac := {}
  /-- The fields VMAX, AMAX and DMAX at the last evaluation, and its instant in u since SYS was first clocked. -/
  lims : Nat × Nat × Nat := (1600000, 5000, 5000)
  evalAt : Nat := 0
  /-- Past the cut-off of a segment boundary: whether its limit swap is withheld; and the limit writes held since (R92, R250). -/
  limsFixed : Option Bool := none
  limsLate : List (Nat × Word) := []
  /-- What waits for the next µs evaluation (R251). -/
  stopReq : Bool := false
  goReq : Bool := false
  /-- The position a pending retarget asks for (R249, R251). -/
  tgtReq : Option Int := none
  /-- µs since the last microstep, at most 4; µs for which p_c has stood still with LAG 0. -/
  sinceStep : Nat := 4
  stillUs : Nat := 0
  /-- STEP pulses emitted and DIR (R242). -/
  steps : Nat := 0
  dirNeg : Bool := false
  /-- The instants of DIR's last change, and of the last pulse's two edges (R242). -/
  dirAt : Nat := 0
  pulseAt : Nat := 0
  pulseEnd : Nat := 0
  /-- The choppers of phases A and B (R252, R253). -/
  phA : ChopPhase := {}
  phB : ChopPhase := {}
  /-- The instant since which the driver's fault input lies below FLTCODE (R242, R256). -/
  drvLow : Option Nat := none
deriving DecidableEq, Repr

/-- A Guidon event: its section, its state, its instant in u since SYS was first clocked, and its section's endpoint
range (R269, R270). -/
structure GdnEvent where
  sec : Nat
  on : Bool
  inst : Nat
  ep : Nat
  countM1 : Nat
deriving DecidableEq, Repr

/-- An event that has been dispatched and whose latency runs: its section becomes `on` at an instant (R266). -/
structure GdnActing where
  sec : Nat
  on : Bool
  inst : Nat
  due : Nat
deriving DecidableEq, Repr

/-- A fix waiting for the next O boundary (R263): d_fix in mm, the PPS edge's number and the µs after it. -/
structure GdnFix where
  dist : Int
  pps : Nat
  ofs : Nat
deriving DecidableEq, Repr

/-- The ISO 11783 client (R278). -/
inductive IsoState where
  | stopped | claiming | running | cannotClaim
deriving DecidableEq, Repr

/-- Guidon and its kernel client outside their registers (R259 to R279). -/
structure Gdn where
  /-- Fused distance in mm, speed in mm/s and acceleration in mm/s² (R259, R261); the speed one O boundary ago. -/
  d : Frac := {}
  v : Frac := {}
  /-- HOI_TICKCNT of the L boundary that d and v were fused at (R21, R259). -/
  stamp : Nat := 0
  a : Frac := {}
  vPrev : Frac := {}
  /-- The slip estimate in 1/65,536 (R260), and the sums of the outer cycle. -/
  slip : Int := 0
  sumW : Frac := {}
  sumM : Frac := {}
  /-- Both wheels have been valid through the outer cycle (R260). -/
  bothValid : Bool := true
  /-- The wheel counts at the last L boundary of an enabled Guidon. -/
  counts : List Word := []
  /-- The instants in u and the distances of the last 512 O boundaries, newest first (R263). -/
  hist : List (Nat × Frac) := []
  /-- The pending correction and the part the next L boundary applies, in mm. -/
  pending : Frac := {}
  step : Frac := {}
  /-- The fix that waits for the next O boundary (R263). -/
  fix : Option GdnFix := none
  /-- The instant in u at which a fix was last accepted (R263). -/
  fixedAt : Nat := 0
  /-- The event queue in no order (R272). -/
  queue : List GdnEvent := []
  /-- Sections whose last enqueued event, whose demand at the last evaluation, and whose actual state is on. -/
  sched : List Nat := []
  demand : List Nat := []
  actual : List Nat := []
  /-- The last dispatched event of each section (R271). -/
  sent : List GdnEvent := []
  /-- Dispatched events whose latency runs (R266). -/
  acting : List GdnActing := []
  /-- Descriptors disabled by the check of R267, and whether evaluation stands still. -/
  disabled : List Nat := []
  held : Bool := false
  /-- GDN_LOADED and GDN_DONE as latched at the H boundary (R265). -/
  loaded : Int := 0
  done : Int := 0
  /-- The row whose midpoint each section's footprint passed last (R266). -/
  mids : List (Nat × Int) := []
  /-- GDN_EVFIFO, oldest first: endpoint, state, µs offset (R269). -/
  fifo : List (Nat × Bool × Nat) := []
  /-- The ISO client, its claimed address, the 1 ms ticks of its claim and of the last setpoint, the setpoints received per
  section, and what it last reported: whether any section is on, and which (R278, R279). -/
  iso : IsoState := .stopped
  isoAddr : Nat := 0
  isoAt : Nat := 0
  isoHeard : Nat := 0
  isoSet : List (Nat × Nat) := []
  isoSent : List Nat := []
  isoWork : Bool := false
deriving DecidableEq, Repr

end Sys2Proof.Machine
end

