-- ==== Sys2Proof/Machine/StateRing.lean ====
section
/-!
DEFINITION. The parts of the machine's state that Halyard holds outside its registers (R282 to R303).
-/
namespace Sys2Proof.Machine

/-- One entry of a slot table (R295). -/
structure SlotEntry where
  addr : Nat
  clen : Nat
  evn : Nat
  acslot : Nat
  safe : Bool
deriving DecidableEq, Repr

/-- A slot table (R295). -/
structure SlotTable where
  stid : Nat
  crc : Nat
  dlag : Bool
  topo : Nat
  th : Nat
  entries : List SlotEntry
deriving DecidableEq, Repr

/-- An acyclic frame between SOF and EOF (R298). -/
structure AcFrame where
  resp : Bool
  lseq : Nat
  dst : Nat
  bcast : Bool
  src : Nat
  tid : Nat
  code : Nat
  hops : Nat
  addr : Nat
  payload : List Byte
deriving DecidableEq, Repr

/-- A frame a port holds until its ACK (R300): the port it came by (2 when this node originated it), its resends so
far, whether it has been sent, and the instant in u at which it last was. -/
structure HeldFrame where
  frame : AcFrame
  origin : Nat := 2
  tries : Nat := 0
  sent : Bool := false
  sentAt : Nat := 0
deriving DecidableEq, Repr

/-- One port (R283, R284, R299, R300). -/
structure HlyPort where
  /-- Delay exchanges completed in this TRAIN and the sum of their round trips without turnaround in UI. -/
  exchanges : Nat := 0
  /-- The instant in u at which TRAIN began (R283). -/
  trainAt : Nat := 0
  delaySum : Int := 0
  /-- The last delay frame sent: its index, and the turnaround of the last one answered (R284). -/
  delayOut : Option (Nat × Nat) := none
  /-- LSEQ of the last frame accepted, and the next to send. -/
  rxSeq : Option Nat := none
  txSeq : Nat := 0
  /-- Frames to send on this port in order: forwarded ones ahead of originations. -/
  out : List HeldFrame := []
  /-- The last cycle frame sent on this port, and whether it ended in EOF. -/
  lastOut : List Byte := []
  lastGood : Bool := true
  /-- The last acyclic frame sent on this port, from TYPE to CRC (R298). -/
  lastAc : List Byte := []
  /-- The last ACK (`true`) or NAK sent, with its link sequence. -/
  lastCtl : Option (Bool × Nat) := none
deriving DecidableEq, Repr

/-- A received event that is held to its instant (R297), in u since SYS was first clocked. -/
structure RxEvent where
  ep : Nat
  countM1 : Nat
  on : Bool
  inst : Nat
deriving DecidableEq, Repr

/-- A registered safety producer (R303): its last accepted SEQ and the ring cycles since. -/
structure Producer where
  src : Nat
  seq : Nat := 0
  age : Nat := 0
deriving DecidableEq, Repr

/-- A transaction of this node (R301): its TID, when it was issued in u, and its status and data when it completed. -/
structure Transaction where
  tid : Nat
  issued : Nat
  ticket : Nat
  done : Option (Nat × Nat × List Byte) := none
deriving DecidableEq, Repr

/-- Halyard outside its registers. -/
structure Hly where
  port0 : HlyPort := {}
  port1 : HlyPort := {}
  /-- The owner's launch count, or the CYCLE of the last accepted copy. -/
  cycle : Nat := 0
  /-- The CYCLE whose copies are being taken, and the areas taken from them; whether a good copy has been accepted since the
  last H boundary. -/
  takenIn : Option Nat := none
  taken : List Nat := []
  got : Bool := false
  /-- Ring cycles in a row without a good copy, late returns in a row, ring cycles since a foreign frame. -/
  missed : Nat := 0
  late : Nat := 0
  clean : Nat := 0
  /-- The slot table in force, and the one that waits for its H boundary (R295). -/
  table : Option SlotTable := none
  pending : Option SlotTable := none
  /-- Cyclic data latched for this ring cycle, the SEQ of this node's envelope, events and all-off for this and the next
  frame. -/
  txData : List Byte := []
  envSeq : Nat := 0
  nowEvents : List GdnEvent := []
  nextEvents : List GdnEvent := []
  nowAllOff : Bool := false
  nextAllOff : Bool := false
  /-- The last copies that this node has written: CYCLE and COPY flag, newest first (R292). -/
  wrote : List (Nat × Nat) := []
  /-- Received events held, and local endpoints that a received event left on. -/
  held : List RxEvent := []
  recvOn : List Nat := []
  /-- The broadcasts that have acted in the latest CYCLE: CYCLE and node (R297). -/
  allOffIn : List (Nat × Nat) := []
  /-- The port that copies on their first pass arrive at (R291). -/
  upPort : Nat := 0
  /-- The image to be swapped: it is complete, and the upper of the two. -/
  imgReady : Bool := false
  /-- Frame data that wait in the receive FIFO, by address, while a core's view still shows the image they go to (R353). -/
  rxWait : List (Nat × List Byte) := []
  /-- The last image written is marked incomplete (R292). -/
  imgBad : Bool := false
  imgUpper : Bool := false
  /-- The registered safety producers (R303). -/
  producers : List Producer := []
  /-- This node's outstanding transactions (R301). -/
  trans : List Transaction := []
  /-- The next transaction id, and the ids freed less than TXTO ago with their instants (R301). -/
  tidNext : Nat := 0
  tidFreed : List (Nat × Nat) := []
  /-- Requests addressed to this device that wait for the kernel, at most 16. -/
  requests : List AcFrame := []
  /-- Frames originated in this ring cycle (R299). -/
  originated : Nat := 0
deriving DecidableEq, Repr

end Sys2Proof.Machine
end

