-- ==== Sys2Proof/Machine/StateSafety.lean ====
section
/-!
DEFINITION. The parts of the machine's state that the safe-state sequencer, the safety inputs and outputs, the torque
monitor, SS1 and the fault manager hold outside their registers.
-/
namespace Sys2Proof.Machine

/-- The heartbeat sources of R372, in the bit order of SSS_STS.HBSRC. -/
structure Beats (α : Type) where
  cores : α
  flt : α
  saf : α
deriving DecidableEq, Repr

/-- The safe-state sequencer (R26, R30, R368 to R377, R392). -/
structure Sss where
  /-- The conducting side of the ASC state held is on, and when the state was entered, in fine units (R375). -/
  ascOn : Bool := false
  ascAt : Nat := 0
  /-- RELARM keeps the ASC-L override until the stage enters START or RUN (R371). -/
  keepAscL : Bool := false
  /-- An ASC-H state held at RELARM has moved to ASC-L and waits for its conducting side (R371). -/
  relarmMove : Bool := false
  /-- The counts of the cores and FLT are stopped by a switched-domain reset (R372). -/
  stopped : Bool := true
  /-- Sources that have beaten since they were stopped or expired, the instants of their last beats in u, and outer
  cycles in a row with all in time, up to 2 (R369, R372). -/
  alive : Beats Bool := ⟨false, false, false⟩
  beatAt : Beats Nat := ⟨0, 0, 0⟩
  goodOuter : Nat := 0
  /-- Speed taken at the last refresh and its freshness: POS's speed and validity, port 20's speed (R373, R374). -/
  posSpeed : Nat := 0
  posValid : Bool := false
  obsSpeed : Nat := 0
  fresh : Bool := false
  /-- Port 20 released since the last O boundary, and its last release in u (R373). -/
  port20 : Bool := false
  portAt : Nat := 0
  /-- SAF has started the SS1START wait, and when, in u (R382). -/
  ss1Wait : Bool := false
  ss1WaitAt : Nat := 0
  /-- Latent tests: ARC periods of RUN since they last passed, overdue, and tests
  passed since they became due, a mask of FREEWHEEL, ASC-L, ASC-H, withhold, Swallowtail (R392, R393). -/
  runPeriods : Nat := 0
  overdue : Bool := false
  passed : Nat := 0
  /-- The pattern that a latent test drives at the pads, in the order of PADS, and when it ends, in u (R392). -/
  pattern : SafeState := .freewheel
  patternEnd : Nat := 0
  /-- The tests that every boot runs before RELOFF have not all passed (R392). -/
  bootTest : Bool := false
  /-- The motor STILL bit as last published (R377). -/
  motorStill : Bool := true
deriving DecidableEq, Repr

/-- One channel of a safety pair (R384, R385): its accepted level, its test-pulse fault and good pulses since. -/
structure SafChan where
  level : Bool := false
  /-- Its level is still to be accepted afresh after a loss of VIO (R384). -/
  wait : Bool := false
  missed : Bool := false
  good : Nat := 0
  /-- The start of the last of its test pulses that was checked, in u. -/
  pulseAt : Nat := 0
deriving DecidableEq, Repr

/-- One safety pair (R384 to R388). -/
structure SafPair where
  a : SafChan := {}
  b : SafChan := {}
  /-- The stamp in ARC periods at which the present disagreement began, and the age of one that ended since the last tick
  (R388). -/
  began : Option Nat := none
  ended : Option Nat := none
  /-- A cause of demand stands; a reset is needed even with AUTORST (R387, R388). -/
  cause : Bool := false
  force : Bool := false
deriving DecidableEq, Repr

/-- One two-hand group (R386): both hands released since the enable fell, the first hand's actuation stamp in ARC periods. -/
structure TwoHand where
  released : Bool := false
  first : Option Nat := none
deriving DecidableEq, Repr

/-- One safety output (R389): its readback level and failed checks in a row; when it went high, in u, and the start of the
last off-pulse checked; OPEN in force, OPEN before it changed last, and when it did. -/
structure SafOut where
  sfb : Bool := false
  fails : Nat := 0
  highAt : Option Nat := none
  pulseAt : Nat := 0
  openNow : Bool := true
  openWas : Bool := true
  openAt : Nat := 0
deriving DecidableEq, Repr

/-- SAF outside its registers (R384 to R389). -/
structure Saf where
  p0 : SafPair := {}
  p1 : SafPair := {}
  p2 : SafPair := {}
  p3 : SafPair := {}
  p4 : SafPair := {}
  th01 : TwoHand := {}
  th23 : TwoHand := {}
  out0 : SafOut := {}
  out1 : SafOut := {}
  /-- TPO0 and TPO1 are high (R385). -/
  tpo : Bool := false
  /-- When the test pulses on them started, in u (R385). -/
  pulseFrom : Option Nat := none
  /-- The ms tick at which Swallowtail's test mode was entered, and the pairs for which DISC has come since (R392). -/
  testAt : Nat := 0
  discSeen : Nat := 0
deriving DecidableEq, Repr

/-- SS1 in progress (R382): |f| at entry in 1/1,024 Hz, the entry's instant and that of the timer's start in u, and O boundaries
in a row at standstill. -/
structure Ss1 where
  f0 : Nat := 0
  at0 : Nat := 0
  timerAt : Nat := 0
  slow : Nat := 0
deriving DecidableEq, Repr

/-- The torque monitor (R378 to R380): when the present run of unintended torque began, in u; consecutive violations of
the other checks; the sum in mW and the count of the energy balance over the outer cycle; SP1.m0 of the last outer
cycles in 1/65,536, newest first; and whether every active check passed last. -/
structure Tmon where
  utFrom : Option Nat := none
  pathRun : Nat := 0
  balRun : Nat := 0
  balSum : Int := 0
  balN : Nat := 0
  hist : List Int := []
  ok : Bool := true
deriving DecidableEq, Repr

/-- An active fault (R404): its id, raised instances, class in force at the raise, instance of the latest raise, and
its tick. -/
structure ActiveFault where
  id : Nat
  insts : List Nat
  cls : FaultClass
  detail : Nat
  tick : Word
deriving DecidableEq, Repr

/-- A reaction submitted to FLT (R405, R406): the fault, its class, whether it derates, the instance, and the steps done:
the safe-state request and the record, with the tick and the Ensign of its raise (R416). -/
structure Reaction where
  id : Nat
  cls : FaultClass
  derate : Bool
  detail : Nat
  started : Bool
  tick : Word
  ensign : Word
deriving DecidableEq, Repr

/-- One fault record (R416). -/
structure FaultRecord where
  clear : Bool
  role : Role
  id : Nat
  detail : Nat
  cls : FaultClass
  occ : Nat
  tick : Word
  ensign : Word
deriving DecidableEq, Repr

/-- FLT outside its registers (R404 to R420). -/
structure Flt where
  active : List ActiveFault := []
  /-- Occurrences since the last VAON POR per id (R404). -/
  occ : List (Nat × Nat) := []
  /-- The reaction in progress (R406). -/
  current : Option Reaction := none
  /-- Submitted reactions waiting, oldest first, at most 16; pre-empted ones, latest first, at most 3 (R406). -/
  queue : List Reaction := []
  preempted : List Reaction := []
  /-- The fault records on their way to the journal, at most 32 (R417). -/
  fifo : List FaultRecord := []
  /-- The kernel's journal buffer in the retained kernel area (R416, R418). -/
  buffer : List FaultRecord := []
  /-- The ms tick of each id's last raise record, for the limit of R417. -/
  lastRec : List (Nat × Nat) := []
  /-- A discharge has been completed since "Discharge incomplete" was raised last (R119). -/
  discharged : Bool := false
  /-- A self-check of R420 has failed since the last reset. -/
  selfBad : Bool := false
deriving DecidableEq, Repr

end Sys2Proof.Machine
end

