-- ==== Sys2Proof/Machine/StateSystem.lean ====
section
/-!
DEFINITION. The parts of the machine's state that the cores, the compare unit, the debug block, the CAN controllers, the
host port, self-test, the thermal models and the kernel hold outside their registers.
-/
namespace Sys2Proof.Machine

/-- One protection region (R313, R328): base and limit in bits [31:5], and its attributes. -/
structure Region where
  base : Word := 0
  lim : Word := 0
  attr : Word := 0
deriving DecidableEq, Repr

/-- A guarded write or a Pennant that waits in CMP for the other core's (R356, R358): its address or id, its value or
digest, and its instant in SYS cycles since SYS was first clocked. -/
structure Post where
  addr : Nat
  value : Word
  cyc : Nat
deriving DecidableEq, Repr

/-- The latched values a core still reads while its frame entry for a boundary is due (R353): the register fields as
they stood before it, and the front image of HLY_RXBUF. -/
structure View where
  regs : Sparse Word
  imgUpper : Bool
deriving DecidableEq, Repr

/-- One core (R317, R318, R328, R329): its registers at a cold reset. -/
structure Core where
  g : Vector Word 32 := Vector.replicate 32 0
  f : Vector Word 32 := Vector.replicate 32 0
  pc : Word := 0
  /-- SR_STATUS: mode K, INTRAP set. SR_TSTATUS: mode S, INTRAP set. -/
  status : Word := 8
  tstatus : Word := 9
  /-- SR_TPC (R315, R328). -/
  tpc : Word := 0
  /-- SR_TCAUSE; bit 6 is LOCKUP. -/
  tcause : Word := 0
  /-- SR_TVAL (R316, R328). -/
  tval : Word := 0
  /-- SR_TBASE (R315, R328). -/
  tbase : Word := 0
  /-- SR_IEN (R318, R328). -/
  ien : Word := 0
  /-- SR_IPRI0 to SR_IPRI3 (R318, R328). -/
  ipri : Vector Word 4 := Vector.replicate 4 0xFFFFFFFF
  /-- SR_ECCCNT (R322, R328). -/
  ecccnt : Word := 0
  /-- The sixteen protection regions (R313, R328). -/
  mpu : Vector Region 16 := Vector.replicate 16 {}
  /-- Lines 23 to 31 pending at this core: kernel completion and the software lines. -/
  lines : Word := 0
  /-- WAIT has stopped fetching (R338). -/
  waiting : Bool := false
  /-- Times each line has been taken (R355). -/
  taken : List Nat := List.replicate 32 0
  /-- The levels of the boundary whose frame entry is due (R353). -/
  frameDue : Option (List Level) := none
  /-- The latched values the core still reads until it takes that entry (R353). -/
  view : Option View := none
  /-- Instructions retired (R363). -/
  retired : Nat := 0
  /-- Posts that wait in CMP, oldest first: at most 8 guarded writes and 16 Pennants. -/
  gsw : List Post := []
  pennants : List Post := []
  /-- Posts of this core whose partners a timeout has discarded (R361). -/
  dropGsw : Nat := 0
  dropPennants : Nat := 0
deriving DecidableEq, Repr

/-- The two cores with CMP, DBG and the interconnect outside their registers (R350 to R364, R322). -/
structure Cores where
  main : Core := {}
  chk : Core := {}
  /-- Loads that the main core made and the checker core has not replayed, at most 64, and interrupts the main core has
  taken, each with the main core's retired count, while a debug session is open (R363). -/
  log : List (Nat × Word) := []
  replay : List (Nat × Nat) := []
  /-- A closed session leaves replay at the next frame entry (R364). -/
  inReplay : Bool := false
  /-- PCV's Hall averages with their stamp, as both cores read them: latched at the last tick boundary (R139). -/
  hall : Sparse Word := []
  /-- A halt has been asked for, and one step is allowed (R363). -/
  stepping : Bool := false
  /-- SYS cycles in which the cores were halted, and the instant at which they last halted, in u (R362). -/
  haltCyc : Nat := 0
  haltAt : Nat := 0
  /-- CMP gives no heartbeat until the next reset (R359). -/
  mute : Bool := false
  /-- SRAM and flash words that hold an uncorrectable error, by word address (R316, R322). -/
  badWords : List Nat := []
  /-- Words of SRAM, ROM, OTP and flash in which one bit has turned, by word address (R322). -/
  softWords : List Nat := []
deriving DecidableEq, Repr

/-- One CAN controller outside its registers (R450 to R452): buffers whose TXREQ is pending, the buffer under way, the
receive error count past the 127 that its field shows, and a recovery from bus-off that a write of EN has asked for. -/
structure Can where
  req : Nat := 0
  sending : Option Nat := none
  recv : Nat := 0
  recover : Bool := false
deriving DecidableEq, Repr

/-- The host port outside its registers (R445 to R447, R466): the late buffer, the ms ticks of CRC failures, and the reply
to the last frame. -/
structure Hsp where
  late : Option (Nat × List Word) := none
  fails : List Nat := []
  /-- What the device drove in the last frame: STATUS, the words after it, and a service's ticket. -/
  status : Nat := 0
  words : List Word := []
  ticket : Nat := 0
  /-- The CRC-8 after them. -/
  crc : Nat := 0
deriving DecidableEq, Repr

/-- Where a block stands in self-test (R436 to R441). -/
inductive BstPhase where
  | none | pending | running | rejoin
deriving DecidableEq, Repr

/-- One block of self-test (R437): its phase, the instant of its request in u, whether its conditions held at some
scan, whether the host asked, the fields BST saved, and whether BST switched its domain on. -/
structure BstBlock where
  phase : BstPhase := .none
  since : Nat := 0
  allowed : Bool := false
  byHost : Bool := false
  savedRegs : Sparse Word := []
  savedShadow : Sparse Word := []
  turnedOn : Bool := false
deriving DecidableEq, Repr

/-- BST outside its registers. -/
structure Bst where
  blocks : List BstBlock := List.replicate 17 {}
deriving DecidableEq, Repr

/-- Where an orderly stop of one model stands (R430): the model is in SHUTDOWN with its fault not raised yet, and the instant of
its entry, in u. -/
structure Orderly where
  wait : Bool := false
  at0 : Nat := 0
deriving DecidableEq, Repr

/-- THM outside its registers (R422 to R432). Temperatures count 2⁻³² K. -/
structure Thm where
  theta : List Int := [0, 0, 0, 0]
  /-- The die model has been seeded by the first diode result since the wake (R424). -/
  seeded : Bool := false
  /-- The offsets that adaptation has found, in the power and the die model (R425). -/
  pOfs : Int := 0
  dOfs : Int := 0
  /-- Consecutive results beyond PLAUS, and within it (R425, R433). -/
  pBad : Nat := 0
  dBad : Nat := 0
  pGood : Nat := 0
  dGood : Nat := 0
  /-- O boundaries in a row at which MBOX3.SEQ has not advanced, and its last value (R426). -/
  stale : Nat := 0
  lastSeq : Nat := 0
  /-- The factors of the two models in 2⁻³² (R428). -/
  pFactor : Int := 4294967296
  dFactor : Int := 4294967296
  /-- Where an orderly stop of each model stands (R430). -/
  pStop : Orderly := {}
  dStop : Orderly := {}
  /-- SP1.m0 of the orderly stop (R430), in 1/65,536. -/
  stopRate : Int := 0
  /-- RUN time in u that has not made a whole hour yet, per band (R432). -/
  lifeU : List Nat := [0, 0, 0, 0]
  /-- RUN time in u since the counters were last saved (R432). -/
  unsaved : Nat := 0
deriving DecidableEq, Repr

/-- A session (R455), numbered 1 to 4. -/
structure Session where
  n : Nat
  role : Role
  chan : Chan
  idleMs : Nat
deriving DecidableEq, Repr

/-- A nonce given out and not used (R456). -/
structure Nonce where
  chan : Chan
  role : Role
  bytes : List Byte
  atMs : Nat
deriving DecidableEq, Repr

/-- A staged parameter item (R460). -/
structure Staged where
  item : Nat
  value : Word
  sess : Nat
  role : Role
deriving DecidableEq, Repr

/-- A committed safety block that waits for its confirmation (R461). -/
structure PendingBlock where
  items : Sparse Word
  crc : Nat
  sess : Nat
  atMs : Nat
deriving DecidableEq, Repr

/-- Work that a service has accepted (R324, R325): its service number, its ticket, what its completion waits for (a block
mask, a TID), the requester, and the g4 to g6 that its ticket returns. -/
structure Work where
  num : Nat
  ticket : Nat
  arg : Nat
  chan : Chan
  st : Nat
  g5 : Word
  g6 : Word
deriving DecidableEq, Repr

/-- A ticket (R324): who holds it, and its g4 to g6 when it has completed. -/
structure Ticket where
  n : Nat
  chan : Chan
  done : Option (Nat × Word × Word) := none
deriving DecidableEq, Repr

/-- A journal record (R463). -/
structure JRecord where
  seq : Nat
  time : Nat
  role : Nat
  item : Nat
  kind : Nat
  old : List Byte
  new : List Byte
deriving DecidableEq, Repr

/-- A register write or refusal at a raised role, folded over a second (R462): session, address, value before, value
after or attempted, the refusal's status, and the ms tick it began at. -/
structure Fold where
  sess : Nat
  chan : Chan
  addr : Nat
  old : Word
  new : Word
  refusal : Nat
  role : Role
  atMs : Nat
deriving DecidableEq, Repr

/-- The state of an image slot (R78). -/
inductive SlotState where
  | empty | trial | confirmed | failed
deriving DecidableEq, Repr

/-- A boot control record (R78). -/
structure BootRecord where
  seq : Nat
  preferB : Bool
  stA : SlotState
  stB : SlotState
  triesA : Nat
  triesB : Nat
deriving DecidableEq, Repr

/-- Flash work that a service has accepted and that is carried out at its completion (R71, R83): a block of an image at an
address, the finalising of a slot for a caller, by the ROLE byte of R463, or a record that is being written. -/
inductive FlashWork where
  | program (addr : Nat) (data : List Byte)
  | finalise (slotB : Bool) (role : Nat)
  | record
deriving DecidableEq, Repr

/-- The kernel's stores and queues (R78, R324, R325, R455 to R465). -/
structure Kernel where
  /-- Committed parameter items in force, by item id (R459). -/
  params : Sparse Word := []
  /-- Staged items not yet committed (R460). -/
  staged : List Staged := []
  /-- The committed safety block that waits for its confirmation (R461). -/
  block : Option PendingBlock := none
  /-- The safety parameter block in force is valid (R82). -/
  blockOk : Bool := false
  /-- The open sessions, at most 4 (R455). -/
  sessions : List Session := []
  /-- Nonces given out and not used (R456). -/
  nonces : List Nonce := []
  /-- Consecutive failed responses per role, and the refusal remaining in ms (R458). -/
  failI : Nat := 0
  failM : Nat := 0
  lockI : Nat := 0
  lockM : Nat := 0
  /-- The challenge counter (R456, R459). -/
  challenge : Nat := 0
  /-- The Installer and Maker keys and the versions of their records (R465). -/
  keyI : List Byte := []
  keyM : List Byte := []
  verI : Nat := 0
  verM : Nat := 0
  /-- Work that services have accepted, oldest first, at most 16 (R325). -/
  queue : List Work := []
  /-- Flash work among it, oldest first (R71, R83). -/
  flash : List FlashWork := []
  /-- An image block has been programmed since the slot was last finalised: slot A, slot B (R80). -/
  newA : Bool := false
  newB : Bool := false
  /-- The tickets, at most 8 (R324). -/
  tickets : List Ticket := []
  /-- The journal, oldest first; the next SEQ; the first record after a VAON POR is still to come; ms of device life. -/
  journal : List JRecord := []
  nextSeq : Nat := 0
  firstRec : Bool := true
  lifeMs : Nat := 0
  /-- Register writes and refusals folded over the present second (R462). -/
  folds : List Fold := []
deriving DecidableEq, Repr

end Sys2Proof.Machine
end

