-- ==== Sys2Proof/Machine/State.lean ====
section
/-!
DEFINITION. The machine's state, whole: the register fields with their shadow bank, memory, each block's state outside
its registers, the pins, and the queue of waiting commands; the reasons a step can stop; and the state after reset.
-/
namespace Sys2Proof.Machine

/-- The TD7144 right after VAON power-on reset and from there on. A register field that `regs` does not list holds its
reset value; a field that `shadow` does not list has nothing pending and its shadow bank equals its active bank
(R90). A byte that `mem` does not list reads 0. -/
structure State where
  /-- Active banks and plain register fields, by `Fld.key` (R90). -/
  regs : Sparse Word := []
  /-- Shadow writes that have not swapped, by `Fld.key` (R90). -/
  shadow : Sparse Word := []
  /-- Every memory of R310, by byte address: flash, OTP, SRAM, CLE local memory. -/
  mem : Sparse Byte := []
  /-- The frame timer and Hoist (R86 to R101). -/
  hoi : Hoi := {}
  /-- Supplies, domains, clocks, sleep and boot (R45 to R82). -/
  cpm : Cpm := {}
  /-- The PWM stage (R103 to R117). -/
  pwm : Pwm := {}
  /-- Active discharge (R120 to R122). -/
  dis : Dis := {}
  /-- The current and conversion blocks SDX, PCV and FCV (R126 to R145). -/
  sense : Sense := {}
  /-- Position and speed (R150 to R174). -/
  pos : Pos := {}
  /-- The Control Law Engine (R180 to R212). -/
  cle : Cle := {}
  /-- The kernel's drive service (R226 to R237). -/
  drive : Drive := {}
  /-- The safe-state sequencer (R366 to R377). -/
  sss : Sss := {}
  /-- The safety-input evaluation (R384 to R389). -/
  saf : Saf := {}
  /-- SS1 in progress (R382). -/
  ss1 : Ss1 := {}
  /-- The torque monitor (R378 to R380). -/
  tmon : Tmon := {}
  /-- The fault manager (R401 to R420). -/
  flt : Flt := {}
  /-- The two stepper axes (R242 to R256). -/
  ax0 : Axis := {}
  ax1 : Axis := {}
  /-- Guidon (R259 to R280). -/
  gdn : Gdn := {}
  /-- Halyard (R282 to R307). -/
  hly : Hly := {}
  /-- The self-test (R435 to R443). -/
  bst : Bst := {}
  /-- The thermal models and the life counters (R422 to R433). -/
  thm : Thm := {}
  /-- The two cores with CMP and the debug unit (R313 to R364). -/
  cores : Cores := {}
  /-- The two CAN controllers (R450 to R453). -/
  can0 : Can := {}
  can1 : Can := {}
  /-- The host port (R444 to R449). -/
  hsp : Hsp := {}
  /-- The kernel's stores and queues (R78, R324 to R326, R455 to R465). -/
  kern : Kernel := {}
  /-- The pads (R22 to R34). -/
  pins : Pins := {}
  /-- The model's own counter of the free values used so far; no rule of the spec names it. -/
  free : Nat := 0
  /-- The commands that wait, first in, first out. -/
  pending : List Instr := []
deriving DecidableEq, Repr

/-- Why the machine stops with a fault. No rule of the spec stops this device: every fault of the spec is a state the
device goes on in, so no command raises one; the constructor is the host's interface's need for a type. Safe. -/
inductive Fault where
  /-- Never raised. -/
  | stopped
deriving DecidableEq, Repr

/-- Why the model refuses a command. -/
inductive Refusal where
  /-- The dispatcher raises it for a command that has no meaning yet. Safe. -/
  | notModelled (mnemonic : String)
deriving DecidableEq, Repr

/-- The machine right after VAON power-on reset: every register field at its reset value, memory with nothing listed,
the SSS in FREEWHEEL with the drive in SAFE (R27, R32, R70, R399), no command waiting (DESIGN CHOICE, assumption 4). -/
def State.reset : State := {}

end Sys2Proof.Machine
end

