-- ==== Sys2Proof/Machine/Ops.lean ====
section
/-!
DEFINITION. The named operations over registers, memory and time, and the settling of the pins that ends every command.
-/
namespace Sys2Proof.Machine

open Reg

/-! The address map (R311). -/

/-- The regions of R311. -/
inductive RegionKind where
  | rom | otp | flash | sramK | sram | cle | window | none
deriving DecidableEq, Repr

def within (a base size : Nat) : Bool := decide (base ≤ a) && decide (a < base + size)

def kindOf (a : Nat) : RegionKind :=
  if within a 0 0x8000 then .rom
  else if within a 0x08000000 0x4000 then .otp
  else if within a 0x10000000 0x400000 then .flash
  else if within a 0x20000000 0x2000 then .sramK
  else if within a 0x20002000 0xFE000 then .sram
  else if within a 0x30000000 0x10000 then .cle
  else if within a 0x40000000 0x16000 then .window
  else .none

/-! Sparse data. -/

/-- The value listed under a key. -/
def sparseFind {α : Type} : Sparse α → Nat → Option α
  | [], _ => none
  | (k, v) :: l, i => if k = i then some v else sparseFind l i

/-- The list without a key. -/
def sparseErase {α : Type} : Sparse α → Nat → Sparse α
  | [], _ => []
  | (k, v) :: l, i => if k = i then sparseErase l i else (k, v) :: sparseErase l i

/-- Insert a key that the list does not hold, before the first larger one. -/
def sparseInsert {α : Type} : Sparse α → Nat → α → Sparse α
  | [], i, x => [(i, x)]
  | (k, v) :: l, i, x => if i < k then (i, x) :: (k, v) :: l else (k, v) :: sparseInsert l i x

/-- Write a key; the value an unlisted key reads as takes the entry away. -/
def sparsePut {α : Type} [DecidableEq α] (l : Sparse α) (i : Nat) (x d : α) : Sparse α :=
  if x = d then sparseErase l i else sparseInsert (sparseErase l i) i x

/-- Keys strictly rising, above a bound, and no value equal to what its key reads as unlisted: a Bool, so that it can be tested. -/
def sparseWfFrom {α : Type} [DecidableEq α] (d : Nat → α) : Nat → Sparse α → Bool
  | _, [] => true
  | b, (k, v) :: l => decide (b ≤ k) && decide (v ≠ d k) && sparseWfFrom d (k + 1) l

/-- The canonical form of sparse data. -/
def sparseWf {α : Type} [DecidableEq α] (d : Nat → α) (l : Sparse α) : Bool := sparseWfFrom d 0 l

/-! Numbers. -/

/-- The signed value of the low `w` bits of `n`. -/
def signedOf (w n : Nat) : Int :=
  let m := n % 2 ^ w
  if m < 2 ^ (w - 1) then m else (m : Int) - 2 ^ w

/-- The low `w` bits of the two's complement of an integer. -/
def bitsOf (w : Nat) (i : Int) : Nat := (i % (2 ^ w : Int)).toNat

/-- Bit `k` of a mask. -/
def bit (n k : Nat) : Bool := n.testBit k

/-- A mask with bit `k` set, or cleared. -/
def bitSet (n k : Nat) : Nat := n ||| 2 ^ k
def bitClr (n k : Nat) : Nat := if n.testBit k then n - 2 ^ k else n
def bitPut (n k : Nat) (b : Bool) : Nat := if b then bitSet n k else bitClr n k

/-- Clamp to a range. -/
def clampI (x lo hi : Int) : Int := if x < lo then lo else if hi < x then hi else x

/-- Saturate to a `w`-bit two's complement number. -/
def satI (w : Nat) (x : Int) : Int := clampI x (-(2 ^ (w - 1) : Int)) ((2 ^ (w - 1) : Int) - 1)

/-- The nearest integer to n/d for a positive d, ties away from zero. -/
def roundDiv (n : Int) (d : Nat) : Int :=
  if 0 ≤ n then (2 * n + d) / (2 * (d : Int)) else -((2 * (-n) + d) / (2 * (d : Int)))

/-- ceil(n/d) of naturals. -/
def ceilDiv (n d : Nat) : Nat := (n + d - 1) / d

/-- Replace one entry of a list. -/
def setAt {α : Type} : List α → Nat → α → List α
  | [], _, _ => []
  | _ :: l, 0, x => x :: l
  | a :: l, n + 1, x => a :: setAt l n x

/-! Fractions. -/

def Frac.ofInt (i : Int) : Frac := ⟨i, 1⟩
def Frac.add (a b : Frac) : Frac := ⟨a.num * b.den + b.num * a.den, a.den * b.den⟩
def Frac.neg (a : Frac) : Frac := ⟨-a.num, a.den⟩
def Frac.sub (a b : Frac) : Frac := a.add b.neg
def Frac.mul (a b : Frac) : Frac := ⟨a.num * b.num, a.den * b.den⟩
def Frac.divNat (a : Frac) (n : Nat) : Frac := ⟨a.num, a.den * n⟩
/-- Whether a ≤ b, for positive denominators. -/
def Frac.le (a b : Frac) : Bool := a.num * b.den ≤ b.num * a.den
def Frac.lt (a b : Frac) : Bool := a.num * b.den < b.num * a.den
def Frac.abs (a : Frac) : Frac := ⟨a.num.natAbs, a.den⟩
def Frac.min (a b : Frac) : Frac := if a.le b then a else b
def Frac.max (a b : Frac) : Frac := if a.le b then b else a
def Frac.clamp (x lo hi : Frac) : Frac := (x.max lo).min hi
def Frac.floor (a : Frac) : Int := a.num / a.den
def Frac.round (a : Frac) : Int := roundDiv a.num a.den
/-- Take out the common divisor. -/
def Frac.norm (a : Frac) : Frac :=
  let g := Nat.gcd a.num.natAbs a.den
  if g ≤ 1 then a else ⟨a.num / g, a.den / g⟩

/-! Registers. -/

/-- The active value of a register field (R90). -/
def State.r (s : State) (f : Fld) : Nat :=
  match sparseFind s.regs f.key with
  | some v => v.toNat
  | none => f.reset

/-- The active value of a one-bit field. -/
def State.b (s : State) (f : Fld) : Bool := s.r f != 0

/-- The active value of a signed field. -/
def State.ri (s : State) (f : Fld) : Int := signedOf f.width (s.r f)

/-- Write the active value of a register field, cut to the field's width. -/
def State.w (s : State) (f : Fld) (v : Nat) : State :=
  { s with regs := sparsePut s.regs f.key (BitVec.ofNat 32 (v % 2 ^ f.width)) (BitVec.ofNat 32 f.reset) }

/-- Write a signed field. -/
def State.wi (s : State) (f : Fld) (v : Int) : State := s.w f (bitsOf f.width v)

/-- Write a one-bit field. -/
def State.wb (s : State) (f : Fld) (v : Bool) : State := s.w f (if v then 1 else 0)

/-- Set bit `k` of a field. -/
def State.setBit (s : State) (f : Fld) (k : Nat) : State := s.w f (bitSet (s.r f) k)

/-- Clear bit `k` of a field. -/
def State.clrBit (s : State) (f : Fld) (k : Nat) : State := s.w f (bitClr (s.r f) k)

/-- Add to a counter field, wrapping at its width. -/
def State.bump (s : State) (f : Fld) (n : Nat := 1) : State := s.w f (s.r f + n)

/-- Add one to a counter field that saturates. -/
def State.bumpSat (s : State) (f : Fld) : State := if s.r f + 1 < 2 ^ f.width then s.w f (s.r f + 1) else s

/-- What the shadow bank of an RWS field holds, or is to hold once a write held past the cut-off enters it (R90, R92). -/
def State.shadowOf (s : State) (f : Fld) : Nat :=
  match s.hoi.late.reverse.find? (fun e => e.key == f.key) with
  | some e => e.value.toNat
  | none => match sparseFind s.shadow f.key with
    | some v => v.toNat
    | none => s.r f

/-- Write a field's shadow bank: the later of two writes stays (R90). -/
def State.ws (s : State) (f : Fld) (v : Nat) : State :=
  { s with shadow := sparseInsert (sparseErase s.shadow f.key) f.key (BitVec.ofNat 32 (v % 2 ^ f.width)) }

/-- Bring every field of a table to its reset value, shadows and held writes included. -/
def State.resetTable (s : State) (fs : List Fld) : State :=
  { s with regs := s.regs.filter (fun e => !(fs.any (fun f => f.key == e.1))),
           shadow := s.shadow.filter (fun e => !(fs.any (fun f => f.key == e.1))),
           hoi := { s.hoi with late := s.hoi.late.filter (fun e => !(fs.any (fun f => f.key == e.key))) } }

/-- Do something to the state when a condition holds (DESIGN CHOICE, assumption 6). -/
def State.when (s : State) (c : Bool) (f : State → State) : State := if c then f s else s

/-! Indexed entries that are RWS fields without a word of their own (R203, R267, R269, R453): they are held beside the
register fields, under addresses that no bus word has. -/

/-- Word `w` of Guidon section descriptor `i` (R267). -/
def secFld (i w : Nat) : Fld := ⟨0x50000000 + 16 * i + 4 * w, 0, 32, .rws, .at .H, .installer, 0, false, false⟩

/-- Word `w` of local endpoint entry `i` (R269). -/
def epFld (i w : Nat) : Fld := ⟨0x51000000 + 16 * i + 4 * w, 0, 32, .rws, .at .H, .installer, 0, false, false⟩

/-- Lane `l` of CLE set-point `n`; lane 8 is its exponent (R203). -/
def spFld (n l : Nat) : Fld :=
  ⟨0x52000000 + 64 * n + 4 * l, 0, if l = 8 then 6 else 24, .rws, .bySp n, .installer, 0, false, false⟩

/-- The field or entry at the address of a key. -/
def fieldNear (k : Nat) : Option Fld :=
  let a := k / 32
  if a < 0x50000000 then Reg.fieldOfKey k
  else if a < 0x51000000 then some (secFld ((a - 0x50000000) / 16) (a % 16 / 4))
  else if a < 0x52000000 then some (epFld ((a - 0x51000000) / 16) (a % 16 / 4))
  else if a < 0x53000000 then some (spFld ((a - 0x52000000) / 64) (a % 64 / 4))
  else none

/-- The field held under a key, register fields and indexed entries alike. -/
def fieldOf (k : Nat) : Option Fld := (fieldNear k).filter (fun f => f.key == k)

/-- The level of a code of SPLVn: 0 T, 1 C, 2 L, 3 O, 4 H (R203). -/
def levelOfCode (n : Nat) : Level :=
  if n = 0 then .T else if n = 1 then .C else if n = 3 then .O else if n = 4 then .H else .L

/-- The level at which a field is hoisted now: PWM_CTRL.UPD and SPLVn choose for the fields that follow them. -/
def State.levelOf (s : State) (f : Fld) : Option Level :=
  match f.lvl with
  | .none => none
  | .at l => some l
  | .byUpd => some (if s.b PWM_CTRL_UPD then .T else .C)
  | .bySp n => some (levelOfCode (s.r CLE_SPCFG_SPLV / 8 ^ n % 8))

/-- A write of an RWS field: to the shadow, or held with LATE when it comes past the cut-off that fixed the coming
swap of its level (R90, R92). A field without a level takes the write at once. -/
def State.rws (s : State) (f : Fld) (v : Nat) : State :=
  match s.levelOf f with
  | none => s.w f v
  | some l =>
    if s.hoi.cut.contains l then
      { s.w HOI_STS_LATE 1 with hoi := { s.hoi with late := s.hoi.late ++ [⟨f.key, BitVec.ofNat 32 v, l⟩] } }
    else s.ws f v

/-! Crossings (R65, R67). -/

/-- The crossings whose bits the mask sets are cleared by a reset on one side: what their destinations hold is STALE
(DEDUCED, assumption 72). -/
def State.markStale (s : State) (mask : Nat) : State := s.w CPM_XSTALE_STALE (s.r CPM_XSTALE_STALE ||| mask)

/-- A fresh transfer arrives over the crossings of a mask (DEDUCED, assumption 72). -/
def State.fresh (s : State) (mask : Nat) : State :=
  if s.r CPM_XSTALE_STALE &&& mask = 0 then s else s.w CPM_XSTALE_STALE (s.r CPM_XSTALE_STALE &&& (4095 ^^^ mask))

/-- The crossings of R65 with an end in a domain. -/
def crossingsOf : Domain → Nat
  | .pwm => 0x003 | .hly => 0x00C | .host => 0x030 | .sys => 0x3FF | _ => 0

/-! Memory: one byte-addressed map (R310). -/

/-- What a byte reads as that nothing has written: in OTP's die identity the device id and the step code after the twelve bytes
of the die (R84) (DESIGN CHOICE, assumption 180), elsewhere 0 (DESIGN CHOICE, assumption 2). -/
def restByte (a : Nat) : Byte :=
  if a = 0x0800000C then 0x44 else if a = 0x0800000D then 0x71 else if a = 0x0800000E then BitVec.ofNat 8 Config.step else 0

/-- One byte of memory. -/
def State.byte (s : State) (a : Nat) : Byte := (sparseFind s.mem a).getD (restByte a)

/-- Write one byte of memory. -/
def State.setByte (s : State) (a : Nat) (v : Byte) : State := { s with mem := sparsePut s.mem a v (restByte a) }

/-- The canonical form of memory. -/
def State.memWf (s : State) : Bool := sparseWf restByte s.mem

/-- `n` bytes from an address, the lowest address least significant (R309). -/
def State.readLE (s : State) (a : Nat) : Nat → Nat
  | 0 => 0
  | n + 1 => (s.byte a).toNat + 256 * s.readLE (a + 1) n

/-- Write `n` bytes of a number at an address, the least significant byte lowest (R309). -/
def State.writeLE (s : State) (a v : Nat) : Nat → State
  | 0 => s
  | n + 1 => (s.setByte a (BitVec.ofNat 8 v)).writeLE (a + 1) (v / 256) n

/-- The bytes of a range, lowest address first. -/
def State.bytes (s : State) (a : Nat) : Nat → List Byte
  | 0 => []
  | n + 1 => s.byte a :: s.bytes (a + 1) n

/-- Write a list of bytes from an address up. -/
def State.writeBytes (s : State) (a : Nat) : List Byte → State
  | [] => s
  | b :: l => (s.setByte a b).writeBytes (a + 1) l

/-- Forget what a memory range holds: it reads 0 again (R49, R70). -/
def State.clearRange (s : State) (a n : Nat) : State :=
  { s with mem := s.mem.filter (fun e => !(decide (a ≤ e.1) && decide (e.1 < a + n))) }

/-! Time and free values. -/

/-- The instant of the present command, in u since SYS was first clocked. -/
def State.nowU (s : State) : Nat := s.hoi.base + s.hoi.now

/-- The same instant in fine units of 156.25 ps (R103). -/
def State.nowF (s : State) : Nat := s.nowU * 32 + s.hoi.fine

/-- Take note of a command's instant (DESIGN CHOICE, assumption 5). -/
def State.at (s : State) (t : Nat) : State := { s with hoi := { s.hoi with now := t, fine := 0 } }

/-- Take note of a command's instant in fine units after the last tick boundary (DESIGN CHOICE, assumption 5). -/
def State.atF (s : State) (t : Nat) : State := { s with hoi := { s.hoi with now := t / 32, fine := t % 32 } }

/-- A fresh free value, with the counter advanced (DESIGN CHOICE, assumption 12). -/
def State.freeNat (s : State) : Nat × State := (Config.freeValue s.free, { s with free := s.free + 1 })

/-! Stamps (R21). -/

/-- POS's latched values are of this boundary (R21, R150) (DEDUCED, assumption 157). -/
def State.posFresh (s : State) : Bool := s.r POS_STAMP_TICK == s.r HOI_TICKCNT_TICKCNT

/-- The Hall averages are no older than one loop cycle (R21, R138) (DEDUCED, assumption 157). -/
def State.hallFresh (s : State) : Bool :=
  decide ((s.r HOI_TICKCNT_TICKCNT + 4294967296 - s.r PCV_HSTAMP_TICK) % 4294967296 ≤ s.r HOI_FRAME_LOOPT + 1)

/-! Drive state and safe state. -/

def driveCode : DriveState → Nat
  | .off => 0 | .armed => 1 | .run => 2 | .stopping => 3 | .safe => 4

def safeCode : SafeState → Nat
  | .none => 0 | .freewheel => 1 | .ascL => 2 | .ascH => 3

def safeOf (n : Nat) : SafeState :=
  if n = 1 then .freewheel else if n = 2 then .ascL else if n = 3 then .ascH else .none

/-- The drive state (R7), held in SSS_STS.DSTATE. -/
def State.drv (s : State) : DriveState :=
  match s.r SSS_STS_DSTATE with
  | 0 => .off | 1 => .armed | 2 => .run | 3 => .stopping | _ => .safe

/-- The safe state held (R5), in SSS_STS.SAFEST. -/
def State.safest (s : State) : SafeState := safeOf (s.r SSS_STS_SAFEST)

/-- The drive is in OFF or SAFE. -/
def State.offOrSafe (s : State) : Bool := s.drv == .off || s.drv == .safe

/-- The drive is energised: ARMED, RUN or STOPPING. -/
def State.energised (s : State) : Bool := !s.offOrSafe

/-- PWM stage states, in the encoding of PWM_STS.STATE (R112). -/
inductive StageState where
  | idle | start | run | tripped
deriving DecidableEq, Repr

def State.stageState (s : State) : StageState :=
  match s.r PWM_STS_STATE with
  | 0 => .idle | 1 => .start | 2 => .run | _ => .tripped

def stageCode : StageState → Nat
  | .idle => 0 | .start => 1 | .run => 2 | .tripped => 3

/-! Domains and device state. -/

def domBit : Domain → Nat
  | .sys => 0 | .cm => 1 | .ck => 2 | .cle => 3 | .sense => 4 | .pwm => 5 | .impl => 6 | .hly => 7 | .host => 8

/-- A domain is powered (CPM_STATE.DOMON). -/
def State.on (s : State) (d : Domain) : Bool := bit (s.r CPM_STATE_DOMON) (domBit d)

/-- A domain is powered and out of reset. -/
def State.live (s : State) (d : Domain) : Bool := s.on d && !bit s.cpm.inReset (domBit d)

/-- A device in IDLE is in RUN again (R7, R51, R68); every other device state stays. -/
def State.idleEnd (s : State) : State :=
  if s.cpm.dev = .idle then { s.w CPM_STATE_LASTSLP 1 with cpm := { s.cpm with dev := .run } } else s

/-! The gate-drive group at the pads (R29, R30). -/

/-- The pattern of a safe state. -/
def safeForce : SafeState → Force
  | .ascL => .low
  | .ascH => .high
  | _ => .off

/-- PWM_TRIPPAT of source n: 0 masked, 1 FREEWHEEL, 2 ASC-L, 3 ASC-H. -/
def State.tripPat (s : State) (n : Nat) : Nat := s.r PWM_TRIPPAT_PAT / 4 ^ n % 4

/-- The latched trip sources. -/
def State.latched (s : State) : List Nat := (List.range 6).filter (fun n => bit (s.r PWM_TRIPSTS_LATCH) n)

/-- The pattern the latched sources force: theirs when they agree, FREEWHEEL when they do not (R115). -/
def State.tripForce (s : State) : Option Force :=
  match s.latched with
  | [] => none
  | n :: l =>
    let p := s.tripPat n
    if l.all (fun m => s.tripPat m == p) then
      some (if p = 2 then .low else if p = 3 then .high else .off)
    else some .off

/-- A switch under a forced pattern: off unless the pattern turns it on, and then on when it is already on, or when
the opposite switch has been off for the delay (R116). -/
def forcedSwitch (want wasOn oppWas : Bool) (offOpp now delay : Nat) : Bool :=
  want && (wasOn || (!oppWas && decide (offOpp + delay ≤ now)))

/-- EXTEST is selected; the TAP controller acts while SYS is on (R34). -/
def State.extestOn (s : State) : Bool := s.pwm.extest && s.on .sys

/-- EXTEST drives the six PWM pads only with the drive in OFF and the SSS in FREEWHEEL (R33) (DEDUCED, assumption 63). -/
def State.extestActive (s : State) : Bool := s.extestOn && s.drv == .off && s.safest == .freewheel

/-- A latent test drives its pattern at the pads (R392), as long as the SSS holds FREEWHEEL under the override. -/
def State.patternOn (s : State) : Bool :=
  s.b SSS_STS_OVR && s.safest == .freewheel && decide (s.nowU < s.sss.patternEnd)

/-- The two pads of leg `n` (0 A, 1 B, 2 C), by the order of R29. -/
def State.legLevels (s : State) (n : Nat) (l : Leg) (p : PadLeg) : Bool × Bool :=
  if !s.cpm.vio then (false, false)
  else if s.extestActive then (bit s.pwm.cells (2 * n), bit s.pwm.cells (2 * n + 1))
  else if s.patternOn then (decide (safeForce s.sss.pattern = .high), decide (safeForce s.sss.pattern = .low))
  else if s.b SSS_STS_OVR then
    let f := safeForce s.safest
    (decide (f = .high) && (s.sss.ascOn || p.hi), decide (f = .low) && (s.sss.ascOn || p.lo))
  else match s.tripForce with
    | some f =>
      (forcedSwitch (decide (f = .high)) p.hi p.lo p.offLo s.nowF (s.r PWM_DTMAX_DTMAX),
       forcedSwitch (decide (f = .low)) p.lo p.hi p.offHi s.nowF (s.r PWM_DTMAX_DTMAX))
    | none => (decide (l.on = .high), decide (l.on = .low))

/-- An ASC-L pattern holds the pads: the SSS's, or the trip sources' (R127). -/
def State.ascLHeld (s : State) : Bool :=
  s.cpm.vio && !s.extestActive && (if s.b SSS_STS_OVR then s.safest == .ascL else s.tripForce == some .low)

/-- Windows are open: in START and RUN, and under ASC-L (R127). -/
def State.windowsOpen (s : State) : Bool :=
  s.live .sense && !s.extestActive && (s.ascLHeld || s.stageState == .start || s.stageState == .run)

/-- The stamp of the valley whose span the present instant lies in (R127, R129). -/
def State.valleyStamp (s : State) : Nat :=
  if s.b HOI_POS_HALF then (s.r HOI_TICKCNT_TICKCNT + 1) % 2 ^ 32 else s.r HOI_TICKCNT_TICKCNT

/-- A leg's window as its low side turns on or off at the pad (R127). -/
def State.winOf (s : State) (w : LegWin) (was now : Bool) : LegWin :=
  if !s.live .sense then {}
  else if !was && now then (if w.closed || !s.windowsOpen then w else { w with since := some s.nowF })
  else if was && !now then
    match w.since with
    | some b => { since := none, closed := true, due := some ⟨b, s.nowF - b, s.valleyStamp, true, true⟩ }
    | none => w
  else w

/-- A leg's pads with the turn-offs and turn-ons stamped (DEDUCED, assumption 63). -/
def State.padOf (s : State) (n : Nat) (l : Leg) (p : PadLeg) : PadLeg :=
  let v := s.legLevels n l p
  { hi := v.1, lo := v.2, win := s.winOf p.win p.lo v.2,
    offHi := if p.hi && !v.1 then s.nowF else p.offHi,
    offLo := if p.lo && !v.2 then s.nowF else p.offLo,
    onHi := if !p.hi && v.1 then s.nowF else p.onHi,
    onLo := if !p.lo && v.2 then s.nowF else p.onLo }

/-- GDENH: in ARMED, RUN and STOPPING, in ASC-H, and under the discharge release (R30, R113, R236); while a RELARM from
ASC-H still moves to ASC-L, that state's enable alone (R371). -/
def State.gdenH (s : State) : Bool :=
  s.cpm.vio && ((s.energised && !s.sss.relarmMove) || s.b SSS_STS_WINDREL || (s.drv == .safe && s.safest == .ascH))

/-- GDENL: in ARMED, RUN and STOPPING, in ASC-L, and under the discharge release. -/
def State.gdenL (s : State) : Bool :=
  s.cpm.vio && (s.energised || s.b SSS_STS_WINDREL || (s.drv == .safe && s.safest == .ascL))

/-- ADIS: while DIS asks for it, in OFF or SAFE only (R120, R121). -/
def State.adis (s : State) : Bool :=
  s.cpm.vio && s.offOrSafe && (s.r DIS_STS_STATE == 2 || s.r DIS_STS_STATE == 3 || s.r DIS_STS_STATE == 4)

/-- The most severe classes of the active faults. -/
def State.holdsClass (s : State) (c : FaultClass) : Bool := s.flt.active.any (fun a => a.cls == c)

/-- The cell of a pin under EXTEST is 1 (R33). -/
def State.cellHigh (s : State) (pin : Nat) : Bool := s.pwm.pinCells.contains pin

/-- The device asserts NFAULT (R28, R414). -/
def State.nfaultAsked (s : State) : Bool :=
  s.cpm.phase != .running || s.holdsClass .A || s.holdsClass .B || s.b SSS_STS_HBLOSS
    || s.cpm.inReset != 0 || (s.b FLT_CFG_NFC && s.holdsClass .C)

/-- NFAULT low at its pad: the device asserts it, or its cell drives it (R25, R33). -/
def State.nfaultLow (s : State) : Bool := s.cpm.vio && (if s.extestOn then !s.cellHigh 65 else s.nfaultAsked)

/-- The device asserts HIRQ: an enabled bit of HSP_IRQ is set, once the kernel accepts host frames (R71, R449). -/
def State.hirqAsked (s : State) : Bool :=
  (s.cpm.phase == .running || s.cpm.phase == .recovery) && s.live .host && (s.r HSP_IRQ_EVT &&& s.r HSP_IRQEN_EN) != 0

/-- HIRQ low at its pad (R25, R33). -/
def State.hirqLow (s : State) : Bool := s.cpm.vio && (if s.extestOn then !s.cellHigh 81 else s.hirqAsked)

def padOfBool (b : Bool) : PadLevel := if b then .high else .low

/-- A digital output pad (R25, R26, R33): undriven without VIO, its cell's level under EXTEST, else what its block gives. -/
def State.digitalPad (s : State) (pin : Nat) (v : PadLevel) : PadLevel :=
  if !s.cpm.vio then .hiZ else if s.extestOn then padOfBool (s.cellHigh pin) else v

/-- The two half-bridge levels of a phase: forward, reverse, and both low sides on in slow decay or off (R252). -/
def Bridge.pads : Bridge → PadLevel × PadLevel
  | .off => (.low, .low) | .pos => (.high, .low) | .neg => (.low, .high) | .slow => (.high, .high)

/-- AXnPA, AXnNA, AXnPB and AXnNB (R34, R242): the bridges, or STEP, ENA, DIR and a low level. -/
def State.axPads (s : State) (n : Nat) (a : Axis) : List PadLevel :=
  let v := if !s.live .impl then List.replicate 4 .low
    else if s.b (AXS_CTRL_MODE n) then
      let st := s.r (AXS_STS_STATE n)
      [padOfBool (decide (a.pulseAt ≤ s.nowU) && decide (s.nowU < a.pulseEnd)), padOfBool (st != 0 && st != 6),
        padOfBool a.dirNeg, .low]
    else [a.phA.bridge.pads.1, a.phA.bridge.pads.2, a.phB.bridge.pads.1, a.phB.bridge.pads.2]
  v.mapIdx (fun k x => s.digitalPad ((if n = 0 then 31 else 37) + k) x)

/-- A transmitter of CAN: recessive, by its pull while HOST is off (R34). -/
def State.canPad (s : State) (c : Nat) (x : Can) : PadLevel :=
  if !s.live .host || !s.b (CAN_CTRL_EN c) then .pullUp else if x.sending.isSome then .signal else .high

/-- A transmitter of a ring port: its cell's level under EXTEST (R33); electrical idle while the port is disabled or HLY is off or
in reset, and training sets, IDLE or frames while it is enabled (R34, R282, R283). -/
def State.ringPad (s : State) (n : Nat) : PadLevel :=
  if s.extestOn && s.cpm.vdds then padOfBool (s.cellHigh (if n = 0 then 89 else 95))
  else if s.on .hly && !bit s.cpm.inReset (domBit .hly) && bit (s.r HLY_CTRL_PORTEN) n then .signal else .idle

/-- The clock and the driver enable of the serial sensor (R24, R34, R161): SWCK rests high and SWDE low between words. -/
def State.serialPads (s : State) : PadLevel × PadLevel :=
  if !s.live .sense || !bit (s.r POS_CTRL_EN) 2 || s.b POS_SWCFG_SENT then (.pullUp, .pullDown)
  else if s.pos.req.any (fun q => !q.failed) then (.signal, .high) else (.high, .low)

/-- The excitation (R34, R151): driven while the resolver is enabled and VDDA is valid. -/
def State.excPad (s : State) : PadLevel :=
  if s.live .sense && s.cpm.vdda && bit (s.r POS_CTRL_EN) 0 then .signal else .hiZ

/-- The pulse that began last among those of period `ms` whose first lies one period after `first`, by its start in u. -/
def State.pulseStart (s : State) (first ms : Nat) : Option Nat :=
  let p := 200000 * max 1 ms
  if first + p ≤ s.nowU then some (first + p * ((s.nowU - first) / p)) else none

/-- The last test pulse of TPO0 or TPO1, the latter half a period later (R385) (DEDUCED, assumption 168). -/
def State.tpPulse (s : State) (k : Nat) : Option Nat :=
  match s.saf.pulseFrom with
  | some a => s.pulseStart (a + 100000 * max 1 (s.r SAF_TP_TPP) * k) (s.r SAF_TP_TPP)
  | none => none

/-- A test pulse of TPO0 or TPO1 is under way, or ended less than `tail` u ago. -/
def State.tpLow (s : State) (k tail : Nat) : Bool :=
  match s.tpPulse k with
  | some b => decide (s.nowU < b + 200 * s.r SAF_TP_TPW + tail)
  | none => false

/-- The level of TPO0 or TPO1: high but in a test pulse, TPO1 low while test mode holds it (R385, R392). -/
def State.tpoLevel (s : State) (k : Nat) : Bool :=
  s.saf.tpo && !s.tpLow k 0 && !(k == 1 && s.b SAF_TP_TEST && s.b SAF_TP_HOLDB)

def State.safOut (s : State) (n : Nat) : SafOut := if n = 0 then s.saf.out0 else s.saf.out1

/-- OPW in u; above 500 µs it acts as 500 (R389). -/
def State.opwU (s : State) : Nat := 200 * min 500 (s.r SAF_OPT_OPW)

/-- The off-pulse of SFOn that began last, one for which OPEN was in force at its start (R389) (DEDUCED, assumption 168). -/
def State.offPulse (s : State) (n : Nat) : Option Nat :=
  let o := s.safOut n
  match o.highAt with
  | some a =>
    match s.pulseStart a (s.r SAF_OPT_OPP) with
    | some b => if (if o.openAt ≤ b then o.openNow else o.openWas) then some b else none
    | none => none
  | none => none

/-- The level driven at SFOn: low in an off-pulse (R389). -/
def State.sfoDriven (s : State) (n : Nat) : Bool :=
  bit (s.r SAF_OUT_LEVEL) n && !(match s.offPulse n with | some b => decide (s.nowU < b + s.opwU) | none => false)

/-- The output pads beside the gate-drive group (R27, R34). -/
def State.outPads (s : State) : OutPads :=
  let ck := fun (f : Fld) => if s.live .sense && s.b f then PadLevel.signal else .low
  let sw := s.serialPads
  { sdck0 := s.digitalPad 21 (ck SDX_CTRL_CKEN0), sdck1 := s.digitalPad 26 (ck SDX_CTRL_CKEN1)
    ax0 := s.axPads 0 s.ax0, ax1 := s.axPads 1 s.ax1
    tpo0 := s.digitalPad 55 (padOfBool (s.tpoLevel 0)), tpo1 := s.digitalPad 56 (padOfBool (s.tpoLevel 1))
    sfo0 := s.digitalPad 57 (padOfBool (s.sfoDriven 0)), sfo1 := s.digitalPad 59 (padOfBool (s.sfoDriven 1))
    tdo := .hiZ, hsd := (List.range 4).map (fun k => s.digitalPad (77 + k) .pullUp)
    can0tx := s.digitalPad 83 (s.canPad 0 s.can0), can1tx := s.digitalPad 85 (s.canPad 1 s.can1)
    h0tx := s.ringPad 0, h1tx := s.ringPad 1
    swck := s.digitalPad 101 sw.1, swde := s.digitalPad 103 sw.2, exc := s.excPad }

/-! The cores, and the guarded writes of the kernel (R346, R356, R361, R366). -/

def State.modCores (s : State) (f : Cores → Cores) : State := { s with cores := f s.cores }

def State.core (s : State) (isMain : Bool) : Core := if isMain then s.cores.main else s.cores.chk
def State.setCore (s : State) (isMain : Bool) (c : Core) : State :=
  if isMain then s.modCores (fun x => { x with main := c }) else s.modCores (fun x => { x with chk := c })

/-- The register is guarded: some field of its word is marked so (R346) (DEDUCED, assumption 71). -/
def guardedAt (a : Nat) : Bool := (fieldsAt a).any (fun f => f.guarded)

/-- A guarded write of the kernel still passes CMP: no mismatch has stopped it since the last reset (R361), and the
program has been handed over (DEDUCED, assumption 71). -/
def State.kernelPasses (s : State) : Bool := s.r CMP_STS_MIS == 0 && s.cpm.phase == .running

/-- The separation of a pair, in SYS cycles (R366). -/
def State.noteLag (s : State) (n : Nat) : State :=
  let s := s.w CMP_LAG_LAST (min 4095 n)
  if s.r CMP_LAG_MAX < n then s.w CMP_LAG_MAX (min 4095 n) else s

/-- A guarded write of the kernel has passed: its pair is counted, and its separation noted, which the spec leaves open within the
2,000 cycles of R357 (DEDUCED, assumption 71). -/
def State.kernelWrote (s : State) : State :=
  let (x, s) := s.freeNat
  (s.noteLag (x % 2001)).bump CMP_CNT_GPASS

/-- A guarded write of the kernel on both cores, and what it does once it has passed (R356) (DEDUCED, assumption 71). -/
def State.kernelGsw (s : State) (f : State → State) : State := if s.kernelPasses then f s.kernelWrote else s

/-- Block `k` of self-test is being tested (R437). -/
def State.tested (s : State) (k : Nat) : Bool :=
  match s.bst.blocks[k]? with
  | some b => b.phase == .running || b.phase == .rejoin || bit (s.r BST_STS_ISO) k
  | none => false

def State.canLive (s : State) : Bool := s.live .host && !s.tested 15

/-! Interrupt lines (R312, R318, R353, R355). -/

/-- An interrupt register against its enable. -/
def State.irq (s : State) (evt en : Fld) : Bool := (s.r evt &&& s.r en) != 0

/-- The level of a device line; a block under test or off has its line masked (R439). -/
def State.devLine (s : State) (n : Nat) : Bool :=
  match n with
  | 1 => s.live .sys && (s.irq HOI_IRQ_BND HOI_IRQEN_BND || s.irq HOI_IRQ_LOCKCHG HOI_IRQEN_LOCKCHG)
  | 2 => s.live .pwm && !s.tested 9 && (s.irq PWM_IRQ_TRIP PWM_IRQEN_TRIP || s.irq PWM_IRQ_EVT PWM_IRQEN_EVT)
  | 7 => s.live .sense && !s.tested 8 && s.irq POS_IRQ_EVT POS_IRQEN_EN
  | 9 => s.live .impl && !s.tested 11 && s.irq AXS_IRQ_EVT AXS_IRQEN_EN
  | 10 => s.live .impl && !s.tested 12 && s.irq GDN_IRQ_EVT GDN_IRQEN_EN
  | 11 => s.live .hly && !s.tested 13 && s.irq HLY_IRQ_EVT HLY_IRQEN_EN
  | 12 => s.irq SAF_IRQ_EVT SAF_IRQEN_EN
  | 14 => s.live .sys && s.irq FLT_IRQ_EVT FLT_IRQEN_EN
  | 15 => s.live .sys && !s.tested 16 && s.irq THM_IRQ_EVT THM_IRQEN_EN
  | 16 => s.live .sys && s.irq BST_IRQ_EVT BST_IRQEN_EN
  | 17 => s.live .host && !s.tested 14 && s.irq HSP_IRQ_EVT HSP_IRQEN_EN
  | 18 => s.canLive && s.irq (CAN_IRQ_EVT 0) (CAN_IRQEN_EN 0)
  | 22 => s.canLive && s.irq (CAN_IRQ_EVT 1) (CAN_IRQEN_EN 1)
  | _ => false

/-- A line stands at a core: a device line, a frame entry that is due, or a line of the core itself. -/
def State.lineAt (s : State) (c : Core) (n : Nat) : Bool :=
  s.devLine n || (n == 1 && c.frameDue.isSome) || c.lines.getLsbD n

/-- The times a core has taken a line. -/
def Core.takes (c : Core) (n : Nat) : Nat := c.taken.getD n 0

/-- A line is pending at a core: the checker's is also pending while the main core is ahead in taking it. -/
def State.linePending (s : State) (isMain : Bool) (n : Nat) : Bool :=
  let c := s.core isMain
  s.lineAt c n || (!isMain && decide (c.takes n < s.cores.main.takes n))

/-- SR_IPEND. -/
def State.pendWord (s : State) (isMain : Bool) : Word :=
  BitVec.ofNat 32 ((List.range 32).foldl (fun w n => if s.linePending isMain n then bitSet w n else w) 0)

/-- A core that WAIT has stopped sees a line pending: it goes on, also when the line is gone again (R338). -/
def State.lineSeen (s : State) (isMain : Bool) (was : Bool) : Bool :=
  (s.core isMain).waiting && (was || s.pendWord isMain != 0)

/-- The pins as the rest of the state drives them. -/
def settle (s : State) : State :=
  { s with pins :=
    { padA := s.padOf 0 s.pwm.legA s.pins.padA
      padB := s.padOf 1 s.pwm.legB s.pins.padB
      padC := s.padOf 2 s.pwm.legC s.pins.padC
      ascTick := s.pins.ascTick && s.ascLHeld
      gdenH := s.gdenH, gdenL := s.gdenL, adis := s.adis, nfaultLow := s.nfaultLow, hirqLow := s.hirqLow
      out := s.outPads
      lineMain := s.lineSeen true s.pins.lineMain, lineChk := s.lineSeen false s.pins.lineChk
      enabledAt := if s.gdenH && s.gdenL then some (s.pins.enabledAt.getD s.nowU) else none } }

/-- A command's effect on everything but the queue, ending with the pins settled (DESIGN CHOICE, assumption 6). -/
def act (s : State) (f : State → State) : Host.Outcome State Fault Refusal :=
  .next { settle (f s) with pending := s.pending }

/-! Who may write what (R9, R11, R398). -/

def roleRank : Role → Nat
  | .none => 0 | .operator => 1 | .installer => 2 | .maker => 3

/-- A writer may change a field: the role binds the host only, and a field that only the kernel writes takes no other
writer (R11, R398) (DEDUCED, assumption 70). -/
def mayWrite (who : Agent) (f : Fld) : Bool :=
  f.acc != .ro && (match who with
    | .kernel => true
    | .host r => !f.kernelOnly && decide (roleRank f.role ≤ roleRank r)
    | _ => !f.kernelOnly)

/-- A write reaches its register: one of a host once the kernel accepts frames, in recovery only a reset request (R71, R81); a
core's write of a guarded register while no comparison has failed (R361). -/
def State.reaches (s : State) (who : Agent) (f : Fld) : Bool :=
  match who with
  | .host _ => s.cpm.phase == .running || (s.cpm.phase == .recovery && f == CPM_RSTREQ_KEY)
  | .kernel => !(s.b CMP_STS_MIS && guardedAt f.addr)
  | .program => !(s.b CMP_STS_MIS && guardedAt f.addr)
  | _ => true

/-- A writer may change a field now. -/
def State.mayWrite (s : State) (who : Agent) (f : Fld) : Bool := Machine.mayWrite who f && s.reaches who f

end Sys2Proof.Machine
end

