-- ==== Sys2Proof/Machine/Protect.lean ====
section
/-!
DEFINITION. The operations that every block shares: taking the safe state (R30, R31, R374, R375), and raising,
reacting to, recording and self-clearing a fault (R401 to R417).
-/
namespace Sys2Proof.Machine

open Reg

/-! Parameters and the DC link. -/

/-- A committed parameter item, or its default (R459). -/
def State.param (s : State) (item dflt : Nat) : Nat :=
  match sparseFind s.kern.params item with
  | some v => v.toNat
  | none => dflt

/-- The DC-link sample of SDX in mV, when it is valid (R121, R144). -/
def State.vdc (s : State) : Option Int :=
  if s.b (SDX_RES_VALID 3) then some (s.ri (SDX_RES_VALUE 3)) else none

/-! The PWM stage going idle (R112). -/

/-- The leg with its outputs off and nothing under way (R112): a watch still open ends as neither a crossing nor a miss (DESIGN
CHOICE, assumption 177). -/
def Leg.quiet (l : Leg) : Leg := { l with on := .off, turnOn := none, watch := none, plan := [], refresh := [] }

/-- All six outputs of the stage off. -/
def State.legsOff (s : State) : State :=
  { s with pwm := { s.pwm with legA := s.pwm.legA.quiet, legB := s.pwm.legB.quiet, legC := s.pwm.legC.quiet,
                               precharge := none } }

/-- The stage leaves START or RUN: IDLE, or TRIPPED when a source latched (R112). -/
def State.stageStop (s : State) (dest : StageState) : State :=
  ((s.legsOff).w PWM_STS_STATE (stageCode dest)).w PWM_CTRL_RUN 0

/-- The SSS overrides the pads or drops an enable: START or RUN goes to IDLE with RUN := 0 and SSSSTOP := 1 (R112). -/
def State.stageOverridden (s : State) : State :=
  if s.stageState = .start ∨ s.stageState = .run then
    ((s.stageStop .idle).w PWM_STS_SSSSTOP 1).setBit PWM_IRQ_EVT 2
  else s

/-- An event of FLT_IRQ; one that FLT_IRQEN enables also sets the FLT bit of HSP_IRQ (R415, R449). -/
def State.fltEvent (s : State) (k : Nat) : State :=
  let s := s.setBit FLT_IRQ_EVT k
  if bit (s.r FLT_IRQEN_EN) k then s.setBit HSP_IRQ_EVT 1 else s

/-! Fault records and clears (R411, R416, R417). -/

/-- A fault record enters the FIFO of 32, or is dropped with JLOST (R416, R417). -/
def State.record (s : State) (x : FaultRecord) : State :=
  if s.flt.fifo.length < 32 && !(s.b ROL_JSTS_FULL && s.b ROL_JSTS_NOOVW) then
    { s with flt := { s.flt with fifo := s.flt.fifo ++ [x] } }
  else (s.w FLT_STS_JLOST 1).fltEvent 6

/-- Occurrences of an id since the last VAON POR (R404). -/
def State.occOf (s : State) (id : Nat) : Nat := (sparseFind s.flt.occ id).getD 0

/-- A fault is active. -/
def State.hasFault (s : State) (id : Nat) : Bool := s.flt.active.any (fun a => a.id == id)

/-- A fault is cleared, with a record of the clearing writer (R416, R417). -/
def State.dropFault (s : State) (id : Nat) (who : Role) : State :=
  match s.flt.active.find? (fun a => a.id == id) with
  | none => s
  | some a =>
    let s := { s with flt := { s.flt with active := s.flt.active.filter (fun x => x.id != id) } }
    (s.record ⟨true, who, id, a.detail, a.cls, s.occOf id, BitVec.ofNat 32 (s.r HOI_TICKCNT_TICKCNT),
      BitVec.ofNat 32 (s.r SSS_ENSIGN_ENSIGN)⟩).fltEvent 4

/-- A block reports the condition that clears an instance by itself; the fault clears with its last (R411). -/
def State.autoClear (s : State) (id : Nat) (detail : Nat := 0) : State :=
  match s.flt.active.find? (fun a => a.id == id) with
  | none => s
  | some a =>
    let rest := a.insts.filter (· != detail)
    if rest.isEmpty then s.dropFault id .none
    else { s with flt := { s.flt with active := s.flt.active.map (fun x => if x.id == id then { a with insts := rest } else x) } }

/-- Every fault that only this reset clears goes, without a record of a writer (DEDUCED, assumption 52). -/
def State.resetFaults (s : State) (ids : List Nat) : State := ids.foldl (fun s i => s.dropFault i .none) s

/-- A flag falls to 0, its bits `gone`, by a write of 1 or in a reset: the fault whose condition it is clears by itself
(R402, R411). -/
def State.flagCleared (s : State) (f : Fld) (gone : Nat) : State :=
  if f = HOI_STS_FORCED then (List.range 5).foldl (fun s l => s.autoClear Fid.hoistOverrun l) s
  else if f = PCV_STS_OVR then s.autoClear Fid.pcvOverrun
  else if f = PCV_STS_RANGE then
    (List.range 3).foldl (fun s n => if bit gone n && !bit s.sense.hallBad n then s.autoClear Fid.hallRange n else s) s
  else if f = POS_STS_SLOWOVF then s.autoClear Fid.sentSlow
  else if f = CLE_BSTS_OVF then s.autoClear Fid.buntingOverflow
  else if f = AXS_STS_SEGERR 0 then s.autoClear Fid.axSegment 0
  else if f = AXS_STS_SEGERR 1 then s.autoClear Fid.axSegment 1
  else if f = AXS_STS_UNDERRUN 0 then s.autoClear Fid.axUnderrun 0
  else if f = AXS_STS_UNDERRUN 1 then s.autoClear Fid.axUnderrun 1
  else if f = HLY_STS_RXOVF then s.autoClear Fid.hlyRxOverrun
  else if f = CMP_STS_DUPERR then s.autoClear Fid.dupRefused
  else if f = CMP_STS_TOLERR then (List.range 16).foldl (fun s n => s.autoClear Fid.tolRefused n) s
  else s

/-- The flags whose fall clears a fault. -/
def faultFlags : List Fld :=
  [HOI_STS_FORCED, PCV_STS_OVR, PCV_STS_RANGE, POS_STS_SLOWOVF, CLE_BSTS_OVF, AXS_STS_SEGERR 0, AXS_STS_SEGERR 1,
    AXS_STS_UNDERRUN 0, AXS_STS_UNDERRUN 1, HLY_STS_RXOVF, CMP_STS_DUPERR, CMP_STS_TOLERR]

/-- The faults whose flags a reset takes to 0 clear; `u` is the state that the reset leaves (R410, R411). -/
def State.flagsReset (s u : State) : State :=
  faultFlags.foldl (fun x f => if s.r f ≠ 0 ∧ u.r f = 0 then x.flagCleared f (s.r f) else x) s

/-! DIS requests (R120, R121). -/

/-- A discharge begins: its registers and hidden state start afresh, and what a new request clears is cleared. -/
def State.disBegin (s : State) : State :=
  let s := (((s.w DIS_MEAS_V0 0).w DIS_MEAS_ELAPSED 0).w DIS_MEAS_HALVINGS 0).w DIS_STS_WINDREQ 0
  let s := ((s.autoClear Fid.contactorNotOpen).autoClear Fid.dischargeSlow).autoClear Fid.windNotRun
  let s := { s with drive := { s.drive with askedRel := false } }
  { s with dis := { reqAt := s.nowU } }

/-- DONE is entered: a discharge is completed (R119, R121). -/
def State.disDone (s : State) : State :=
  { s.w DIS_STS_STATE 5 with flt := { s.flt with discharged := true } }

/-- A request acts: from IDLE, DONE or FAIL by the first two rows of R121; in another state it is already running. -/
def State.disAct (s : State) : State :=
  let s := { s with dis := { s.dis with reqHeld := false } }
  if s.r DIS_STS_STATE = 0 ∨ s.r DIS_STS_STATE = 5 ∨ s.r DIS_STS_STATE = 6 then
    let s := s.disBegin
    match s.vdc with
    | some v => if v ≤ 1000 * (s.r DIS_LIM_VTGT : Int) then s.disDone else s.w DIS_STS_STATE 1
    | none => s.w DIS_STS_STATE 1
  else s

/-- A request for a discharge: it acts in OFF or SAFE, is held in another drive state, and waits while self-test holds
DIS, SDX or PCV (R120, R437), and while PWM is off (DESIGN CHOICE, assumption 178). -/
def State.disRequest (s : State) : State :=
  if s.live .pwm && s.offOrSafe && !s.tested 10 && !s.tested 5 && !s.tested 6 then s.disAct
  else { s with dis := { s.dis with reqHeld := true } }

/-! The safe state (R26, R31, R371 to R376). -/

/-- ASC on the side of SSS_CFG.SIDE. -/
def State.ascSide (s : State) : SafeState := if s.b SSS_CFG_SIDE then .ascH else .ascL

/-- The selection on entry into SAFE (R374). -/
def State.safeChoice (s : State) : SafeState :=
  if s.b SSS_STS_NOTBL then
    if s.r SSS_CFG_DEFST = 2 then .ascL else if s.r SSS_CFG_DEFST = 3 then .ascH else .freewheel
  else if s.r SSS_SPD_THR ≤ s.r SSS_SPD_SPEED then s.ascSide else .freewheel

/-- The pads already hold the pattern of a safe state (R375). -/
def State.padsHold (s : State) (x : SafeState) : Bool :=
  let p := s.pins
  match x with
  | .ascL => p.padA.lo && p.padB.lo && p.padC.lo && !p.padA.hi && !p.padB.hi && !p.padC.hi
  | .ascH => p.padA.hi && p.padB.hi && p.padC.hi && !p.padA.lo && !p.padB.lo && !p.padC.lo
  | _ => !p.padA.hi && !p.padA.lo && !p.padB.hi && !p.padB.lo && !p.padC.hi && !p.padC.lo

/-- The bridge enters a safe state: SENSE is held on until standstill is confirmed (R16). -/
def State.coast (s : State) : State := { s with cpm := { s.cpm with coasting := true, unconf := false, stopFrom := none } }

/-- The SSS holds a safe state from now on: the override stands, an ASC state's conducting side waits for ASCDLY unless
the pads already hold the pattern (R375), and the wait for standstill begins (R16). -/
def State.holdSafe (s : State) (x : SafeState) : State :=
  let on := s.padsHold x
  { (s.w SSS_STS_SAFEST (safeCode x)).w SSS_STS_OVR 1 with sss := { s.sss with ascOn := on, ascAt := s.nowF } }.coast

/-- The discharge release ends and the SSS retakes FREEWHEEL (R236, R377). -/
def State.endWindrel (s : State) : State :=
  if s.b SSS_STS_WINDREL then ((s.w SSS_STS_WINDREL 0).holdSafe .freewheel).stageOverridden else s

/-- A request that DIS held acts once the drive is in OFF or SAFE (R120). -/
def State.disWake (s : State) : State := if s.dis.reqHeld && s.offOrSafe then s.disRequest else s

/-- The drive service reads its items as the drive leaves OFF (R240). -/
def State.readFieldParams (s : State) : State :=
  if s.drv = .off then
    { s with drive := { s.drive with params := s.kern.params.filter (fun e => e.1 / 256 == 1) } }
  else s

/-- Swallowtail's test mode ends, also when the drive leaves OFF (R393). -/
def State.leaveTest (s : State) : State := ((s.w SAF_TP_TEST 0).w SAF_TP_HOLDB 0).w SSS_STS_TBUSY 0

/-- The SSS takes its safe state and the drive enters SAFE (R368, R374). A safe state already held stays. The drive
service returns to IDLE unless the request was its own in LOST (R227). -/
def State.enterSafe (s : State) (own : Bool := false) : State :=
  let s := s.endWindrel
  if s.drv = .safe then s
  else
    let s := s.readFieldParams.leaveTest
    let s := (s.holdSafe s.safeChoice).w SSS_STS_DSTATE 4
    let s := s.w SSS_STS_SS1RUN 0
    let s := { s with sss := { s.sss with keepAscL := false, relarmMove := false, ss1Wait := false } }
    let s := s.stageOverridden
    let s := { s with drive := { s.drive with svc := if own then s.drive.svc else .idle, runAtO := false, relarmed := false } }
    s.disWake

/-! Faults (R401 to R417). -/

/-- The class of a row under the settings in force (R402). -/
def State.rowClass (s : State) (r : FaultRow) : FaultClass :=
  if r.byFben then (if s.b SDX_CTRL_FBEN then .C else .B)
  else if r.byHaly then (if s.param 0x314 1 = 2 then .C else .B)
  else r.cls

/-- The classes that the entries of FLT_ESC in use give an id (R403). -/
def State.escOf (s : State) (id : Nat) : List FaultClass :=
  ((List.range 8).filter (fun n => s.b (FLT_ESC_EN n) && s.r (FLT_ESC_ID n) == id)).map
    (fun n => faultClassOf (s.r (FLT_ESC_CLASS n)))

/-- The class in force at a raise: the more severe of the row's and the escalation's (R403). -/
def State.classOf (s : State) (id : Nat) : FaultClass :=
  let base := match faultRow? id with
    | some r => s.rowClass r
    | none => .D
  (s.escOf id).foldl FaultClass.worse base

/-- Whether a reaction derates: a class C fault whose row names it, or one escalated to class C (R405). -/
def State.derates (s : State) (id : Nat) : Bool :=
  match faultRow? id with
  | some r => s.classOf id == .C && (r.derate || s.rowClass r != .C)
  | none => false

/-- The raise record: for a class D fault, and a class C one that clears by itself, at most one a second (R417)
(DEDUCED, assumption 106). -/
def State.raiseRecord (s : State) (x : Reaction) : State :=
  let limited := x.cls == .D || (x.cls == .C && (match faultRow? x.id with | some r => r.clearBy == .auto | none => false))
  let recent := match sparseFind s.flt.lastRec x.id with
    | some t => decide (s.cpm.msTick < t + 1000)
    | none => false
  if limited && recent then s
  else
    let s := s.record ⟨false, .none, x.id, x.detail, x.cls, s.occOf x.id, x.tick, x.ensign⟩
    { s with flt := { s.flt with lastRec := sparseInsert (sparseErase s.flt.lastRec x.id) x.id s.cpm.msTick } }

/-- A running or ending self-test is aborted (R441): its block goes on to the rejoin. -/
def State.bstAbort (s : State) (k : Nat) : State :=
  match s.bst.blocks[k]? with
  | some b =>
    if b.phase = .running then
      let s := { s with bst := { s.bst with blocks := setAt s.bst.blocks k { b with phase := .rejoin } } }
      let s := if k < 10 then s.w BST_RES0_RES (s.r BST_RES0_RES - s.r BST_RES0_RES / 8 ^ k % 8 * 8 ^ k + 5 * 8 ^ k)
        else s.w BST_RES1_RES (s.r BST_RES1_RES - s.r BST_RES1_RES / 8 ^ (k - 10) % 8 * 8 ^ (k - 10) + 5 * 8 ^ (k - 10))
      (s.bumpSat BST_STS_ABORTS).setBit BST_IRQ_EVT 2
    else s
  | none => s

/-- Every running test is aborted (R441). -/
def State.bstAbortAll (s : State) : State := (List.range 17).foldl State.bstAbort s

/-- Bunting ends with ABORT (R209). -/
def State.buntingAbort (s : State) : State :=
  if s.r CLE_BSTS_STATE = 1 ∨ s.r CLE_BSTS_STATE = 2 then (s.w CLE_BSTS_STATE 3).w CLE_BSTS_ABORT 1 else s

/-- A stop request to both axes (R255). -/
def State.stopAxes (s : State) : State :=
  { s with ax0 := { s.ax0 with stopReq := true }, ax1 := { s.ax1 with stopReq := true } }

/-- The steps a reaction takes when it starts (R405): safe state first for A and B, then the record, then the discharge
request for A. -/
def State.reactSteps (s : State) (x : Reaction) : State :=
  if x.started then s
  else match x.cls with
    | .A => ((((s.enterSafe).stopAxes).buntingAbort).bstAbortAll.raiseRecord x).disRequest
    | .B => (((s.enterSafe).stopAxes).buntingAbort).bstAbortAll.raiseRecord x
    | _ => s.raiseRecord x

/-- A reaction that ends with its record: class D, and a class C that does not derate (R405). -/
def Reaction.short (x : Reaction) : Bool := x.cls == .D || (x.cls == .C && !x.derate)

/-- Start a reaction: its steps, and the reaction in progress when it does not end at once. -/
def State.startReaction (s : State) (x : Reaction) : State :=
  let s := s.reactSteps x
  { s with flt := { s.flt with current := if x.short then none else some { x with started := true } } }

/-- The highest class among waiting reactions, its pre-empted ones ahead of its queued ones, the oldest first. -/
def pickReaction (pre q : List Reaction) (c : FaultClass) : Option (Reaction × List Reaction × List Reaction) :=
  match pre.find? (fun x => x.cls == c) with
  | some x => some (x, pre.erase x, q)
  | none =>
    match q.find? (fun x => x.cls == c) with
    | some x => some (x, pre, q.erase x)
    | none => none

/-- The next reaction in the order of R406. -/
def nextReaction (pre q : List Reaction) : Option (Reaction × List Reaction × List Reaction) :=
  match pickReaction pre q .A with
  | some r => some r
  | none => match pickReaction pre q .B with
    | some r => some r
    | none => match pickReaction pre q .C with
      | some r => some r
      | none => pickReaction pre q .D

/-- With no reaction in progress, start waiting ones in order until one stays in progress; `n` bounds their number. -/
def State.pumpReactions (s : State) : Nat → State
  | 0 => s
  | n + 1 =>
    if s.flt.current.isSome then s
    else match nextReaction s.flt.preempted s.flt.queue with
      | none => s
      | some (x, pre, q) =>
        let s := { s with flt := { s.flt with preempted := pre, queue := q } }
        (s.startReaction x).pumpReactions n

/-- Submit a reaction (R406); `false` when it finds no queue entry (R408). -/
def State.submit (s : State) (x : Reaction) : State × Bool :=
  match s.flt.current with
  | none => ((s.startReaction x).pumpReactions 20, true)
  | some y =>
    if y.cls.rank < x.cls.rank then
      ((({ s with flt := { s.flt with preempted := y :: s.flt.preempted, current := none } }).startReaction x).pumpReactions 20,
       true)
    else if s.flt.queue.length < 16 then
      ({ s with flt := { s.flt with queue := s.flt.queue ++ [x] } }, true)
    else (s, false)

/-- The latest raise and its interrupt bit (R404, R415). -/
def State.noteRaise (s : State) (id detail : Nat) (c : FaultClass) : State :=
  ((((s.w FLT_LAST_ID id).w FLT_LAST_CLASS c.code).w FLT_LAST_DETAIL detail).w FLT_LASTT_TICK
    (s.r HOI_TICKCNT_TICKCNT)).fltEvent c.code

/-- One more occurrence, saturating at 4,095. -/
def State.countOcc (s : State) (id : Nat) : State :=
  { s with flt := { s.flt with occ := sparseInsert (sparseErase s.flt.occ id) id (min 4095 (s.occOf id + 1)) } }

/-- A class A or B fault is raised: a discharge release ends and running self-tests are aborted at once, whenever the fault's
reaction starts (R236, R441). -/
def State.raiseStops (s : State) (c : FaultClass) : State := if c = .A ∨ c = .B then s.endWindrel.bstAbortAll else s

/-- The reaction of a raise, with the tick and the Ensign that its record carries (R404, R416). -/
def State.reactionOf (s : State) (id detail : Nat) (c : FaultClass) : Reaction :=
  { id := id, cls := c, derate := s.derates id, detail := detail, started := false
    tick := BitVec.ofNat 32 (s.r HOI_TICKCNT_TICKCNT), ensign := BitVec.ofNat 32 (s.r SSS_ENSIGN_ENSIGN) }

/-- A raise whose reaction does not overflow the queue; `false` when it did. Only the raise that makes a fault active stamps it
(R404). -/
def State.raiseCore (s : State) (id detail : Nat) (c : FaultClass) : State × Bool :=
  let x := s.reactionOf id detail c
  let s := ((s.noteRaise id detail c).countOcc id).raiseStops c
  match s.flt.active.find? (fun a => a.id == id) with
  | none =>
    let s := { s with flt := { s.flt with active := s.flt.active ++ [ActiveFault.mk id [detail] c detail x.tick] } }
    s.submit x
  | some a =>
    let isNew := !a.insts.contains detail
    let a' := { a with insts := if isNew then a.insts ++ [detail] else a.insts, detail := detail }
    let s := { s with flt := { s.flt with active := s.flt.active.map (fun y => if y.id == id then a' else y) } }
    (if isNew then s.raiseRecord x else s, true)

/-- The class of an overflow: A when an escalation to A is in force, else B (R408). -/
def State.overflowClass (s : State) : FaultClass :=
  if (List.range 8).any (fun n => s.b (FLT_ESC_EN n) && s.r (FLT_ESC_CLASS n) == 0) then .A else .B

/-- A block raises a fault (R404 to R408); a raise ends a self-test of FLT (R437) (DEDUCED, assumption 81). An overflow that no
reaction of a higher class can carry takes its own steps at once: the safe state and its record (R407, R408). -/
def State.raise (s : State) (id : Nat) (detail : Nat := 0) : State :=
  let s := s.bstAbort 1
  let (s, ok) := s.raiseCore id detail (s.classOf id)
  if ok then s
  else
    let s := (s.w FLT_STS_OVF 1).fltEvent 5
    let x := s.reactionOf Fid.queueOverflow (id % 256) s.overflowClass
    let (s, ok) := s.raiseCore x.id x.detail x.cls
    if ok then s else s.reactSteps x

end Sys2Proof.Machine
end

