-- ==== Sys2Proof/Machine/Axs.lean ====
section
/-!
DEFINITION. The auxiliary stepper axes (R241 to R256): planning, step generation, the chopper, stops and faults, and
the meanings of their commands.
-/
namespace Sys2Proof.Machine

open Reg

/-! One axis of the state, and the operations on it. -/

def State.axis (s : State) (n : Nat) : Axis := if n = 0 then s.ax0 else s.ax1

def State.setAxis (s : State) (n : Nat) (a : Axis) : State :=
  if n = 0 then { s with ax0 := a } else { s with ax1 := a }

/-- An interrupt event of axis `n`: 0 HOLD reached, 1 OVERSHOOT, 2 UNDERRUN, 3 SEGERR, 4 stop, 5 fault (R258). -/
def State.axIrq (s : State) (n k : Nat) : State := s.setBit AXS_IRQ_EVT (6 * n + k)

/-- The fields VMAX, AMAX and DMAX in force. -/
def State.axRaw (s : State) (n : Nat) : Nat × Nat × Nat := (s.r (AXS_LIM0_VMAX n), s.r (AXS_LIM1_AMAX n), s.r (AXS_LIM1_DMAX n))

/-- The limits in force in microsteps/s and microsteps/s² (R257): VMAX, AMAX, DMAX. -/
def State.axLims (s : State) (n : Nat) : Nat × Nat × Nat :=
  (min (s.r (AXS_LIM0_VMAX n)) 4000000, 100 * max 1 (s.r (AXS_LIM1_AMAX n)), 100 * max 1 (s.r (AXS_LIM1_DMAX n)))

/-- VMAX of those limits, in microsteps/s. -/
def limV (l : Nat × Nat × Nat) : Frac := ⟨l.1, 16⟩

/-- A segment of the table; an index that was never written holds the empty segment. -/
def Axis.seg (a : Axis) (i : Nat) : Seg := (sparseFind a.segs (i % 256)).getD {}

/-- A position or a difference of two: a signed 32-bit integer with a 16-bit fraction, rounded to nearest (R243); one outside
that range wraps (DEDUCED, assumption 112, DESIGN CHOICE, assumption 185). -/
def Frac.fix16 (a : Frac) : Frac := ⟨(BitVec.ofInt 48 (roundDiv (a.num * 65536) a.den)).toInt, 65536⟩

/-- p_c − p_o. -/
def Axis.lag (a : Axis) : Frac := (a.pc.sub (Frac.ofInt a.po)).fix16

/-! Hermite pieces (R244). -/

/-- Distance of `t` µs at a velocity. -/
def Frac.overUs (v : Frac) (t : Nat) : Frac := ⟨v.num * t, v.den * 1000000⟩

/-- Position at `t` µs into a piece. -/
def Piece.pos (p : Piece) (t : Nat) : Frac :=
  if p.len ≤ t then p.p1
  else
    let n : Int := t
    let d : Int := p.len
    let den := p.len * p.len * p.len
    let h00 : Frac := ⟨2 * n * n * n - 3 * n * n * d + d * d * d, den⟩
    let h10 : Frac := ⟨n * n * n - 2 * n * n * d + n * d * d, den⟩
    let h01 : Frac := ⟨3 * n * n * d - 2 * n * n * n, den⟩
    let h11 : Frac := ⟨n * n * n - n * n * d, den⟩
    ((((h00.mul p.p0).add (h10.mul (p.v0.overUs p.len))).add (h01.mul p.p1)).add (h11.mul (p.v1.overUs p.len))).norm

/-- Velocity at `t` µs into a piece, in microsteps/s: the derivative of its Hermite. -/
def Piece.velAt (p : Piece) (t : Nat) : Frac :=
  if p.len ≤ t then p.v1
  else
    let n : Int := t
    let d : Int := p.len
    let den := p.len * p.len
    let g : Frac := ⟨6 * (n * d - n * n) * 1000000, den * p.len⟩
    let g10 : Frac := ⟨3 * n * n - 4 * n * d + d * d, den⟩
    let g11 : Frac := ⟨3 * n * n - 2 * n * d, den⟩
    (((g.mul (p.p1.sub p.p0)).add (g10.mul p.v0)).add (g11.mul p.v1)).norm

/-- A time num/den seconds, rounded up to whole µs (DEDUCED, assumption 112). -/
def usCeil (t : Frac) : Nat := ceilDiv (t.num.natAbs * 1000000) t.den

/-- A piece of constant deceleration `d` from (p, v) to speed `v1`, with its end. -/
def decelPiece (p v v1 : Frac) (d : Nat) : Piece :=
  let dv := (v.sub v1).abs
  let dist := ((v.mul v).sub (v1.mul v1)).divNat (2 * d)
  let signed := if v.num < 0 then dist.neg else dist
  ⟨usCeil (dv.divNat d), p, v, p.add signed |>.norm, v1⟩

/-- The square root of a fraction, to 1/65,536 (DEDUCED, assumption 112). -/
def Frac.sqrt (a : Frac) : Frac := ⟨Nat.sqrt (a.num.natAbs * 4294967296 / a.den), 65536⟩

/-- Pieces from (p, v), moving toward P or at rest, to rest at P (R249): accelerate, cruise, decelerate. -/
def towardPieces (p v : Frac) (P : Frac) (l : Nat × Nat × Nat) : List Piece :=
  let (_, a, d) := l
  let dist := (P.sub p).abs
  let sgn : Int := if (P.sub p).num < 0 then -1 else 1
  let v0 := v.abs
  let top := (((Frac.ofInt (2 * a * d)).mul dist).add ((Frac.ofInt d).mul (v0.mul v0))).divNat (a + d)
  let vpk := ((limV l).min top.sqrt).norm
  let dAcc := (((vpk.mul vpk).sub (v0.mul v0)).divNat (2 * a)).norm
  let dDec := ((vpk.mul vpk).divNat (2 * d)).norm
  let dCru := (dist.sub (dAcc.add dDec)).norm
  let sg (x : Frac) : Frac := ⟨sgn * x.num, x.den⟩
  let pA := (p.add (sg dAcc)).norm
  let pB := (P.sub (sg dDec)).norm
  let acc : List Piece := if v0.lt vpk then [⟨usCeil ((vpk.sub v0).divNat a), p, sg v0, pA, sg vpk⟩] else []
  let cru : List Piece :=
    if dCru.num > 0 ∧ vpk.num > 0 then
      [⟨usCeil ⟨dCru.num * vpk.den, dCru.den * vpk.num.natAbs⟩, pA, sg vpk, pB, sg vpk⟩] else []
  let dec : List Piece := if vpk.num > 0 then [⟨usCeil (vpk.divNat d), pB, sg vpk, P, Frac.ofInt 0⟩] else []
  acc ++ cru ++ dec

/-- The plan of R249 from (p, v) to P, and whether it overshoots. -/
def planTo (p v P : Frac) (l : Nat × Nat × Nat) : List Piece × Bool :=
  let (_, _, d) := l
  let vm := limV l
  let sg : Int := if v.num < 0 then -1 else 1
  let first : List Piece := if vm.lt v.abs then [decelPiece p v ⟨sg * vm.num, vm.den⟩ d] else []
  let (p, v) := match first with
    | x :: _ => (x.p1, x.v1)
    | [] => (p, v)
  let dd := P.sub p
  let stop := (v.mul v).divNat (2 * d)
  let same := (decide (0 < dd.num) && decide (0 < v.num)) || (decide (dd.num < 0) && decide (v.num < 0))
  if v.num ≠ 0 ∧ (!same ∨ dd.abs.lt stop) then
    let x := decelPiece p v (Frac.ofInt 0) d
    (first ++ [x] ++ towardPieces x.p1 (Frac.ofInt 0) P l, same)
  else (first ++ towardPieces p v P l, false)

/-- The stop that a failed segment or an underrun plans (R245). -/
def planStop (p v : Frac) (l : Nat × Nat × Nat) : List Piece :=
  if v.num = 0 then [] else [decelPiece p v (Frac.ofInt 0) l.2.2]

/-! The run. -/

/-- Enter PLAN with a list of pieces; with none the axis is at its goal. -/
def State.axPlan (s : State) (n : Nat) (ps : List Piece) (goal : Frac) : State :=
  let a := s.axis n
  let a := { a with goal := goal.fix16, into := 0 }
  match ps with
  | [] => ((s.setAxis n { a with piece := none, plan := [], vel := {} }).w (AXS_STS_STATE n) 4).axIrq n 0
  | x :: l => (s.setAxis n { a with piece := some x, plan := l }).w (AXS_STS_STATE n) 3

/-- Replan to a position from the present commanded state (R249). -/
def State.axReplan (s : State) (n : Nat) (P : Frac) : State :=
  let a := s.axis n
  let (ps, past) := planTo a.pc a.vel P (s.axLims n)
  let s := if past then (s.w (AXS_STS_OVERSHOOT n) 1).axIrq n 1 else s
  s.axPlan n ps P

/-- The stop of R245, with its flag, its interrupt and its fault. -/
def State.axTableFail (s : State) (n : Nat) (under : Bool) : State :=
  let s := if under then (s.w (AXS_STS_UNDERRUN n) 1).axIrq n 2 else (s.w (AXS_STS_SEGERR n) 1).axIrq n 3
  let s := s.raise (if under then Fid.axUnderrun else Fid.axSegment) n
  let a := s.axis n
  let ps := planStop a.pc a.vel (s.axLims n)
  s.axPlan n ps (match ps.getLast? with | some x => x.p1 | none => a.pc)

/-- The check of a segment that becomes active (R245): length, end velocity, mean velocity. -/
def segOk (t : Nat) (p0 p1 v1 : Frac) (vm : Frac) : Bool :=
  decide (4 ≤ t) && v1.abs.le vm && ((p1.sub p0).abs).le (vm.overUs t)

/-- Segment `i` becomes active from time `t0`, position and velocity of the segment before it (R244, R245); axis time has gone
on while the axis waited at WR (DEDUCED, assumption 188). -/
def State.axEnter (s : State) (n i t0 : Nat) (p0 v0 : Frac) : State :=
  let a := s.axis n
  let g := a.seg i
  let s := s.w (AXS_STS_RD n) (i % 256)
  let p1 := Frac.ofInt g.p1
  let v1 : Frac := ⟨g.v1, 16⟩
  if segOk (g.t1 - t0) p0 p1 v1 (limV (s.axLims n)) then
    s.setAxis n { s.axis n with piece := some ⟨g.t1 - t0, p0, v0, p1, v1⟩, into := (s.axis n).time - t0 }
  else s.axTableFail n false

/-- The three limit fields of an axis (R250). -/
def limFields (n : Nat) : List Fld := [AXS_LIM0_VMAX n, AXS_LIM1_AMAX n, AXS_LIM1_DMAX n]

/-- The next evaluation is a segment boundary: the active segment, or piece of a plan, ends at it. -/
def State.axEnds (s : State) (n : Nat) : Bool :=
  (s.r (AXS_STS_STATE n) == 2 || s.r (AXS_STS_STATE n) == 3)
    && (match (s.axis n).piece with | some p => decide (p.len ≤ (s.axis n).into + 1) | none => false)

/-- From 60 ns before a segment boundary on, whether its limit swap is withheld is settled (R92, R95, R250). -/
def State.axFix (s : State) (n : Nat) : State :=
  let a := s.axis n
  if a.limsFixed.isNone && s.axEnds n && decide (a.evalAt + 188 ≤ s.nowU) then
    s.setAxis n { a with limsFixed := some (s.hoi.opened.any (fun o => o.2 == .L)) }
  else s

/-- A write of a limit field: past the cut-off of a segment boundary it is held, with LATE (R92, R250). -/
def State.axLimWrite (s : State) (n : Nat) (f : Fld) (v : Nat) : State :=
  let s := s.axFix n
  let a := s.axis n
  if a.limsFixed.isSome then (s.setAxis n { a with limsLate := a.limsLate ++ [(f.key, BitVec.ofNat 32 v)] }).w HOI_STS_LATE 1
  else s.rws f v

/-- A segment boundary, and the end of a piece of a plan, is a swap point of the axis's own three limit fields, unless level L
was withheld at its cut-off (R250). -/
def State.axSwapLims (s : State) (n : Nat) : State :=
  if (s.axis n).limsFixed = some true then s
  else (limFields n).foldl
    (fun s f => match sparseFind s.shadow f.key with
      | some v => { s.w f v.toNat with shadow := sparseErase s.shadow f.key }
      | none => s) s

/-- The end of an evaluation: its instant and limits, and the writes held past its cut-off enter the shadow (R92). -/
def State.axEvaluated (s : State) (n : Nat) : State :=
  let a := s.axis n
  let s := a.limsLate.foldl (fun s e => match fieldOf e.1 with | some f => s.rws f e.2.toNat | none => s) s
  s.setAxis n { s.axis n with evalAt := s.nowU, lims := s.axRaw n, limsFixed := none, limsLate := [] }

/-- The end of the active segment: HOLD, the next segment, an underrun, or a wait at rest for WR (R244, R245). -/
def State.axSegEnd (s : State) (n : Nat) : State :=
  let s := s.axSwapLims n
  let a := s.axis n
  let i := s.r (AXS_STS_RD n)
  let g := a.seg i
  if g.v1 = 0 ∧ g.hold then
    ((s.setAxis n { a with piece := none, vel := {}, goal := a.pc }).w (AXS_STS_STATE n) 4).axIrq n 0
  else if i = s.r (AXS_TAB_WR n) then
    if g.v1 = 0 then s.setAxis n { a with piece := none, vel := {} } else s.axTableFail n true
  else s.axEnter n (i + 1) g.t1 (Frac.ofInt g.p1) ⟨g.v1, 16⟩

/-- The position at which a table run ends: the first holding segment up to WR, else WR's (R250). -/
def axTableGoal (a : Axis) (wr : Nat) : Nat → Nat → Int
  | _, 0 => (a.seg wr).p1
  | i, k + 1 =>
    let g := a.seg i
    if (g.v1 = 0 ∧ g.hold) ∨ i % 256 = wr then g.p1 else axTableGoal a wr (i + 1) k

/-- The position a run ends at. -/
def State.axGoal (s : State) (n : Nat) : Frac :=
  let a := s.axis n
  if s.r (AXS_STS_STATE n) = 2 then Frac.ofInt (axTableGoal a (s.r (AXS_TAB_WR n)) (s.r (AXS_STS_RD n)) 256) else a.goal

/-- GO takes effect (R243, R244, R251): accepted in IDLE, HOLD or STOPPED. -/
def State.axGoNow (s : State) (n : Nat) : State :=
  let st := s.r (AXS_STS_STATE n)
  if st = 1 ∨ st = 4 ∨ st = 5 then
    let a := { s.axis n with time := 0, plan := [], vel := {}, pc := Frac.ofInt (s.axis n).po }
    ((s.setAxis n a).w (AXS_STS_STATE n) 2).axEnter n (s.r (AXS_TAB_START n)) 0 a.pc (Frac.ofInt 0)
  else s.w (AXS_STS_REFUSED n) 1

/-- One µs of the run: the commanded position moves along the active piece. -/
def State.axAdvance (s : State) (n : Nat) : State :=
  let a := s.axis n
  let st := s.r (AXS_STS_STATE n)
  if st ≠ 2 ∧ st ≠ 3 then s
  else
    let a := { a with time := a.time + 1 }
    match a.piece with
    | none =>
      let s := s.setAxis n a
      if st = 2 ∧ s.r (AXS_STS_RD n) ≠ s.r (AXS_TAB_WR n) then
        s.axEnter n (s.r (AXS_STS_RD n) + 1) (a.seg (s.r (AXS_STS_RD n))).t1 a.pc (Frac.ofInt 0)
      else s
    | some p =>
      let a := { a with into := a.into + 1, pc := (p.pos (a.into + 1)).fix16, vel := p.velAt (a.into + 1) }
      let s := s.setAxis n a
      if a.into < p.len then s
      else if st = 2 then s.axSegEnd n
      else
        let s := s.axSwapLims n
        match a.plan with
        | x :: l => s.setAxis n { a with piece := some x, plan := l, into := 0 }
        | [] => ((s.setAxis n { a with piece := none, vel := {} }).w (AXS_STS_STATE n) 4).axIrq n 0

/-! Outputs (R241, R242, R247, R248, R254). -/

/-- IRUN in force: at standstill the holding fraction (R254). -/
def State.axCurrent (s : State) (n : Nat) : Frac :=
  if s.b (AXS_STS_STILL n) ∨ s.r (AXS_STS_STATE n) = 5 then ⟨s.r (AXS_CUR_IRUN n) * s.r (AXS_CUR_IHOLD n), 256⟩
  else Frac.ofInt (s.r (AXS_CUR_IRUN n))

/-- The set code of a phase at output position `p`: phase A by the cosine, phase B by the sine (R248). -/
def State.phaseCode (s : State) (n : Nat) (p : Int) (isA : Bool) : Nat × Bool :=
  let ang := (p % 1024).toNat * 4194304
  let x := (s.axCurrent n).mul ⟨if isA then cosine ang else sine ang, 1073741824⟩
  (x.abs.round.natAbs, decide (0 ≤ x.num))

/-- The bridges are off: DISABLED, FAULT, STOPPED with STOPOFF, or standstill with IHOLD = 0 (R254, R255). -/
def State.bridgesOff (s : State) (n : Nat) : Bool :=
  let st := s.r (AXS_STS_STATE n)
  st == 0 || st == 6 || (st == 5 && s.b (AXS_CTRL_STOPOFF n)) || (s.b (AXS_STS_STILL n) && s.r (AXS_CUR_IHOLD n) == 0)
    || s.b (AXS_CTRL_MODE n)

/-- A phase follows its new set code, which `stepped` says comes with a microstep; a phase with code 0 or with its bridges off
is off, and one that was off starts to drive (R248, R252). -/
def ChopPhase.retune (p : ChopPhase) (code : Nat) (positive off stepped : Bool) (now : Nat) : ChopPhase :=
  let p := { p with falling := if stepped then decide (code < p.code) else p.falling, code := code, codePos := positive }
  if off || code == 0 then { p with bridge := .off, driving := false, fast := false, longOn := 0 }
  else if p.bridge = .off then
    { p with bridge := if positive then .pos else .neg, driving := true, positive := positive, since := now }
  else p

/-- Both phases follow the output position. -/
def State.axRetune (s : State) (n : Nat) (stepped : Bool := false) : State :=
  let a := s.axis n
  let (ca, sa) := s.phaseCode n a.po true
  let (cb, sb) := s.phaseCode n a.po false
  let off := s.bridgesOff n
  s.setAxis n { a with phA := a.phA.retune ca sa off stepped s.nowU, phB := a.phB.retune cb sb off stepped s.nowU }

/-- The published position, velocity and electrical phase. -/
def State.axPublish (s : State) (n : Nat) : State :=
  let a := s.axis n
  let s := (s.wi (AXS_POS_POS n) a.po).wi (AXS_VEL_VEL n) (Frac.floor ⟨16 * a.vel.num, a.vel.den⟩)
  s.w (AXS_CHSTS_PHASE n) (a.po % 1024).toNat

/-- One microstep, and in step/direction mode DIR with it and a STEP pulse of STEPW per 2^STEPDIV microsteps, no sooner than
DIRSU after DIR's last change (R242, R257). -/
def State.axMove (s : State) (n : Nat) (d : Int) : State :=
  let a := s.axis n
  let po := (BitVec.ofInt 32 (a.po + d)).toInt
  let div : Int := 2 ^ min 8 (s.r (AXS_SD_STEPDIV n))
  if !s.b (AXS_CTRL_MODE n) then s.setAxis n { a with po := po, sinceStep := 0 }
  else
    let neg := decide (d < 0)
    let a := { a with po := po, sinceStep := 0, dirNeg := neg, dirAt := if neg = a.dirNeg then a.dirAt else s.nowU }
    if po / div = (s.axis n).po / div then s.setAxis n a
    else
      let rise := max s.nowU (a.dirAt + 2 * s.r (AXS_SD_DIRSU n))
      s.setAxis n { a with steps := a.steps + 1, pulseAt := rise, pulseEnd := rise + 2 * max 10 (s.r (AXS_SD_STEPW n)) }

/-- Step output (R247). -/
def State.axStep (s : State) (n : Nat) : State :=
  let a := s.axis n
  let lag := a.lag
  if (Frac.ofInt 1).le lag.abs && decide (3 ≤ a.sinceStep) then
    s.axMove n (if lag.num < 0 then -1 else 1)
  else s.setAxis n { a with sinceStep := min 4 (a.sinceStep + 1) }

/-- A STEP pulse that has not risen yet is not emitted (R255). -/
def Axis.dropPulse (a : Axis) (now : Nat) : Axis :=
  if now < a.pulseAt then { a with steps := a.steps - 1, pulseAt := 0, pulseEnd := 0 } else a

/-- The axis goes to FAULT (R255, R256): cause bit, position frozen and invalid, bridges off or ENA low. -/
def State.axFault (s : State) (n cause : Nat) (id : Nat) : State :=
  let a := (s.axis n).dropPulse s.nowU
  let s := s.setAxis n { a with pc := Frac.ofInt a.po, vel := {}, piece := none, plan := [], goReq := false, tgtReq := none }
  let s := ((s.w (AXS_STS_STATE n) 6).w (AXS_STS_POSVAL n) 0).setBit (AXS_STS_FCAUSE n) cause
  (((s.axIrq n 5).raise id n).axRetune n).axPublish n

/-- The lag check (R247). -/
def State.axLag (s : State) (n : Nat) : State :=
  let a := s.axis n
  if (Frac.ofInt (256 * max 1 (s.r (AXS_PROT_LAGMAX n)))).lt a.lag.abs then s.axFault n 0 Fid.axFollowing else s

/-- Standstill (R254): the count restarts with any motion, which restores IRUN, the first microstep 3 µs later; at STDLY
the STANDSTILL_CURRENT command acts. -/
def State.axStill (s : State) (n : Nat) : State :=
  let a := s.axis n
  let quiet := a.vel.num == 0 && a.lag.num == 0
  if quiet then s.setAxis n { a with stillUs := a.stillUs + 1 }
  else (s.setAxis n { a with stillUs := 0, sinceStep := if s.b (AXS_STS_STILL n) then 0 else a.sinceStep }).w
    (AXS_STS_STILL n) 0

/-- The limit swap that meets a stop: one since the last evaluation, or one that the segment boundary at this one makes. -/
def State.axSwapMeets (s : State) (n : Nat) : Bool :=
  (s.axis n).lims != s.axRaw n
    || (s.axEnds n && (s.axis n).limsFixed != some true && (limFields n).any (fun f => (sparseFind s.shadow f.key).isSome))

/-- That limit swap is discarded (R251): the limits stand as they were at the last evaluation, and a swap of this boundary is
dropped from the shadow. -/
def State.axUnswap (s : State) (n : Nat) : State :=
  let l := (s.axis n).lims
  let drop := s.axEnds n && (s.axis n).limsFixed != some true
  let s := ((s.w (AXS_LIM0_VMAX n) l.1).w (AXS_LIM1_AMAX n) l.2.1).w (AXS_LIM1_DMAX n) l.2.2
  if drop then { s with shadow := (limFields n).foldl (fun m f => sparseErase m f.key) s.shadow } else s

/-- A stop request acts (R255); a GO, a retarget or a limit swap at the same evaluation is discarded (R251). -/
def State.axStopNow (s : State) (n : Nat) : State :=
  let a := (s.axis n).dropPulse s.nowU
  let s := if a.goReq || a.tgtReq.isSome || s.axSwapMeets n then s.w (AXS_STS_REFUSED n) 1 else s
  let s := if s.axSwapMeets n then s.axUnswap n else s
  let s := s.setAxis n { a with stopReq := false, goReq := false, tgtReq := none, pc := Frac.ofInt a.po, vel := {},
                                piece := none, plan := [] }
  ((((s.w (AXS_STS_STATE n) 5).w (AXS_STS_POSVAL n) 0).axIrq n 4).axRetune n).axPublish n

/-- The µs evaluation of one axis before its bookkeeping (R243, R247, R251): a stop wins over a retarget, a GO and a limit swap;
else the run advances, a limit change replans, and at most one microstep is output (DEDUCED, assumption 111). In FAULT only
standstill counts (R254). -/
def State.axEvalCore (s : State) (n : Nat) : State :=
  let st := s.r (AXS_STS_STATE n)
  let a := s.axis n
  if st = 0 ∨ st = 6 then
    let s := s.setAxis n { a with stopReq := false, goReq := false, tgtReq := none }
    if st = 6 then s.axStill n else s
  else if a.stopReq then s.axStopNow n
  else
    let s := s.setAxis n { a with goReq := false, tgtReq := none }
    let s := s.axAdvance n
    let s := match a.tgtReq with
      | some P => s.axReplan n (Frac.ofInt P)
      | none =>
        if a.goReq then s.axGoNow n
        else
          let st := s.r (AXS_STS_STATE n)
          if (st = 2 ∨ st = 3) ∧ (s.axis n).lims ≠ s.axRaw n then s.axReplan n (s.axGoal n) else s
    let po := (s.axis n).po
    let s := (s.axStill n).axStep n
    let stepped := (s.axis n).po != po
    ((s.axLag n).axRetune n stepped).axPublish n

/-- The µs evaluation of one axis. -/
def State.axEval (s : State) (n : Nat) : State := ((s.axFix n).axEvalCore n).axEvaluated n

/-- AXS is out of use: its domain is off or in reset, it naps, or self-test holds it. -/
def State.axsLive (s : State) : Bool := s.live .impl && !s.cpm.implNap && !s.tested 11

/-! Chopper (R252, R253). -/

def State.phase (s : State) (n : Nat) (isA : Bool) : ChopPhase := if isA then (s.axis n).phA else (s.axis n).phB

def State.setPhase (s : State) (n : Nat) (isA : Bool) (p : ChopPhase) : State :=
  s.setAxis n (if isA then { s.axis n with phA := p } else { s.axis n with phB := p })

/-- BLANK, TOFFMIN, FASTT and TONMAX in u. -/
def State.blankU (s : State) (n : Nat) : Nat := 5 * s.r (AXS_CHOP_BLANK n)
def State.toffU (s : State) (n : Nat) : Nat := 20 * s.r (AXS_CHOP_TOFFMIN n)
def State.fasttU (s : State) (n : Nat) : Nat := 20 * s.r (AXS_CHOP_FASTT n)
def State.tonmaxU (s : State) (n : Nat) : Nat := 200 * s.r (AXS_PROT_TONMAX n)

/-- The decay begins (R252); a drive phase that reached TONMAX counts (R256). -/
def State.chopDecay (s : State) (n : Nat) (p : ChopPhase) (now : Nat) (atBlank : Bool) : ChopPhase :=
  let opposite : Bridge := if p.positive then .neg else .pos
  let d := s.r (AXS_CTRL_DECAY n)
  let mixed := d = 2 ∨ (d = 3 ∧ p.falling)
  let fast := d = 1 ∨ mixed
  { p with bridge := if fast then opposite else .slow, driving := false, fast := mixed, tOn := now - p.since,
           atBlank := atBlank, longOn := if s.tonmaxU n ≤ now - p.since then p.longOn + 1 else 0, since := now, decayAt := now }

/-- The adaptive offset after a cycle (R253): e := HYST × CDLY ÷ 2 × (1/t_on − 1/t_off), times in u; the offset moves an
eighth of the way and stays in −64 to +63 (DEDUCED, assumption 113). -/
def State.chopAdapt (s : State) (n : Nat) (p : ChopPhase) (tOff : Nat) (atMin : Bool) : ChopPhase :=
  if !s.b (AXS_CTRL_ADAPT n) || p.atBlank || atMin || p.tOn == 0 || tOff == 0 then p
  else
    let k : Int := s.r (AXS_CHOP_HYST n) * s.r (AXS_CHOP_CDLY n) * 2
    let e := roundDiv (k * ((tOff : Int) - p.tOn) * 65536) (2 * p.tOn * tOff)
    { p with ofs := clampI (p.ofs + roundDiv (e - p.ofs) 8) (-64 * 65536) (63 * 65536) }

/-- The next drive begins, with the phase's present sign (R252). -/
def ChopPhase.drive (p : ChopPhase) (now : Nat) : ChopPhase :=
  { p with bridge := if p.codePos then .pos else .neg, positive := p.codePos, driving := true, fast := false, since := now }

/-- The published offsets of the phases. -/
def State.publishOfs (s : State) (n : Nat) : State :=
  (s.wi (AXS_CHSTS_OFSA n) ((s.axis n).phA.ofs.fdiv 65536)).wi (AXS_CHSTS_OFSB n) ((s.axis n).phB.ofs.fdiv 65536)

/-! What swapping settings does (R254, R257). -/

/-- EN takes effect: an axis enabled enters IDLE with its offsets at 0; one disabled enters DISABLED. -/
def State.axApply (s : State) (n : Nat) : State :=
  let st := s.r (AXS_STS_STATE n)
  if s.b (AXS_CTRL_EN n) ∧ st = 0 then
    let a := s.axis n
    ((s.setAxis n { a with phA := {}, phB := {}, pc := Frac.ofInt a.po, vel := {}, stillUs := 0 }).w (AXS_STS_STATE n) 1).publishOfs n
      |>.axRetune n
  else if !s.b (AXS_CTRL_EN n) ∧ st ≠ 0 then
    let a := s.axis n
    ((s.setAxis n { a with piece := none, plan := [], vel := {}, pc := Frac.ofInt a.po }).w (AXS_STS_STATE n) 0).axRetune n
  else s

/-- An FLT clear of the axis fault of a cause moves FAULT to IDLE (R255). -/
def State.axCleared (s : State) (n cause : Nat) : State :=
  if s.r (AXS_STS_STATE n) = 6 ∧ bit (s.r (AXS_STS_FCAUSE n)) cause then
    (((s.w (AXS_STS_STATE n) 1).w (AXS_STS_FCAUSE n) 0).axRetune n)
  else s

/-! Retargets, GO, STOP, presets and segment writes (R246, R249, R251, R255). -/

/-- A retarget: accepted in every state but DISABLED and FAULT, for the next evaluation; the later of two wins. -/
def State.axRetarget (s : State) (n : Nat) (target : Int) : State :=
  let st := s.r (AXS_STS_STATE n)
  if st = 0 ∨ st = 6 ∨ !s.axsLive then s.w (AXS_STS_REFUSED n) 1
  else s.setAxis n { s.axis n with tgtReq := some target }

/-- GO waits for the next evaluation (DEDUCED, assumption 111). -/
def State.axGo (s : State) (n : Nat) : State :=
  let st := s.r (AXS_STS_STATE n)
  if s.axsLive ∧ (st = 1 ∨ st = 4 ∨ st = 5) then s.setAxis n { s.axis n with goReq := true }
  else s.w (AXS_STS_REFUSED n) 1

/-- A preset: accepted in IDLE, HOLD or STOPPED; it sets p_o and p_c and POSVAL := 1. -/
def State.axPreset (s : State) (n : Nat) (v : Int) : State :=
  let st := s.r (AXS_STS_STATE n)
  if s.axsLive ∧ (st = 1 ∨ st = 4 ∨ st = 5) then
    let s := s.setAxis n { s.axis n with po := v, pc := Frac.ofInt v, vel := {} }
    ((s.w (AXS_STS_POSVAL n) 1).axRetune n).axPublish n
  else s.w (AXS_STS_REFUSED n) 1

/-- A write of SEGW2 stores the whole entry; while the table runs, the active segment, and the one after it within
10 µs of its start, are protected (R246); none starts while the axis waits at WR. -/
def State.axSegWrite (s : State) (n : Nat) (v1 : Nat) (hold : Bool) : State :=
  let a := s.axis n
  let i := s.r (AXS_SEGSEL_IDX n)
  let rd := s.r (AXS_STS_RD n)
  let near : Bool := match a.piece with
    | some p => decide (p.len ≤ a.into + 10)
    | none => false
  if s.r (AXS_STS_STATE n) = 2 ∧ (i = rd ∨ (i = (rd + 1) % 256 ∧ near)) then s.w (AXS_STS_WPERR n) 1
  else
    let g : Seg := ⟨s.r (AXS_SEGW0_T1 n), s.ri (AXS_SEGW1_P1 n), signedOf 24 v1, hold⟩
    s.setAxis n { a with segs := sparsePut a.segs i g {} }

/-! The meanings. -/

/-- AXIS_EVALUATION (R243, R247). -/
def execAxisEvaluation (t : Nat) (s : State) : Host.Outcome State Fault Refusal :=
  act s fun s => (s.at t).when s.axsLive fun s => ((s.bump AXS_TIME_TIME).axEval 0).axEval 1

/-- GO (R251). -/
def execGo (n : Fin 2) (who : Agent) (s : State) : Host.Outcome State Fault Refusal :=
  act s fun s => s.when (s.mayWrite who (AXS_CTRL_GO n.val)) fun s => s.axGo n.val

/-- AXIS_STOP (R255): acts at the next µs evaluation. -/
def execAxisStop (n : Fin 2) (who : Agent) (s : State) : Host.Outcome State Fault Refusal :=
  act s fun s => s.when (s.mayWrite who (AXS_CTRL_STOP n.val)) fun s => s.setAxis n.val { s.axis n.val with stopReq := true }

/-- RETARGET (R249). -/
def execRetarget (n : Fin 2) (who : Agent) (target : BitVec 32) (s : State) : Host.Outcome State Fault Refusal :=
  act s fun s => s.when (s.mayWrite who (AXS_TGT_TGT n.val)) fun s => s.axRetarget n.val target.toInt

/-- AXIS_PRESET (R255). -/
def execAxisPreset (n : Fin 2) (who : Agent) (value : BitVec 32) (s : State) : Host.Outcome State Fault Refusal :=
  act s fun s => s.when (s.mayWrite who (AXS_POSSET_PRESET n.val)) fun s => s.axPreset n.val value.toInt

/-- SEGMENT_WRITE (R246): the word written to AXS_nSEGW2. -/
def execSegmentWrite (n : Fin 2) (who : Agent) (value : BitVec 32) (s : State) : Host.Outcome State Fault Refusal :=
  act s fun s => s.when (s.axsLive && s.mayWrite who (AXS_SEGW2_V1 n.val)) fun s =>
    s.axSegWrite n.val (value.toNat % 2 ^ 24) (value.getLsbD 24)

/-- STANDSTILL_CURRENT (R254): acts when p_c has stood still with LAG 0 for STDLY ms. -/
def execStandstillCurrent (n : Fin 2) (s : State) : Host.Outcome State Fault Refusal :=
  act s fun s => s.when (s.axsLive && decide (1000 * s.r (AXS_CUR_STDLY n.val) ≤ (s.axis n.val).stillUs)
      && (s.r (AXS_STS_STATE n.val) == 1 || s.r (AXS_STS_STATE n.val) == 2 || s.r (AXS_STS_STATE n.val) == 3
        || s.r (AXS_STS_STATE n.val) == 4 || s.r (AXS_STS_STATE n.val) == 5 || s.r (AXS_STS_STATE n.val) == 6)) fun s =>
    (s.w (AXS_STS_STILL n.val) 1).axRetune n.val

/-- The chopper's thresholds (R252): c ± HYST ÷ 2 − ofs, clamped to the DAC. -/
def State.chopUpper (s : State) (n : Nat) (p : ChopPhase) : Int :=
  clampI ((p.code : Int) + s.r (AXS_CHOP_HYST n) / 2 - (if s.b (AXS_CTRL_ADAPT n) then p.ofs.fdiv 65536 else 0)) 0 1023

def State.chopLower (s : State) (n : Nat) (p : ChopPhase) : Int :=
  clampI ((p.code : Int) - s.r (AXS_CHOP_HYST n) / 2 - (if s.b (AXS_CTRL_ADAPT n) then p.ofs.fdiv 65536 else 0)) 0 1023

/-- The sense input stands above the upper threshold, or below the lower one. -/
def State.chopAbove (s : State) (n : Nat) (p : ChopPhase) : Bool := decide (s.chopUpper n p < (p.sense : Int))
def State.chopBelow (s : State) (n : Nat) (p : ChopPhase) : Bool := decide ((p.sense : Int) < s.chopLower n p)

/-- The sense input of a phase has reached a code: a drive above the upper threshold decays, a decay below the lower one
and past TOFFMIN drives again, and BLANK after a switching shuts the comparator (R252). -/
def State.chopCross (s : State) (n : Nat) (isA : Bool) (code : Nat) : State :=
  let now := s.nowU
  let p := s.phase n isA
  let p := { p with sense := code, overAt := if s.r (AXS_PROT_OCCODE n) < code then some (p.overAt.getD now) else none }
  let p :=
    if p.bridge = .off ∨ now < p.since + s.blankU n then p
    else if p.driving ∧ s.chopAbove n p then s.chopDecay n p now false
    else if !p.driving ∧ s.chopBelow n p ∧ p.decayAt + s.toffU n ≤ now then (s.chopAdapt n p (now - p.decayAt) false).drive now
    else p
  (s.setPhase n isA p).publishOfs n

/-- CHOP_CROSSING (R252): the sense input of a phase has reached `code`, in DAC codes, at instant `t`. In step/direction
mode the input of phase B is the driver's fault input, and that of phase A is unused (R242). -/
def execChopCrossing (t : Nat) (n : Fin 2) (isA : Bool) (code : BitVec 10) (s : State) : Host.Outcome State Fault Refusal :=
  act s fun s => (s.at t).when s.axsLive fun s =>
    if s.b (AXS_CTRL_MODE n.val) then
      if isA then s
      else s.setAxis n.val { s.axis n.val with
        drvLow := if code.toNat < s.r (AXS_SD_FLTCODE n.val) then some ((s.axis n.val).drvLow.getD s.nowU) else none }
    else s.chopCross n.val isA code.toNat

/-- What the expiry of a timer does to a phase (R252): BLANK ends a drive that finds its input above, or a decay whose TOFFMIN
has run out below it; TOFFMIN ends a decay below past BLANK; FASTT ends the fast part, which is a switching; TONMAX ends a
drive (DEDUCED, assumption 113). -/
def State.chopTimer (s : State) (n : Nat) (p : ChopPhase) (timer : ChopTimer) : ChopPhase :=
  let now := s.nowU
  let past (u : Nat) := decide (p.since + u ≤ now)
  let decayed (u : Nat) := decide (p.decayAt + u ≤ now)
  let open' := past (s.blankU n)
  match timer with
  | .blank =>
    if !open' then p
    else if p.driving ∧ s.chopAbove n p then s.chopDecay n p now true
    else if !p.driving ∧ s.chopBelow n p ∧ decayed (s.toffU n) then (s.chopAdapt n p (now - p.decayAt) true).drive now
    else p
  | .toffmin =>
    if open' ∧ decayed (s.toffU n) ∧ !p.driving ∧ s.chopBelow n p then (s.chopAdapt n p (now - p.decayAt) true).drive now else p
  | .fastt => if decayed (s.fasttU n) ∧ !p.driving ∧ p.fast then { p with bridge := .slow, fast := false, since := now } else p
  | .tonmax => if past (s.tonmaxU n) ∧ p.driving then s.chopDecay n p now true else p

/-- CHOP_PHASE_TIMEOUT (R252). -/
def execChopPhaseTimeout (t : Nat) (n : Fin 2) (isA : Bool) (timer : ChopTimer) (s : State) :
    Host.Outcome State Fault Refusal :=
  act s fun s => (s.at t).when s.axsLive fun s =>
    let p := s.phase n.val isA
    (s.setPhase n.val isA (if p.bridge = .off then p else s.chopTimer n.val p timer)).publishOfs n.val

/-- The axis runs in H-bridge mode, enabled and not in FAULT. -/
def State.axBridge (s : State) (n : Nat) : Bool :=
  s.axsLive && !s.b (AXS_CTRL_MODE n) && s.r (AXS_STS_STATE n) != 0 && s.r (AXS_STS_STATE n) != 6

/-- The sense input of a phase has stood above OCCODE for 1 µs outside BLANK (R256). -/
def State.chopOver (s : State) (n : Nat) (p : ChopPhase) : Bool :=
  match p.overAt with
  | some t => decide (max t (p.since + s.blankU n) + 200 ≤ s.nowU)
  | none => false

/-- The drive phases of OPENN consecutive cycles, the one under way among them, have reached TONMAX (R256). -/
def State.chopOpen (s : State) (n : Nat) (p : ChopPhase) : Bool :=
  let now := if p.driving && decide (p.since + s.tonmaxU n ≤ s.nowU) then 1 else 0
  decide (max 1 (s.r (AXS_PROT_OPENN n)) ≤ p.longOn + now)

/-- AXIS_OVERCURRENT (R256). -/
def execAxisOvercurrent (n : Fin 2) (s : State) : Host.Outcome State Fault Refusal :=
  act s fun s => s.when (s.axBridge n.val && (s.chopOver n.val (s.phase n.val true) || s.chopOver n.val (s.phase n.val false)))
    fun s => s.axFault n.val 1 Fid.axOvercurrent

/-- AXIS_OPEN_LOAD (R256). -/
def execAxisOpenLoad (n : Fin 2) (s : State) : Host.Outcome State Fault Refusal :=
  act s fun s => s.when (s.axBridge n.val && (s.chopOpen n.val (s.phase n.val true) || s.chopOpen n.val (s.phase n.val false)))
    fun s => s.axFault n.val 2 Fid.axOpenLoad

/-- The driver's fault input counts: the axis runs in step/direction mode with FLTEN, and not in FAULT already (R242). -/
def State.axDriver (s : State) (n : Nat) : Bool :=
  s.axsLive && s.b (AXS_CTRL_MODE n) && s.b (AXS_CTRL_FLTEN n) && s.r (AXS_STS_STATE n) != 0 && s.r (AXS_STS_STATE n) != 6

/-- AXIS_DRIVER_FAULT (R242): the driver's fault input has stayed low for 10 µs. -/
def execAxisDriverFault (n : Fin 2) (s : State) : Host.Outcome State Fault Refusal :=
  act s fun s => s.when (s.axDriver n.val && (s.axis n.val).drvLow.any (fun t => decide (t + 2000 ≤ s.nowU))) fun s =>
    s.axFault n.val 3 Fid.axDriver

end Sys2Proof.Machine
end

