-- ==== Sys2Proof/Machine/Crc.lean ====
section
/-!
DEFINITION. The cyclic redundancy checks the spec names: CRC-32 (R211, R289, R444, R461), CRC-32C (R303), CRC-16
(R463), CRC-8 (R446) and the CRCs of serial words (R162, R164).
-/
namespace Sys2Proof.Machine

/-- The `n` little-endian bytes of a number. -/
def leBytes (v : Nat) : Nat → List Byte
  | 0 => []
  | n + 1 => BitVec.ofNat 8 v :: leBytes (v / 256) n

/-- `n` bytes of a list from an offset, least significant first. -/
def leAt (l : List Byte) (o : Nat) : Nat → Nat
  | 0 => 0
  | n + 1 => (l.getD o 0).toNat + 256 * leAt l (o + 1) n

/-- One bit of a reflected CRC. -/
def crcReflBit (poly c : Nat) : Nat := if c % 2 = 1 then (c / 2) ^^^ poly else c / 2

/-- One byte of a reflected CRC. -/
def crcReflByte (poly c : Nat) (b : Byte) : Nat :=
  (List.range 8).foldl (fun c _ => crcReflBit poly c) (c ^^^ b.toNat)

/-- CRC-32 with the polynomial 0x04C1_1DB7, initial value all ones and a final inversion, in the reflected bit order of
the common CRC-32. PRESUMED: the spec does not give the bit order (PRESUMED, assumption 27). -/
def crc32 (bytes : List Byte) : Nat := 0xFFFFFFFF ^^^ bytes.foldl (crcReflByte 0xEDB88320) 0xFFFFFFFF

/-- CRC-32C with the polynomial 0x1EDC_6F41, in the reflected bit order of the common CRC-32C. PRESUMED
(PRESUMED, assumption 27). -/
def crc32c (bytes : List Byte) : Nat := 0xFFFFFFFF ^^^ bytes.foldl (crcReflByte 0x82F63B78) 0xFFFFFFFF

/-- One bit, most significant first, of a CRC of width `w`. -/
def crcBit (w poly c : Nat) (b : Bool) : Nat :=
  let top := c.testBit (w - 1) != b
  let c := c * 2 % 2 ^ w
  if top then c ^^^ (poly % 2 ^ w) else c

/-- A CRC of width `w` over bits, the first transmitted bit first. -/
def crcBits (w poly seed : Nat) (bits : List Bool) : Nat := bits.foldl (crcBit w poly) seed

/-- The `n` low bits of a number, most significant first. -/
def bitsMsb (n v : Nat) : List Bool := (List.range n).map (fun i => v.testBit (n - 1 - i))

/-- CRC-16 with the polynomial 0x1021 and the initial value 0xFFFF, most significant bit first (R463). -/
def crc16 (bytes : List Byte) : Nat := crcBits 16 0x1021 0xFFFF (bytes.flatMap (fun b => bitsMsb 8 b.toNat))

/-- CRC-8 with the polynomial 0x2F, the initial value 0xFF and a final XOR of 0xFF, most significant bit first (R446)
(PRESUMED, assumption 27). -/
def crc8 (bytes : List Byte) : Nat := 0xFF ^^^ crcBits 8 0x2F 0xFF (bytes.flatMap (fun b => bitsMsb 8 b.toNat))

end Sys2Proof.Machine
end

