-- ==== Sys2Proof/Machine/Float.lean ====
section
/-!
DEFINITION. The binary32 arithmetic of the floating-point group (R341, R342): exact values, rounded once.
-/
namespace Sys2Proof.Machine

/-- A binary32 datum: a NaN and whether it signals, an infinity, or ±m × 2^e. -/
inductive F32 where
  | nan (signalling : Bool)
  | inf (neg : Bool)
  | fin (neg : Bool) (m : Nat) (e : Int)
deriving DecidableEq, Repr

/-- The datum of a word. -/
def F32.ofBits (w : Nat) : F32 :=
  let neg := w.testBit 31
  let ex := w / 8388608 % 256
  let fr := w % 8388608
  if ex = 255 then (if fr = 0 then .inf neg else .nan (!w.testBit 22))
  else if ex = 0 then .fin neg fr (-149)
  else .fin neg (fr + 8388608) ((ex : Int) - 150)

/-- The NaN that the FPU delivers, the infinities and the zeros. -/
def f32Nan : Nat := 0x7FC00000
def f32Sign (neg : Bool) : Nat := if neg then 0x80000000 else 0
def f32Inf (neg : Bool) : Nat := f32Sign neg + 0x7F800000
def f32Max (neg : Bool) : Nat := f32Sign neg + 0x7F7FFFFF

/-- Round a quotient up? By mode (R341): 0 nearest with ties to even, 1 toward zero, 2 toward −∞, 3 toward +∞. -/
def roundUp (rm : Nat) (neg : Bool) (q r d : Nat) : Bool :=
  match rm with
  | 0 => decide (d < 2 * r) || (decide (2 * r = d) && q % 2 == 1)
  | 1 => false
  | 2 => neg && decide (0 < r)
  | _ => !neg && decide (0 < r)

/-- num/den × 2^x over 2^u, as a quotient, a remainder and its divisor. -/
def scaledDiv (num den : Nat) (x u : Int) : Nat × Nat × Nat :=
  if u ≤ x then
    let n := num * 2 ^ (x - u).toNat
    (n / den, n % den, den)
  else
    let d := den * 2 ^ (u - x).toNat
    (num / d, num % d, d)

/-- The floor of log2 of num/den × 2^x, for positive num and den. -/
def floorLog2 (num den : Nat) (x : Int) : Int :=
  let c : Int := (Nat.log2 num : Int) - (Nat.log2 den : Int)
  let below := if 0 ≤ c then decide (num < den * 2 ^ c.toNat) else decide (num * 2 ^ (-c).toNat < den)
  (if below then c - 1 else c) + x

/-- The binary32 word nearest under a mode to ±num/den × 2^x, and whether it overflows. -/
def f32Round (rm : Nat) (neg : Bool) (num den : Nat) (x : Int) : Nat × Bool :=
  if num = 0 then (f32Sign neg, false)
  else
    let u := max (floorLog2 num den x - 23) (-149)
    let (q, r, d) := scaledDiv num den x u
    let q := if roundUp rm neg q r d then q + 1 else q
    let (q, u) := if q = 16777216 then (8388608, u + 1) else (q, u)
    if q < 8388608 then (f32Sign neg + q, false)
    else if 255 ≤ u + 150 then
      let toMax := rm == 1 || (rm == 2 && !neg) || (rm == 3 && neg)
      (if toMax then f32Max neg else f32Inf neg, true)
    else (f32Sign neg + (u + 150).toNat * 8388608 + (q - 8388608), false)

/-- A result and the flags of R342: invalid, division by zero, overflow. -/
structure FRes where
  bits : Nat
  invalid : Bool := false
  divZero : Bool := false
  overflow : Bool := false
deriving DecidableEq, Repr

/-- SR_TVAL of cause 0xC (R342). -/
def FRes.flags (r : FRes) : Nat := (if r.invalid then 1 else 0) + (if r.divZero then 2 else 0) + (if r.overflow then 4 else 0)

def F32.isNan : F32 → Bool
  | .nan _ => true
  | _ => false
def F32.isSnan : F32 → Bool
  | .nan s => s
  | _ => false

/-- A NaN result; invalid when an operand signals, or always when the operation itself is. -/
def nanRes (inv : Bool) : FRes := { bits := f32Nan, invalid := inv }

def finRes (rm : Nat) (neg : Bool) (num den : Nat) (x : Int) : FRes :=
  let (b, o) := f32Round rm neg num den x
  { bits := b, overflow := o }

/-- ±m × 2^e as an integer at 2^x, for x ≤ e. -/
def signedAt (neg : Bool) (m : Nat) (e x : Int) : Int :=
  let v : Int := (m : Int) * 2 ^ (e - x).toNat
  if neg then -v else v

/-- The sum of two finite values, rounded once; an exact zero sum of unlike signs is +0, −0 toward −∞. -/
def addFin (rm : Nat) (n1 : Bool) (m1 : Nat) (e1 : Int) (n2 : Bool) (m2 : Nat) (e2 : Int) : FRes :=
  let x := if e1 ≤ e2 then e1 else e2
  let v := signedAt n1 m1 e1 x + signedAt n2 m2 e2 x
  if v = 0 then { bits := f32Sign (if n1 == n2 && m1 == 0 && m2 == 0 then n1 else rm == 2) }
  else finRes rm (decide (v < 0)) v.natAbs 1 x

def F32.neg : F32 → F32
  | .nan s => .nan s
  | .inf n => .inf (!n)
  | .fin n m e => .fin (!n) m e

def f32Add (rm : Nat) (a b : F32) : FRes :=
  match a, b with
  | .nan s, y => nanRes (s || y.isSnan)
  | x, .nan s => nanRes (s || x.isSnan)
  | .inf n, .inf m => if n == m then { bits := f32Inf n } else nanRes true
  | .inf n, .fin _ _ _ => { bits := f32Inf n }
  | .fin _ _ _, .inf m => { bits := f32Inf m }
  | .fin n1 m1 e1, .fin n2 m2 e2 => addFin rm n1 m1 e1 n2 m2 e2

def f32Mul (rm : Nat) (a b : F32) : FRes :=
  match a, b with
  | .nan s, y => nanRes (s || y.isSnan)
  | x, .nan s => nanRes (s || x.isSnan)
  | .inf n, .inf m => { bits := f32Inf (n != m) }
  | .inf n, .fin k m _ => if m = 0 then nanRes true else { bits := f32Inf (n != k) }
  | .fin k m _, .inf n => if m = 0 then nanRes true else { bits := f32Inf (n != k) }
  | .fin n1 m1 e1, .fin n2 m2 e2 => finRes rm (n1 != n2) (m1 * m2) 1 (e1 + e2)

def f32Div (rm : Nat) (a b : F32) : FRes :=
  match a, b with
  | .nan s, y => nanRes (s || y.isSnan)
  | x, .nan s => nanRes (s || x.isSnan)
  | .inf _, .inf _ => nanRes true
  | .inf n, .fin k _ _ => { bits := f32Inf (n != k) }
  | .fin k _ _, .inf n => { bits := f32Sign (n != k) }
  | .fin n1 m1 e1, .fin n2 m2 e2 =>
    if m2 = 0 then (if m1 = 0 then nanRes true else { bits := f32Inf (n1 != n2), divZero := true })
    else finRes rm (n1 != n2) m1 m2 (e1 - e2)

/-- The square root of m × 2^e: 30 further bits and a sticky one. -/
def sqrtFin (rm m : Nat) (e : Int) : FRes :=
  let (m, e) := if e % 2 = 0 then (m, e) else (2 * m, e - 1)
  let big := m * 2 ^ 60
  let r := Nat.sqrt big
  let sticky := if r * r = big then 0 else 1
  finRes rm false (2 * r + sticky) 1 (e / 2 - 31)

def f32Sqrt (rm : Nat) (a : F32) : FRes :=
  match a with
  | .nan s => nanRes s
  | .inf n => if n then nanRes true else { bits := f32Inf false }
  | .fin n m e => if m = 0 then { bits := f32Sign n } else if n then nanRes true else sqrtFin rm m e

/-- ±(a × b) + c, rounded once. -/
def f32Fma (rm : Nat) (minus : Bool) (a b c : F32) : FRes :=
  let snan := a.isSnan || b.isSnan || c.isSnan
  let zeroInf := match a, b with
    | .inf _, .fin _ m _ => m == 0
    | .fin _ m _, .inf _ => m == 0
    | _, _ => false
  if a.isNan || b.isNan then nanRes snan
  else if zeroInf then nanRes true
  else if c.isNan then nanRes snan
  else
    let prod : F32 := match a, b with
      | .inf n, .inf m => .inf (n != m)
      | .inf n, .fin k _ _ => .inf (n != k)
      | .fin k _ _, .inf n => .inf (n != k)
      | .fin n1 m1 e1, .fin n2 m2 e2 => .fin (n1 != n2) (m1 * m2) (e1 + e2)
      | _, _ => .nan false
    f32Add rm (if minus then prod.neg else prod) c

/-- a < b of two values that are no NaN. -/
def F32.lt (a b : F32) : Bool :=
  match a, b with
  | .inf n, .inf m => n && !m
  | .inf n, .fin _ _ _ => n
  | .fin _ _ _, .inf m => !m
  | .fin n1 m1 e1, .fin n2 m2 e2 =>
    let x := if e1 ≤ e2 then e1 else e2
    decide (signedAt n1 m1 e1 x < signedAt n2 m2 e2 x)
  | _, _ => false

/-- a = b, ±0 being equal. -/
def F32.eqv (a b : F32) : Bool := !a.isNan && !b.isNan && !a.lt b && !b.lt a

def F32.isZero : F32 → Bool
  | .fin _ m _ => m == 0
  | _ => false

/-- FMIN and FMAX on words (R341): a NaN operand yields the other; of +0 and −0 the spec does not say which
(DESIGN CHOICE, assumption 17). -/
def f32MinMax (mx : Bool) (a b : Nat) : Nat :=
  let x := F32.ofBits a
  let y := F32.ofBits b
  if x.isNan then (if y.isNan then f32Nan else b)
  else if y.isNan then a
  else if x.isZero && y.isZero then (if Config.zeroPick a b then a else b)
  else if (if mx then y.lt x else x.lt y) then a else b

/-- FNEG and FABS on a word; a NaN result is the canonical one (R342). -/
def f32Neg (a : Nat) : Nat := if (F32.ofBits a).isNan then f32Nan else if a.testBit 31 then a - 0x80000000 else a + 0x80000000
def f32Abs (a : Nat) : Nat := if (F32.ofBits a).isNan then f32Nan else a % 0x80000000

/-- FCVTWS (R341, R342): the integer as 32 bits; out of range and NaN are invalid. -/
def f32ToInt (rm : Nat) (a : F32) : FRes :=
  match a with
  | .nan _ => { bits := 0x7FFFFFFF, invalid := true }
  | .inf n => { bits := if n then 0x80000000 else 0x7FFFFFFF, invalid := true }
  | .fin n m e =>
    let (q, r, d) := scaledDiv m 1 e 0
    let q := if roundUp rm n q r d then q + 1 else q
    let v : Int := if n then -q else q
    if v < -2147483648 then { bits := 0x80000000, invalid := true }
    else if 2147483647 < v then { bits := 0x7FFFFFFF, invalid := true }
    else { bits := bitsOf 32 v }

/-- FCVTSW. -/
def f32OfInt (rm : Nat) (v : Int) : FRes := finRes rm (decide (v < 0)) v.natAbs 1 0

end Sys2Proof.Machine
end

