-- ==== Sys2Proof/Machine/Gdn.lean ====
section
/-!
DEFINITION. Guidon (R259 to R277): distance, slip and fixes, the tile window, section demands, the event queue and its
dispatch, loss of position, and the meanings of Guidon's commands.
-/
namespace Sys2Proof.Machine

open Reg

/-! Frame lengths in u (R86, R99). -/

/-- Ticks per loop cycle, loop cycles per outer cycle, outer cycles per ring cycle. -/
def State.ticksL (s : State) : Nat := s.r HOI_FRAME_LOOPT + 1
def State.loopsO (s : State) : Nat := s.r HOI_FRAME_OUTN + 1
def State.outersH (s : State) : Nat := s.r HOI_FRAME_RINGN + 1

/-- The length of the present tick: CARP ÷ 2 with the adjustment in force (R99). -/
def State.tickU (s : State) : Nat := ((s.r HOI_FRAME_CARP / 2 : Nat) + s.ri HOI_PHERR_ADJ).toNat

def State.loopU (s : State) : Nat := s.ticksL * s.tickU
def State.outerU (s : State) : Nat := s.loopsO * s.loopU
def State.ringU (s : State) : Nat := s.outersH * s.outerU

/-- A time in u as a fraction of a second. -/
def secondsOf (u : Nat) : Frac := ⟨u, 200000000⟩

/-- The µs offset of an instant within the ring cycle that it falls in, the present one or the one before. -/
def State.ringOfs (s : State) (t : Nat) : Nat := (t - (if s.hoi.cycleAt ≤ t then s.hoi.cycleAt else s.hoi.cyclePrev)) / 200

/-! Tables. -/

def State.sec (s : State) (i w : Nat) : Nat := s.r (secFld i w)

/-- Sections with SEN = 1, in index order. -/
def State.sections (s : State) : List Nat :=
  s.regs.filterMap (fun e =>
    let a := e.1 / 32
    if 0x50000000 ≤ a ∧ a < 0x51000000 ∧ a % 16 = 8 ∧ e.2.getLsbD 28 then some ((a - 0x50000000) / 16) else none)

/-- Enabled sections that the check of R267 has not disabled. -/
def State.secLive (s : State) : List Nat := s.sections.filter (fun i => !s.gdn.disabled.contains i)

def State.secAlong (s : State) (i : Nat) : Int := signedOf 16 (s.sec i 0)
def State.secLat (s : State) (i : Nat) : Int := signedOf 16 (s.sec i 0 / 65536)
def State.secWidth (s : State) (i : Nat) : Nat := s.sec i 1 % 4096
/-- The latencies in u (0.1 ms units). -/
def State.secLatU (s : State) (i : Nat) (on : Bool) : Nat :=
  20000 * (if on then s.sec i 1 / 2 ^ 12 % 1024 else s.sec i 1 / 2 ^ 22)
def State.secEp (s : State) (i : Nat) : Nat := s.sec i 2 % 2 ^ 20
def State.secCountM1 (s : State) (i : Nat) : Nat := s.sec i 2 / 2 ^ 20 % 256

def State.cellL (s : State) : Nat := max 1 (s.r GDN_TILE_CELLL)
def State.cellW (s : State) : Nat := max 1 (s.r GDN_TILE_CELLW)

/-- An interrupt event of Guidon: 0 ALLOFF, 1 ONREF, 2 OFFDISP, 3 FIXREJ, 4 EVFIFO not empty, 5 POSVAL change. -/
def State.gdnIrq (s : State) (k : Nat) : State := s.setBit GDN_IRQ_EVT k

/-- Guidon runs: IMPL live, not napping, not under test. -/
def State.gdnLive (s : State) : Bool := s.live .impl && !s.cpm.implNap && !s.tested 12

/-! Local endpoints (R269, R273). -/

/-- An endpoint acts on an event: a retarget of an axis, or an entry of GDN_EVFIFO. -/
def State.epAct (s : State) (ep : Nat) (on : Bool) (ofs : Nat) : State :=
  let target := signedOf 32 (if on then s.r (epFld ep 1) else s.r (epFld ep 2))
  match s.r (epFld ep 0) % 4 with
  | 0 => s
  | 1 => s.axRetarget 0 target
  | 2 => s.axRetarget 1 target
  | _ =>
    if s.gdn.fifo.length < 32 then
      { s with gdn := { s.gdn with fifo := s.gdn.fifo ++ [(ep, on, ofs)] } }.gdnIrq 4
    else s.w GDN_STS_EVOVF 1

/-- A range of local endpoints acts; a range never runs past endpoint 255. -/
def State.epRange (s : State) (ep countM1 : Nat) (on : Bool) (ofs : Nat) : State :=
  (List.range (countM1 + 1)).foldl (fun s k => if ep + k < 256 then s.epAct (ep + k) on ofs else s) s

/-! Distance (R259, R261 to R263). -/

/-- The motor source: enabled, its speed valid and of this boundary, and MMPE not 0. -/
def State.gdnMotorOk (s : State) : Bool :=
  s.posFresh && bit (s.r GDN_CTRL_SRCEN) 0 && s.b GDN_MMPE_MMPE && bit (s.r POS_SPDFLG_FM) 0

/-- A wheel: enabled, its speed valid and of this boundary, and UMPC not 0. -/
def State.gdnWheelOk (s : State) (n : Nat) : Bool :=
  s.posFresh && bit (s.r GDN_CTRL_SRCEN) (n + 1) && s.b (GDN_UMPC_UMPC n) && bit (s.r (if n = 0 then POS_SPDFLG_FW0 else POS_SPDFLG_FW1)) 0

/-- The motor's speed in mm/s before slip. -/
def State.gdnMotorV (s : State) : Frac := ⟨s.ri POS_SPDM_SPEED * s.r GDN_MMPE_MMPE, 1024 * 65536⟩

/-- 1 − s_hat. -/
def State.unslip (s : State) : Frac := ⟨65536 - s.gdn.slip, 65536⟩

/-- The mean of the valid wheels' values. -/
def meanOf (xs : List Frac) : Frac :=
  match xs with
  | [] => {}
  | [x] => x
  | x :: y :: _ => (x.add y).divNat 2

/-- WW weighs the wheels against the motor; with one kind valid, that kind alone (R259) (DEDUCED, assumption 114). -/
def State.fuse (s : State) (m w : Frac) : Frac :=
  let hasW := s.gdnWheelOk 0 || s.gdnWheelOk 1
  if s.gdnMotorOk && hasW then
    let ww := min 256 (s.r GDN_FUSE_WW)
    (((Frac.ofInt ww).mul w).add ((Frac.ofInt (256 - ww)).mul m)).divNat 256
  else if hasW then w
  else if s.gdnMotorOk then m
  else {}

/-- Count differences since the last L boundary, as distances in mm; the first boundary of an enabled Guidon has none
(DESIGN CHOICE, assumption 160). -/
def State.wheelDist (s : State) (n : Nat) : Frac :=
  let now := BitVec.ofNat 32 (s.r (POS_WCNT_COUNT n))
  let d := (now - (s.gdn.counts[n]?.getD now)).toInt
  ⟨d * s.r (GDN_UMPC_UMPC n), 65536⟩

def State.wheelV (s : State) (n : Nat) : Frac := ⟨s.ri (POS_SPDW_SPEED n) * s.r (GDN_UMPC_UMPC n), 64 * 65536⟩

/-- The wheels that are valid now. -/
def State.wheelsOk (s : State) : List Nat := [0, 1].filter s.gdnWheelOk

/-- The node whose endpoints are this device's own: 0, and a member's own ring address (R286). -/
def State.localNode (s : State) (n : Nat) : Bool :=
  n == 0 || (s.r HLY_STS_RSTATE == 2 && n == s.r HLY_NODE_ADDR)

/-- The off actions of every local endpoint whose section is on, and all sections off; every pending on-event goes, those on
their way to HLY with the others (R276). -/
def State.gdnAllOff (s : State) : State :=
  let offs := s.gdn.sched ++ s.gdn.actual.filter (fun i => !s.gdn.sched.contains i)
  let s := offs.foldl (fun s i =>
    if s.localNode (s.secEp i / 256) then s.epRange (s.secEp i % 256) (s.secCountM1 i) false (s.ringOfs s.nowU)
    else s) s
  { (s.w GDN_STS_ALLOFF 1).gdnIrq 0 with
    gdn := { s.gdn with queue := s.gdn.queue.filter (fun e => !e.on), sched := [], actual := [], acting := [], sent := [] }
    hly := { s.hly with nextAllOff := true, nextEvents := s.hly.nextEvents.filter (fun e => !e.on)
                        nowEvents := s.hly.nowEvents.filter (fun e => !e.on) } }

/-- POSVAL falls (R276). -/
def State.gdnLose (s : State) : State := (((s.w GDN_STS_POSVAL 0).gdnIrq 5).raise Fid.gdnPosLost).gdnAllOff

/-- An L boundary at which Guidon does not run: no distance is counted, and the outer cycle is not followed (R260). Enabled or
not, it closes every section when position is lost (R15); the rest stays as it is with EN = 0 (DESIGN CHOICE, assumption 160). -/
def State.gdnStand (s : State) : State :=
  let s := { s with gdn := { s.gdn with counts := [], bothValid := false } }
  if s.gdnLive && s.b GDN_STS_POSVAL && !s.gdnMotorOk && s.wheelsOk.isEmpty then s.gdnLose else s

/-- DISTANCE_UPDATE, and the loss and the return of position, at an L boundary (R259, R262, R276). -/
def State.gdnLoop (s : State) (atOuter : Bool) : State :=
  let dm := (s.gdnMotorV.mul s.unslip).mul (secondsOf s.loopU)
  let dm0 := s.gdnMotorV.mul (secondsOf s.loopU)
  let dw := meanOf (s.wheelsOk.map s.wheelDist)
  let step : Frac := s.gdn.step
  let d := ((s.gdn.d.add (s.fuse dm dw)).add step).norm
  let v := (s.fuse (s.gdnMotorV.mul s.unslip) (meanOf (s.wheelsOk.map s.wheelV))).norm
  let both := s.gdnMotorOk && !s.wheelsOk.isEmpty && s.gdn.counts != []
  let any := s.gdnMotorOk || !s.wheelsOk.isEmpty
  let was := s.b GDN_STS_POSVAL
  let s := { s with gdn := { s.gdn with
    d := d, v := v, step := {}, stamp := s.r HOI_TICKCNT_TICKCNT
    counts := [BitVec.ofNat 32 (s.r (POS_WCNT_COUNT 0)), BitVec.ofNat 32 (s.r (POS_WCNT_COUNT 1))]
    sumW := if both then (s.gdn.sumW.add dw).norm else s.gdn.sumW
    sumM := if both then (s.gdn.sumM.add dm0).norm else s.gdn.sumM
    bothValid := s.gdn.bothValid && both } }
  let s := if was && !any then s.gdnLose
    else if !was && any then ((((s.w GDN_STS_POSVAL 1).w GDN_STS_GNSSAL 0).gdnIrq 5).autoClear Fid.gdnPosLost)
    else s
  if atOuter && !any then { s with gdn := { s.gdn with a := {} } } else s

/-- SLIP_UPDATE at an O boundary (R260); +0.5, which 16 signed bits cannot show, reads as the largest of them (DEDUCED,
assumption 114). -/
def State.gdnSlip (s : State) : State :=
  let ok := s.gdn.bothValid && (Frac.ofInt (100 * s.r GDN_FUSE_SLIPV)).le s.gdn.v.abs && s.gdn.sumM.num != 0
  let g := s.gdn
  let raw : Int := 65536 - roundDiv (65536 * g.sumW.num * (g.sumM.den : Int) * (if g.sumM.num < 0 then -1 else 1))
    (g.sumW.den * g.sumM.num.natAbs)
  let tau := s.r GDN_FUSE_SLIPTAU
  let new := if ok then clampI (g.slip + roundDiv (raw - g.slip) (2 ^ tau)) (-32768) 32768 else g.slip
  let s := { s with gdn := { g with slip := new, sumW := {}, sumM := {}, bothValid := true } }
  let s := s.wi GDN_SLIP_SLIP (min new 32767)
  if s.r GDN_SLIP_SLIPMAX < new.natAbs then s.raise Fid.gdnSlip else s.autoClear Fid.gdnSlip

/-- The acceleration at an O boundary (R261), held in units of 2⁻³² mm/s². -/
def State.gdnAccel (s : State) (any : Bool) : State :=
  let g := s.gdn
  let t := secondsOf s.outerU
  let rate : Frac := if t.num = 0 then {} else (g.v.sub g.vPrev).mul ⟨t.den, t.num.natAbs⟩
  let a := g.a.add ((rate.sub g.a).divNat 4)
  let a : Frac := ⟨roundDiv (a.num * 4294967296) a.den, 4294967296⟩
  { s with gdn := { g with a := if any then a.norm else {}, vPrev := g.v } }

/-- The distance at an instant, interpolated between the O boundaries about it (R263). -/
def histAt (t : Nat) : List (Nat × Frac) → Option Frac
  | (t1, d1) :: (t0, d0) :: l =>
    if t0 ≤ t ∧ t ≤ t1 then
      some (if t1 = t0 then d0 else d0.add ((d1.sub d0).mul ⟨(t : Int) - t0, t1 - t0⟩))
    else histAt t ((t0, d0) :: l)
  | _ => none

/-- FIX_HANDLING at an O boundary (R263), after d of this boundary has joined the history. -/
def State.gdnFix (s : State) : State :=
  let s := match s.gdn.fix with
    | none => s
    | some f =>
      let s := { s with gdn := { s.gdn with fix := none } }
      let reject (s : State) : State := (s.w GDN_STS_FIXREJ 1).gdnIrq 3
      match s.pos.pps.find? (fun (e : Nat × Nat × Bool) => e.1 == f.pps) with
      | some (_, at_, true) =>
        match histAt (at_ + 200 * f.ofs) s.gdn.hist with
        | some d =>
          let e := (Frac.ofInt f.dist).sub d
          if (Frac.ofInt (10 * s.r GDN_FUSE_FIXJMP)).lt e.abs then reject s
          else { s.w GDN_STS_GNSSAL 1 with gdn := { s.gdn with pending := (s.gdn.pending.add e).norm, fixedAt := s.nowU } }
        | none => reject s
      | _ => reject s
  let m := Frac.ofInt (s.r GDN_FUSE_CORRMAX)
  let step := s.gdn.pending.clamp m.neg m
  { s with gdn := { s.gdn with step := step.norm, pending := (s.gdn.pending.sub step).norm } }

/-- Guidon's part of an O boundary. -/
def State.gdnOuter (s : State) : State :=
  let any := s.gdnMotorOk || !s.wheelsOk.isEmpty
  let s := (s.gdnSlip).gdnAccel any
  let s := { s with gdn := { s.gdn with hist := ((s.nowU, s.gdn.d) :: s.gdn.hist).take 512 } }
  let s := s.gdnFix
  (s.wi GDN_DIST_DIST s.gdn.d.round).wi GDN_SPEED_SPEED s.gdn.v.round

/-! The tile window (R264 to R266). -/

/-- The byte address and the shift of a cell. -/
def State.cellAt (s : State) (row : Int) (col : Nat) : Nat × Nat :=
  let i := (row % 256).toNat * 256 + col
  (s.r GDN_TILEBASE_BASE / 16384 * 16384 + i / 4, 2 * (i % 4))

/-- The window lies where R264 lets it lie; one that does not reads as unknown and takes no write-back (DESIGN CHOICE,
assumption 181). -/
def State.tileOk (s : State) : Bool :=
  let a := s.r GDN_TILEBASE_BASE / 16384 * 16384
  decide (0x20010000 ≤ a) && decide (a + 16384 ≤ 0x20100000)

/-- A row that Guidon may read (R265). -/
def State.rowReadable (s : State) (r : Int) : Bool :=
  s.tileOk && decide (s.gdn.done < r) && decide (r ≤ s.gdn.loaded) && decide (r ≤ s.gdn.done + 256)

/-- The cell's word holds an uncorrectable error. -/
def State.cellBad (s : State) (row : Int) (col : Nat) : Bool := s.cores.badWords.contains ((s.cellAt row col).1 / 4 * 4)

/-- A cell's code; an unreadable row reads as unknown, and so does a word with an uncorrectable error (DESIGN CHOICE,
assumption 165). -/
def State.cell (s : State) (row : Int) (col : Nat) : Nat :=
  if s.rowReadable row && !s.cellBad row col then
    let (a, k) := s.cellAt row col
    (s.byte a).toNat / 2 ^ k % 4
  else 3

/-- The column of a lateral position in mm over a positive denominator, when the window has it. -/
def State.colOf (s : State) (x : Frac) : Option Nat :=
  let c := Frac.floor ⟨x.num, x.den * s.cellW⟩ + 128
  if 0 ≤ c ∧ c < 256 then some c.toNat else none

/-- Sample points of a section (R268). -/
def State.samples (s : State) (i : Nat) : List (Option Nat) :=
  let w := s.secWidth i
  let ns := min 8 (max 1 (ceilDiv w s.cellW))
  (List.range ns).map (fun (j : Nat) => s.colOf ⟨2 * (ns : Int) * s.secLat i - (ns * w : Nat) + ((2 * j + 1) * w : Nat), 2 * ns⟩)

/-- The gate bit of a section: 1 beyond the 256 that the gate words hold when no gating applies. -/
def State.gated (s : State) (i : Nat) : Bool :=
  !s.b GDN_CTRL_TCGATE || (decide (i < 256) && bit (s.r (GDN_GATE_GATE (i / 32))) (i % 32))

/-- The demand of a section at a row, MASTER and the gate included (R268, R277). -/
def State.demandAt (s : State) (i : Nat) (row : Int) : Bool :=
  let pts := s.samples i
  let good := pts.countP (fun c => match c with | some c => s.cell row c == 1 | none => false)
  let onk := if s.r GDN_CFG_ONK = 0 then 1 else min 8 (s.r GDN_CFG_ONK)
  s.b GDN_CTRL_MASTER && s.gated i && decide (onk * pts.length ≤ good * 8)

/-- What sampling a section's row brings: ROWUNK when the row is not readable (R265), and the SRAM's fault when a sampled
word holds an uncorrectable error (R322). -/
def State.noteRead (s : State) (i : Nat) (row : Int) : State :=
  if !s.rowReadable row then s.w GDN_STS_ROWUNK 1
  else if (s.samples i).any (fun c => match c with | some c => s.cellBad row c | none => false) then s.raise Fid.sramUncorrectable
  else s

/-- ROW_WRITEBACK of one row under an on section (R266): 0b10 into every cell whose column centre lies in its width. -/
def State.applyRow (s : State) (i : Nat) (row : Int) : State :=
  if !s.rowReadable row then s
  else (List.range 256).foldl (fun (s : State) (c : Nat) =>
    let centre : Int := 2 * ((c : Int) - 128) * s.cellW + s.cellW
    if (centre - 2 * s.secLat i).natAbs ≤ s.secWidth i then
      let (a, k) := s.cellAt row c
      let b := (s.byte a).toNat
      s.setByte a (BitVec.ofNat 8 (b - b / 2 ^ k % 4 * 2 ^ k + 2 * 2 ^ k))
    else s) s

/-- Of two events of one section, the second one is the later; of two at one instant the off is (R273). -/
def GdnActing.before (x y : GdnActing) : Bool :=
  x.sec == y.sec && (decide (x.inst < y.inst) || (x.inst == y.inst && x.on && !y.on))

/-- The actual state of a section: that of its last event whose instant plus its latency has passed (R266). An event that
another such event follows plays no part any more. -/
def State.gdnActual (s : State) : State :=
  let due := s.gdn.acting.filter (fun x => decide (x.due ≤ s.nowU))
  let last := due.filter (fun x => !due.any x.before)
  let act := last.foldl (fun l x => if x.on then (if l.contains x.sec then l else l ++ [x.sec]) else l.filter (· != x.sec))
    s.gdn.actual
  { s with gdn := { s.gdn with actual := act, acting := s.gdn.acting.filter (fun x => !due.contains x && !due.any x.before) } }

/-- The row whose midpoint a position has passed last. -/
def State.midRow (s : State) (p : Frac) : Int :=
  Frac.floor ⟨2 * p.num - (p.den : Int) * s.cellL, 2 * p.den * s.cellL⟩

/-- Rows whose midpoint lies between two footprints, at most 256 (DEDUCED, assumption 115). -/
def rowsPassed (m0 m1 : Int) : List Int :=
  if m0 < m1 then (List.range (min 256 (m1 - m0).toNat)).map (fun (k : Nat) => m0 + 1 + k)
  else (List.range (min 256 (m0 - m1).toNat)).map (fun (k : Nat) => m0 - k)

/-- Write-back of the rows each section has passed since the last L boundary, and the advance of DONE (R265, R266). -/
def State.gdnWriteback (s : State) : State :=
  let s := s.gdnActual
  let s := s.secLive.foldl (fun s i =>
    let p := s.gdn.d.add (Frac.ofInt (s.secAlong i))
    let m := s.midRow p
    let s := match s.gdn.mids.find? (fun (e : Nat × Int) => e.1 == i) with
      | some (_, m0) => if s.gdn.actual.contains i then (rowsPassed m0 m).foldl (fun (s : State) r => s.applyRow i r) s else s
      | none => s
    { s with gdn := { s.gdn with mids := (i, m) :: s.gdn.mids.filter (fun (e : Nat × Int) => e.1 != i) } }) s
  match s.secLive with
  | [] => s
  | i :: l =>
    let rear := l.foldl (fun m j => min m (s.secAlong j)) (s.secAlong i)
    let row := Frac.floor (((s.gdn.d.add (Frac.ofInt rear))).divNat s.cellL) - 1
    if s.ri GDN_DONE_DONE < row then s.wi GDN_DONE_DONE row else s

/-! The event queue (R271, R272). -/

/-- The pending on-event with the latest instant. -/
def latestOn (q : List GdnEvent) : Option GdnEvent :=
  q.foldl (fun m e => if e.on then (match m with
    | some x => if x.inst < e.inst then some e else m
    | none => some e) else m) none

/-- The state a section has once its enqueued events have run. -/
def State.noteSched (s : State) (i : Nat) (on : Bool) : State :=
  let l := s.gdn.sched.filter (· != i)
  { s with gdn := { s.gdn with sched := if on then l ++ [i] else l } }

/-- Enqueue an event under R272. -/
def State.gdnEnqueue (s : State) (e : GdnEvent) : State :=
  let q := s.gdn.queue
  let put (s : State) : State :=
    { s.noteSched e.sec e.on with gdn := { (s.noteSched e.sec e.on).gdn with
      queue := s.gdn.queue ++ [e] } }
  if e.on then
    if q.countP (fun x => x.on) < 960 ∧ q.length < 1024 then put s
    else ((s.w GDN_STS_ONREF 1).bumpSat GDN_CNT_ONREF).gdnIrq 1
  else if q.length < 1024 then put s
  else match latestOn q with
    | some x =>
      let s := { s with gdn := { s.gdn with queue := q.erase x } }
      put (((s.noteSched x.sec false).w GDN_STS_OFFDISP 1).gdnIrq 2)
    | none => (s.raise Fid.gdnOverflow).gdnAllOff

/-- Enqueue with the shortest-pulse rule (R271): an event less than MINT after the section's opposite one cancels both while that
one is in the queue; once it has been dispatched, the new event alone is left out and the section holds its state (DEDUCED,
assumption 182). -/
def State.gdnEvent (s : State) (e : GdnEvent) : State :=
  let near (x : GdnEvent) : Bool := decide (e.inst < x.inst + 200 * s.r GDN_CFG_MINT)
  match s.gdn.queue.find? (fun x => x.sec == e.sec && x.on != e.on) with
  | some x =>
    if near x then
      let s := { s with gdn := { s.gdn with queue := s.gdn.queue.erase x } }
      (s.noteSched e.sec e.on).bumpSat GDN_CNT_SHORT
    else s.gdnEnqueue e
  | none =>
    if s.gdn.sent.any (fun x => x.sec == e.sec && x.on != e.on && near x) then s.bumpSat GDN_CNT_SHORT else s.gdnEnqueue e

/-! Look-ahead (R270, R271). -/

/-- p(t) with t in u. -/
def State.gdnAt (s : State) (i : Nat) (t : Nat) : Frac :=
  let x := secondsOf t
  (((s.gdn.d.add (s.gdn.v.mul x)).add ((s.gdn.a.mul (x.mul x)).divNat 2)).add (Frac.ofInt (s.secAlong i))).norm

/-- The least t ≥ 0, in u, at which p(t) = x, or none: t = 2c ÷ (v ± √(v² + 2ac)), the root the motion reaches first
(DEDUCED, assumption 115). -/
def State.gdnCross (s : State) (i : Nat) (x : Frac) : Option Nat :=
  let c := x.sub (s.gdn.d.add (Frac.ofInt (s.secAlong i)))
  let v := s.gdn.v
  let disc := (v.mul v).add (((s.gdn.a.mul c)).mul (Frac.ofInt 2))
  if c.num = 0 then some 0
  else if disc.num < 0 then none
  else
    let root := disc.sqrt
    let try_ (den : Frac) : Option Nat :=
      if den.num ≠ 0 ∧ (decide (0 < c.num) == decide (0 < den.num)) then
        some (roundDiv (2 * c.num * den.den * 200000000 * (if den.num < 0 then -1 else 1)) (c.den * den.num.natAbs)).toNat
      else none
    match try_ (v.add root), try_ (v.sub root) with
    | some t, some u => some (min t u)
    | some t, none => some t
    | none, some u => some u
    | none, none => none

/-- The row a position lies in. -/
def State.rowOf (s : State) (p : Frac) : Int := Frac.floor (p.divNat s.cellL)

/-- What a footprint does between two instants (R270): the row it ends in, how many row boundaries it crosses, and the
last of them. A motion that turns in between crosses on both legs. -/
def State.gdnTrack (s : State) (i tA tB : Nat) : Int × Nat × Int :=
  let rA := s.rowOf (s.gdnAt i tA)
  let rB := s.rowOf (s.gdnAt i tB)
  let a := s.gdn.a
  let turn : Int := if a.num = 0 then 0
    else roundDiv (-s.gdn.v.num * a.den * 200000000 * (if a.num < 0 then -1 else 1)) (s.gdn.v.den * a.num.natAbs)
  let rT := if (tA : Int) < turn ∧ turn < tB then s.rowOf (s.gdnAt i turn.toNat) else rA
  let last := if rT = rB then rA else rT
  (rB, (rT - rA).natAbs + (rB - rT).natAbs, (if last < rB then rB else rB + 1) * s.cellL)

/-- One section's evaluation for the command window that begins one ring cycle from now (R270, R271). -/
def State.gdnSection (s : State) (i : Nat) : State :=
  let tk := s.nowU
  let th := s.ringU
  let lOn := s.secLatU i true
  let lOff := s.secLatU i false
  let tA := th + min lOn lOff
  let tB := 2 * th + max lOn lOff
  let (row, crossed, x) := s.gdnTrack i tA tB
  let late (s : State) (dem : Bool) : State :=
    if dem && !s.gdn.sched.contains i && s.b GDN_STS_POSVAL then
      let t := s.gdnEvent ⟨i, true, tk + th, s.secEp i, s.secCountM1 i⟩
      if t.gdn.sched.contains i then t.bumpSat GDN_CNT_LATEON else t
    else if !s.b GDN_CTRL_MASTER && s.gdn.sched.contains i then
      s.gdnEvent ⟨i, false, tk + th, s.secEp i, s.secCountM1 i⟩
    else s
  let note (s : State) (dem : Bool) : State :=
    { s with gdn := { s.gdn with demand := if dem then (if s.gdn.demand.contains i then s.gdn.demand else s.gdn.demand ++ [i])
                                           else s.gdn.demand.filter (· != i) } }
  if !s.b GDN_CTRL_MASTER then late (note s false) false
  else
    let s := (if 1 < crossed then s.w GDN_STS_ROWSKIP 1 else s).noteRead i row
    let dem := s.demandAt i row
    let s := note s dem
    if crossed = 0 then late s dem
    else if dem = s.gdn.sched.contains i then s
    else
      let lat := if dem then lOn else lOff
      -- The demand of the row that the section is in when a late on would act, at most that of the last row.
      let soon := dem && s.demandAt i (s.rowOf (s.gdnAt i (th + lOn)))
      match s.gdnCross i (Frac.ofInt x) with
      | some tx =>
        let us := roundDiv ((tx : Int) - lat) 200
        if (th : Int) ≤ (tx : Int) - lat ∧ (tx : Int) - lat < 2 * th ∧ (s.b GDN_STS_POSVAL ∨ !dem) then
          s.gdnEvent ⟨i, dem, (tk + 200 * us).toNat, s.secEp i, s.secCountM1 i⟩
        else late s soon
      | none => late s soon

/-! Dispatch (R273). -/

/-- An event in its place by instant, after those of its instant. -/
def insertDue (e : GdnEvent) : List GdnEvent → List GdnEvent
  | [] => [e]
  | x :: l => if e.inst < x.inst then e :: x :: l else x :: insertDue e l

/-- Due events in the order of their instants; of an on and an off of one section at one instant only the off stays (R273). -/
def dueOrder (l : List GdnEvent) : List GdnEvent :=
  (l.filter (fun e => !(e.on && l.any (fun x => !x.on && x.sec == e.sec && x.inst == e.inst)))).foldl (fun m e => insertDue e m) []

/-- A dispatched event: its section's actual state follows after its latency. -/
def State.gdnSent (s : State) (e : GdnEvent) : State :=
  { s with gdn := { s.gdn with acting := s.gdn.acting ++ [⟨e.sec, e.on, e.inst, e.inst + s.secLatU e.sec e.on⟩]
                               sent := e :: s.gdn.sent.filter (fun x => x.sec != e.sec) } }

/-- A local event acts. -/
def State.gdnAct (s : State) (e : GdnEvent) : State :=
  (s.epRange (e.ep % 256) e.countM1 e.on (s.ringOfs e.inst)).gdnSent e

/-- Remote events go to HLY for the next frame (R273) (DEDUCED, assumption 116). -/
def State.gdnHand (s : State) : State :=
  let remote := s.gdn.queue.filter (fun e => !s.localNode (e.ep / 256))
  remote.foldl State.gdnSent
    { s with gdn := { s.gdn with queue := s.gdn.queue.filter (fun e => s.localNode (e.ep / 256)) }
             hly := { s.hly with nextEvents := s.hly.nextEvents ++ remote } }

/-- Local events that are due act (R273). -/
def State.gdnLocal (s : State) : State :=
  let due := s.gdn.queue.filter (fun e => s.localNode (e.ep / 256) && decide (e.inst ≤ s.nowU))
  let s := { s with gdn := { s.gdn with
    queue := s.gdn.queue.filter (fun e => !(s.localNode (e.ep / 256) && decide (e.inst ≤ s.nowU))) } }
  (dueOrder due).foldl State.gdnAct s

/-- Both kinds (R273). -/
def State.gdnDispatch (s : State) : State := s.gdnHand.gdnLocal

/-! Look-ahead at an H boundary. -/

/-- The check of R267 at an H boundary: which enabled descriptors are disabled, and whether the evaluation fits. -/
def State.gdnCheck (s : State) : State :=
  let secs := s.sections
  let nodeOk (i : Nat) : Bool :=
    let n := s.secEp i / 256
    n == 0 || (s.b HLY_CTRL_EN && s.r HLY_STS_RSTATE != 0 && match s.hly.table with
      | some t => t.entries.any (fun e => e.addr == n)
      | none => false)
  let ep (i : Nat) : Nat := if s.localNode (s.secEp i / 256) then s.secEp i % 256 else s.secEp i
  let hits (i j : Nat) : Bool := i != j && decide (ep i ≤ ep j + s.secCountM1 j) && decide (ep j ≤ ep i + s.secCountM1 i)
  let bad := secs.filter (fun i => !nodeOk i || decide (255 < s.secEp i % 256 + s.secCountM1 i) || secs.any (hits i))
  let fits := decide (2 * (400 + 16 * (secs.length - bad.length)) ≤ s.ringU)
  let s := { s with gdn := { s.gdn with disabled := bad, held := !fits } }
  let s := if !bad.isEmpty || !fits then s.w GDN_STS_CFGERR 1 else s
  if fits then s.autoClear Fid.gdnConfig else s.raise Fid.gdnConfig

/-- GUIDON_EVALUATION at an H boundary (R265, R267, R270). -/
def State.gdnRing (s : State) : State :=
  if !(s.gdnLive && s.b GDN_CTRL_EN) then s
  else
    let s := s.gdnHand
    let s := { s with gdn := { s.gdn with loaded := s.ri GDN_LOADED_LOADED, done := s.ri GDN_DONE_DONE } }
    let s := s.gdnCheck
    let s := if s.gdn.held then s else s.secLive.foldl State.gdnSection s
    if s.gdn.queue.length < 1024 then s.autoClear Fid.gdnOverflow else s

/-! The meanings. -/

/-- The effect of a write of GDN_FIXT, after GDN_FIXD. A fix written while another waits replaces it. -/
def State.submitFix (s : State) (w : Nat) : State :=
  if s.b GDN_CTRL_GNSSEN then { s with gdn := { s.gdn with fix := some ⟨s.ri GDN_FIXD_FIXD, w % 256, w / 256 % 2 ^ 20⟩ } }
  else s

/-- FIX_SUBMIT (R263): the word written to GDN_FIXT. -/
def execFixSubmit (who : Agent) (value : BitVec 32) (s : State) : Host.Outcome State Fault Refusal :=
  act s fun s => s.when (s.gdnLive && s.mayWrite who GDN_FIXT_PPSSEQ) fun s => s.submitFix value.toNat

/-- GNSS_ALIGN_TIMEOUT (R263): no fix accepted within FIXTO s. -/
def execGnssAlignTimeout (s : State) : Host.Outcome State Fault Refusal :=
  act s fun s => s.when (s.gdnLive && decide (s.gdn.fixedAt + 200000000 * s.r GDN_FIXCFG_FIXTO ≤ s.nowU)) fun s =>
    s.w GDN_STS_GNSSAL 0

/-- The effect of a write of SECW2 or EPW2: the whole entry enters its shadow (R267, R269). -/
def State.writeSection (s : State) (w2 : Nat) : State :=
  let i := s.r GDN_SECSEL_IDX
  let w0 := s.r GDN_SECW0_ALONG + 65536 * s.r GDN_SECW0_LAT
  let w1 := s.r GDN_SECW1_WIDTH + 2 ^ 12 * s.r GDN_SECW1_LATON + 2 ^ 22 * s.r GDN_SECW1_LATOFF
  ((s.rws (secFld i 0) w0).rws (secFld i 1) w1).rws (secFld i 2) (w2 % 2 ^ 29)

def State.writeEndpoint (s : State) (w2 : Nat) : State :=
  let i := s.r GDN_EPSEL_IDX
  ((s.rws (epFld i 0) (s.r GDN_EPW0_KIND)).rws (epFld i 1) (s.r GDN_EPW1_ONPOS)).rws (epFld i 2) w2

/-- SECTION_WRITE (R267). -/
def execSectionWrite (who : Agent) (value : BitVec 32) (s : State) : Host.Outcome State Fault Refusal :=
  act s fun s => s.when (s.gdnLive && s.mayWrite who GDN_SECW2_SEN) fun s => s.writeSection value.toNat

/-- ENDPOINT_WRITE (R269). -/
def execEndpointWrite (who : Agent) (value : BitVec 32) (s : State) : Host.Outcome State Fault Refusal :=
  act s fun s => s.when (s.gdnLive && s.mayWrite who GDN_EPW2_OFFPOS) fun s => s.writeEndpoint value.toNat

/-- EVENT_DISPATCH (R273). -/
def execEventDispatch (t : Nat) (s : State) : Host.Outcome State Fault Refusal :=
  act s fun s => (s.at t).when s.gdnLive fun s => s.gdnDispatch.gdnActual

/-- The effect of a write of MASTER (R277, R437): it stays 0 while self-test holds POS or GDN. -/
def State.writeMaster (s : State) (v : Bool) : State :=
  if v && (s.tested 8 || s.tested 12) then s else s.wb GDN_CTRL_MASTER v

/-- MASTER (R277). -/
def execMaster (who : Agent) (value : Bool) (s : State) : Host.Outcome State Fault Refusal :=
  act s fun s => s.when (s.live .impl && s.mayWrite who GDN_CTRL_MASTER) fun s => s.writeMaster value

/-- The effect of a read of GDN_EVFIFO: the oldest entry goes (R269). -/
def State.popEvfifo (s : State) : State := { s with gdn := { s.gdn with fifo := s.gdn.fifo.drop 1 } }

/-- EVFIFO_READ (R269). -/
def execEvfifoRead (s : State) : Host.Outcome State Fault Refusal :=
  act s fun s => s.when s.gdnLive State.popEvfifo

/-- The gate words as the setpoints give them (R279): on only at 0b01, and only with TCGATE = 1. -/
def State.writeGates (s : State) : State :=
  if s.b GDN_CTRL_TCGATE then
    (List.range 8).foldl (fun s n =>
      s.w (GDN_GATE_GATE n) ((List.range 32).foldl (fun w b =>
        if s.gdn.isoSet.any (fun (e : Nat × Nat) => e.1 == 32 * n + b && e.2 == 1) then bitSet w b else w) 0)) s
  else s

/-- SETPOINT_RECEIVED (R279): the sixteen 2-bit setpoints of one DDI, for sections 16 × index and up. -/
def execSetpointReceived (index : Fin 16) (value : BitVec 32) (s : State) : Host.Outcome State Fault Refusal :=
  act s fun s => s.when (s.gdn.iso == .running) fun s =>
    let new := (List.range 16).map (fun k => (16 * index.val + k, value.toNat / 4 ^ k % 4))
    let s := { s with gdn := { s.gdn with isoSet := s.gdn.isoSet.filter (fun (e : Nat × Nat) => !(e.1 / 16 == index.val)) ++ new
                                          isoHeard := s.cpm.msTick } }
    s.writeGates.autoClear Fid.tcLost

/-- TASK_CONTROLLER_LOST (R279): no setpoint for 3 s, whether the client runs or not. -/
def execTaskControllerLost (s : State) : Host.Outcome State Fault Refusal :=
  act s fun s => s.when (s.cpm.phase == .running && s.b GDN_CTRL_TCGATE && decide (s.gdn.isoHeard + 3000 ≤ s.cpm.msTick)) fun s =>
    let s := { s with gdn := { s.gdn with isoSet := [] } }
    ((List.range 8).foldl (fun s n => s.w (GDN_GATE_GATE n) 0) s).raise Fid.tcLost

/-- WORK_STATE_REPORT (R278): the client reports whether any section is on, and the actual condensed work state. -/
def execWorkStateReport (s : State) : Host.Outcome State Fault Refusal :=
  act s fun s => s.when (s.gdn.iso == .running) fun s =>
    { s with gdn := { s.gdn with isoWork := !s.gdn.actual.isEmpty, isoSent := s.gdn.actual.filter (fun i => i < 256) } }

/-- IMPL_NAP (R52): only where IMPLNAP allows, R35 holds and no Guidon event falls due within the 2 µs wake latency. -/
def State.implIdle (s : State) : Bool :=
  [0, 1].all (fun n =>
    let st := s.r (AXS_STS_STATE n)
    st == 0 || (s.b (AXS_STS_STILL n) && s.r (AXS_CUR_IHOLD n) == 0))

end Sys2Proof.Machine
end

