-- ==== Sys2Proof/Machine/Pwm.lean ====
section
/-!
DEFINITION. The PWM stage (R103 to R117): edges, dead times and their adaptation, short pulses and carry, bootstrap
refresh, start and stop, trips, and the meanings of its commands. Instants are fine units of 156.25 ps.
-/
namespace Sys2Proof.Machine

open Reg

/-! Legs. -/

def State.leg (s : State) (n : Nat) : Leg := if n = 0 then s.pwm.legA else if n = 1 then s.pwm.legB else s.pwm.legC

def State.setLeg (s : State) (n : Nat) (l : Leg) : State :=
  { s with pwm := if n = 0 then { s.pwm with legA := l } else if n = 1 then { s.pwm with legB := l }
                  else { s.pwm with legC := l } }

/-- The pads of a leg. -/
def State.padLeg (s : State) (n : Nat) : PadLeg := if n = 0 then s.pins.padA else if n = 1 then s.pins.padB else s.pins.padC

/-- The PWM stage is powered and not under test (R48, R439). -/
def State.pwmLive (s : State) : Bool := s.live .pwm && !s.tested 9

/-- The length of the present tick, and the start of it, in fine units (R103). -/
def State.tickF (s : State) : Nat := 32 * s.tickU
def State.tickStartF (s : State) : Nat := 32 * s.hoi.base

/-- The sign of a leg's current: 1 POS, −1 NEG, 0 ZERO (R123). -/
def State.isign (s : State) (n : Nat) : Int :=
  let c := s.r PWM_ISIGN_SIGN / 4 ^ n % 4
  if c = 1 then 1 else if c = 2 then -1 else 0

/-- Whether an edge is self-commutated: HL with POS, LH with NEG (R106). `high` names the LH edge. -/
def selfCommutated (high : Bool) (g : Int) : Bool := if high then g == -1 else g == 1

/-- dt_use (R106, R107) (DEDUCED, assumption 73); DTMIN, DTMAX and MINP act as written, outside their ranges too (DESIGN CHOICE,
assumption 158). -/
def State.deadUse (s : State) (n : Nat) (high : Bool) (g : Int) : Nat :=
  let lo := s.r PWM_DTMIN_DTMIN
  let hi := s.r PWM_DTMAX_DTMAX
  if hi < lo then lo
  else if !s.b PWM_CTRL_ADAPT || !s.b PWM_SNCFG_SNEN || g == 0 then hi
  else if !selfCommutated high g then lo
  else if (s.leg n).fbLost then hi
  else if high then s.r (PWM_DTA_LHN n) else s.r (PWM_DTA_HLP n)

/-- Both adapted values of a leg. -/
def State.setDta (s : State) (n v : Nat) : State := (s.w (PWM_DTA_HLP n) v).w (PWM_DTA_LHN n) v

/-- The legs' adapted values at DTMAX, where they stand when adaptation is enabled (R107) (DEDUCED, assumption 73). -/
def State.resetDta (s : State) : State :=
  let m := s.r PWM_DTMAX_DTMAX
  ((s.setDta 0 m).setDta 1 m).setDta 2 m

/-- An event bit of PWM_IRQ: 0 SNMISS, 1 RBERR, 2 SSSSTOP, 3 BSR, 4 ABS. -/
def State.pwmIrq (s : State) (k : Nat) : State := s.setBit PWM_IRQ_EVT k

/-! The commanded state (R104, R105). -/

/-- The commanded high-side state at a tick's start: `first` is the tick that begins at the valley. -/
def commandedAtStart (first : Bool) (cmp tf : Nat) : Bool := if first then cmp == 0 else decide (cmp < tf)

/-- The edge inside a tick, as an offset: LH once CMP has elapsed, HL while no more than CMP remains. -/
def edgeInside (first : Bool) (cmp tf : Nat) : Option Nat :=
  if 0 < cmp ∧ cmp < tf then some (if first then cmp else tf - cmp) else none

/-- The bound of the carry: DTMAX + MINP (R110). -/
def State.capCarry (s : State) (x : Int) : Int :=
  let b : Int := (s.r PWM_DTMAX_DTMAX + s.r PWM_MINP_MINP : Nat)
  clampI x (-b) b

/-- What each edge of the carrier takes with UPD = 0: the whole carry when there is one edge, half of it when there are
more, nothing when there is none (R110). -/
def carryShare (cmd : Bool) (cmp tf : Nat) (carry : Int) : Int :=
  let start1 := commandedAtStart true cmp tf
  let in1 := (edgeInside true cmp tf).isSome
  let end1 := start1 || in1
  let start2 := commandedAtStart false cmp tf
  let in2 := (edgeInside false cmp tf).isSome
  let n := (if cmd != start1 then 1 else 0) + (if in1 then 1 else 0) + (if end1 != start2 then 1 else 0) + (if in2 then 1 else 0)
  if n = 0 then 0 else if n = 1 then carry else carry.tdiv 2

/-- The edges of a tick as (offset, new state), from the state commanded before it. -/
def edgesOf (cmd first : Bool) (cmp tf : Nat) : List (Nat × Bool) :=
  let start := commandedAtStart first cmp tf
  (if cmd != start then [(0, start)] else [])
    ++ (match edgeInside first cmp tf with | some o => [(o, first)] | none => [])

/-- Move edges by the carry they take, each at most what is then left of it, inside their tick and in order; the rest of the
carry stays (R110). -/
def moveEdges (t0 tf : Nat) (allot : Int) : List (Nat × Bool) → Nat → Int → List (Nat × Bool) × Int
  | [], _, carry => ([], carry)
  | (o, high) :: l, prev, carry =>
    let take := clampI allot (min 0 carry) (max 0 carry)
    let want : Int := if high then o - take else o + take
    let o' := (clampI want prev tf).toNat
    let used : Int := if high then (o : Int) - o' else (o' : Int) - o
    let (rest, c) := moveEdges t0 tf allot l o' (carry - used)
    ((t0 + o', high) :: rest, c)

/-! Planning at boundaries (R104, R109 to R111). -/

/-- A leg at a tick boundary while the stage is in RUN. -/
def State.planLeg (s : State) (n : Nat) (first : Bool) : State :=
  let l := s.leg n
  let cmp := s.r (PWM_CMP_CMP n)
  let tf := s.tickF
  let t0 := s.tickStartF
  let upd := s.b PWM_CTRL_UPD
  let l := if first then
      let apply := s.capCarry (l.apply + l.carry)
      { l with apply := apply, carry := 0, take := carryShare l.cmd cmp tf apply }
    else l
  let edges := edgesOf l.cmd first cmp tf
  let allot : Int := if !upd then l.take else if edges.isEmpty then 0 else if first then l.apply.tdiv 2 else l.apply
  let (plan, rest) := moveEdges t0 tf allot edges 0 l.apply
  s.setLeg n { l with plan := plan, apply := rest }

/-- The low side of a leg has been on at the pad at some instant since the last valley (R111). -/
def State.lowSeen (s : State) (n : Nat) : Bool :=
  let p := s.padLeg n
  p.lo || decide (s.pwm.valleyAt < p.offLo)

/-- At a valley: one more carrier without a leg's low side, or none (R111). -/
def State.countLow (s : State) (n : Nat) : State :=
  s.setLeg n { s.leg n with lowOff := if s.lowSeen n then 0 else (s.leg n).lowOff + 1 }

/-- A valley is reached: the carriers without a low side are counted in every state of the stage. -/
def State.valleySeen (s : State) : State :=
  let s := ((s.countLow 0).countLow 1).countLow 2
  { s with pwm := { s.pwm with valleyAt := s.tickStartF } }

/-- The steps of a bootstrap refresh around a valley, none before the centre at which it is decided; the last falls one dead time
after the low side's turn-off, with the sign then in force (R111) (DEDUCED, assumption 73). -/
def refreshSteps (centre valley width dHL dLH : Nat) : List (Nat × Force) :=
  let off := max centre (valley - (width / 2 + dHL))
  let on := max (valley - width / 2) (off + dHL)
  [(off, .off), (on, .low), (on + width, .off), (on + width + dLH, .high)]

/-- At a carrier centre: the refresh that the count asks for. -/
def State.planRefresh (s : State) (n : Nat) : State :=
  let l := s.leg n
  let held := s.b SSS_STS_OVR || !s.latched.isEmpty
  if s.b PWM_CTRL_BSRE && decide (s.r PWM_BSR_BSRN < l.lowOff) && !s.lowSeen n && !held && l.on == .high then
    let w := max (s.r PWM_BSR_BSRW) (s.r PWM_MINP_MINP)
    let steps := refreshSteps s.tickStartF (s.tickStartF + s.tickF) w (s.deadUse n false (s.isign n)) (s.deadUse n true (s.isign n))
    ((s.setLeg n { l with refresh := steps, lowOff := 0 }).setBit PWM_STS_BSR n).pwmIrq 3
  else s

/-- A leg as the stage enters RUN: the outputs were off, so it takes the commanded state at once, with no
carry (DESIGN CHOICE, assumption 177). -/
def State.enterRunLeg (s : State) (n : Nat) : State :=
  let c := commandedAtStart true (s.r (PWM_CMP_CMP n)) s.tickF
  s.setLeg n { s.leg n with cmd := c, on := if c then .high else .low, turnOn := none, watch := none,
                            openAt := s.tickStartF, openDead := 0, carry := 0, apply := 0, take := 0, refresh := [] }

/-- The stage enters START or RUN: a kept ASC-L override lifts (R371), and a START of the drive service makes the drive
RUN when the stage is in RUN (R368). -/
def State.stageEntered (s : State) (run : Bool) : State :=
  let s := if s.sss.keepAscL then
      { (s.w SSS_STS_OVR 0).w SSS_STS_SAFEST 0 with sss := { s.sss with keepAscL := false, ascOn := false } } else s
  if run && s.drv == .armed && s.drive.svc != .idle && s.drive.svc != .wind then s.w SSS_STS_DSTATE 2 else s

/-- The stage enters RUN (R112). -/
def State.enterRun (s : State) : State :=
  let s := s.w PWM_STS_STATE 2
  let s := { s with pwm := { s.pwm with precharge := none } }
  (((s.enterRunLeg 0).enterRunLeg 1).enterRunLeg 2).stageEntered true

/-- START: the three low sides on for PRECHW, capped at the carrier minus DTMAX (R112, R123). -/
def State.enterStart (s : State) : State :=
  let w := min (32 * s.r PWM_START_PRECHW) (2 * s.tickF - s.r PWM_DTMAX_DTMAX)
  let low (l : Leg) : Leg := { l with on := .low, cmd := false, turnOn := none, watch := none }
  let s := s.w PWM_STS_STATE 1
  ({ s with pwm := { s.pwm with precharge := some (s.tickStartF + w), legA := low s.pwm.legA, legB := low s.pwm.legB,
                                legC := low s.pwm.legC } }).stageEntered false

/-- The start conditions of R113. -/
def State.mayRun (s : State) : Bool :=
  let enabled := match s.pins.enabledAt with
    | some t => decide (t + 200 * s.r PWM_START_ENDLY ≤ s.nowU)
    | none => false
  let lifted := !s.b SSS_STS_OVR || (s.sss.keepAscL && s.drv == .armed) || s.b SSS_STS_WINDREL
  let st := s.r DIS_STS_STATE
  let dis := st == 0 || st == 5 || st == 6 || (st == 4 && s.b SSS_STS_WINDREL)
  enabled && s.latched.isEmpty && lifted && dis

/-- The drive follows a stage that leaves START or RUN for IDLE: RUN to ARMED (R368). -/
def State.stageLeft (s : State) : State := if s.drv = .run then s.w SSS_STS_DSTATE 1 else s

/-- The stage at a C boundary (R112, R113). -/
def State.pwmCarrier (s : State) : State :=
  let run := s.b PWM_CTRL_RUN
  match s.stageState with
  | .idle =>
    if !run then s
    else if s.mayRun then (if 0 < s.r PWM_START_PRECHW then s.enterStart else s.enterRun)
    else (s.w PWM_CTRL_RUN 0).w PWM_STS_REFUSED 1
  | .start => if run then s.enterRun else (s.stageStop .idle).stageLeft
  | .run => if run then s else (s.stageStop .idle).stageLeft
  | .tripped => if run then (s.w PWM_CTRL_RUN 0).w PWM_STS_REFUSED 1 else s

/-- The settings in force after a C swap: DTCFG and its fault, and adapted values when adaptation comes on (R106, R107). -/
def State.pwmSettings (s : State) (adaptWas : Bool) : State :=
  let bad := decide (s.r PWM_DTMAX_DTMAX < s.r PWM_DTMIN_DTMIN)
  let was := s.b PWM_STS_DTCFG
  let s := s.wb PWM_STS_DTCFG bad
  let s := if bad && !was then s.raise Fid.dtInverted else if !bad then s.autoClear Fid.dtInverted else s
  if s.b PWM_CTRL_ADAPT && !adaptWas then s.resetDta else s

/-- The stage's part of a tick boundary, after the swaps. -/
def State.pwmTick (s : State) (valley adaptWas : Bool) : State :=
  if !s.pwmLive then s
  else
    let s := s.fresh 0x003
    let s := if valley then (s.valleySeen.pwmSettings adaptWas).pwmCarrier else s
    if s.stageState = .run then
      let s := ((s.planLeg 0 valley).planLeg 1 valley).planLeg 2 valley
      if valley then s else ((s.planRefresh 0).planRefresh 1).planRefresh 2
    else s

/-! Edges (R107, R109). -/

/-- A refresh's next step, when it is due: `true` in the second place when there was one. Its turn-offs are no edges of R107: an
open watch ends, and none begins (DESIGN CHOICE, assumption 177). -/
def State.refreshStep (s : State) (n : Nat) : State × Bool :=
  let l := s.leg n
  match l.refresh with
  | (t, f) :: rest =>
    if t ≤ s.nowF then
      let rest := if f = .off && rest.length == 1 then [(t + s.deadUse n true (s.isign n), Force.high)] else rest
      (s.setLeg n { l with on := f, refresh := rest,
                           openAt := if f == .high then t else l.openAt, openDead := if f == .high then 0 else l.openDead,
                           turnOn := none, watch := none }, true)
    else (s, false)
  | [] => (s, false)

/-- An absorbed pulse: W to the carry, the leg holds its state, ABSCNT counts (R109). -/
def State.absorb (s : State) (n : Nat) (high : Bool) (w : Nat) : State :=
  let l := s.leg n
  let s := s.setLeg n { l with carry := s.capCarry (if high then l.carry + w else l.carry - w) }
  let c := s.r PWM_ABSCNT_CNT
  let s := if c / 2 ^ (10 * n) % 1024 < 1023 then s.w PWM_ABSCNT_CNT (c + 2 ^ (10 * n)) else s
  (s.setBit PWM_STS_ABS n).pwmIrq 4

/-- An edge of leg `n` at instant `te`, whose command came at `tc`: the conducting switch off, the complement after
the dead time, the watch (R106, R107). -/
def State.doEdge (s : State) (n : Nat) (high : Bool) (te tc : Nat) : State :=
  let l := s.leg n
  let g := s.isign n
  let d := s.deadUse n high g
  let first := s.r HOI_POS_HALF == 0
  let centre := if first == high then s.tickStartF + s.tickF else s.tickStartF
  let w := if te < centre then 2 * (centre - te) else 0
  if w < d + s.r PWM_MINP_MINP then s.absorb n high w
  else
    let grow : Int := te - tc
    let carry := s.capCarry (if high then l.carry + grow else l.carry - grow)
    s.setLeg n { l with on := .off, turnOn := some (high, te + d), openAt := te, openDead := d, carry := carry,
                        watch := if s.b PWM_SNCFG_SNEN then some ⟨high, g, te, d⟩ else none }

/-- The leg's actual state: what is on, or what turns on after the dead time. -/
def Leg.actual (l : Leg) : Option Bool :=
  match l.turnOn with
  | some (h, _) => some h
  | none => match l.on with | .high => some true | .low => some false | .off => none

/-- A refresh has begun and not ended: its own steps move the leg (R111). -/
def Leg.refreshing (l : Leg) : Bool := decide (0 < l.refresh.length) && decide (l.refresh.length < 4)

/-- The next edge of the leg's plan, when it is due: not before dt_use + MINP after the opening edge (R109). In a refresh it
changes the command alone; an HL edge before one takes its place (R111). -/
def State.planStep (s : State) (n : Nat) : State :=
  let l := s.leg n
  match l.plan with
  | (tc, high) :: rest =>
    if l.refreshing || l.actual == some high then
      if tc ≤ s.nowF then s.setLeg n { l with plan := rest, cmd := high } else s
    else
      let te := max tc (l.openAt + l.openDead + s.r PWM_MINP_MINP)
      if te ≤ s.nowF then
        (s.setLeg n { l with plan := rest, cmd := high, refresh := if high then l.refresh else [] }).doEdge n high te tc
      else s
  | [] => s

/-- The watch of a leg ends without a crossing (R107). -/
def State.snMissed (s : State) (n : Nat) : State :=
  let l := s.leg n
  let s := s.setDta n (s.r PWM_DTMAX_DTMAX)
  let s := (s.setBit PWM_STS_SNMISS n).pwmIrq 0
  let lost := decide (l.miss + 1 = max 1 (s.r PWM_SNCFG_MISSN))
  let s := s.setLeg n { l with watch := none, miss := l.miss + 1, fbLost := l.fbLost || lost }
  if lost then s.raise Fid.snLost n else s

/-- A crossing of a watched edge at the present instant (R107). -/
def State.snCrossed (s : State) (n : Nat) (w : SnWatch) : State :=
  let l := s.leg n
  let s := s.setLeg n { l with watch := none, miss := 0, fbLost := false }
  let s := s.autoClear Fid.snLost n
  if selfCommutated w.high w.sign then
    let meas : Int := (s.nowF : Int) - w.tOff - s.ri PWM_DTMARG_SNCOMP
    let v := (clampI (meas + s.r PWM_DTMARG_DTMARG) (s.r PWM_DTMIN_DTMIN) (s.r PWM_DTMAX_DTMAX)).toNat
    if w.high then s.w (PWM_DTA_LHN n) v else s.w (PWM_DTA_HLP n) v
  else s

/-! Trips (R114 to R117). -/

/-- The fault of a trip source, with its instance. -/
def tripFault (n : Nat) : Nat × Nat := if n < 4 then (Fid.trip, n) else if n = 4 then (Fid.oc, 0) else (Fid.ov, 0)

/-- A source's filtered input becomes active: it latches unless it is masked, the stage trips, its fault is raised
(DEDUCED, assumption 74). -/
def State.tripActive (s : State) (n : Nat) : State :=
  let was := bit (s.r PWM_TRIPSTS_FILT) n
  let s := s.setBit PWM_TRIPSTS_FILT n
  if was || s.tripPat n == 0 then s
  else
    let s := if s.latched.isEmpty then s.w PWM_TRIPSTS_FIRST n else s
    let s := ((s.setBit PWM_TRIPSTS_LATCH n).setBit PWM_IRQ_TRIP n).stageStop .tripped
    (s.endWindrel).raise (tripFault n).1 (tripFault n).2

/-- A source's filtered input becomes inactive. -/
def State.tripInactive (s : State) (n : Nat) : State := s.clrBit PWM_TRIPSTS_FILT n

/-- A clear of the sources of a mask: those whose filtered input is inactive clear, an active one refuses (R117). -/
def State.tripClear (s : State) (mask : Nat) : State :=
  let s := (List.range 6).foldl (fun s n =>
    if bit mask n && bit (s.r PWM_TRIPSTS_LATCH) n then
      if bit (s.r PWM_TRIPSTS_FILT) n then s.w PWM_STS_TRIP_CLR_ACTIVE 1 else s.clrBit PWM_TRIPSTS_LATCH n
    else s) s
  if s.latched.isEmpty && s.stageState == .tripped then
    (s.w PWM_STS_STATE 0).w PWM_TRIPSTS_FIRST 7
  else s

/-! The meanings. Operand `t` counts fine units after the last tick boundary. -/

/-- PWM_RUN (R113): a write of PWM_CTRL.RUN, acted on at the next C boundary. -/
def execPwmRun (who : Agent) (value : Bool) (s : State) : Host.Outcome State Fault Refusal :=
  act s fun s => s.when (s.pwmLive && s.mayWrite who PWM_CTRL_RUN) fun s => s.wb PWM_CTRL_RUN value

/-- PWM_EDGE (R107, R109, R110): leg `n`'s next change of state, once its instant has come; in START, the end of the
precharge; in a refresh, its next step. -/
def execPwmEdge (t : Nat) (n : Fin 3) (s : State) : Host.Outcome State Fault Refusal :=
  act s fun s => (s.atF t).when s.pwmLive fun s =>
    match s.stageState with
    | .start => match s.pwm.precharge with
      | some e => if e ≤ s.nowF then s.legsOff else s
      | none => s
    | .run =>
      let (s', done) := s.refreshStep n.val
      if done then s' else s.planStep n.val
    | _ => s

/-- COMPLEMENT_TURN_ON (R107). -/
def execComplementTurnOn (t : Nat) (n : Fin 3) (s : State) : Host.Outcome State Fault Refusal :=
  act s fun s => (s.atF t).when (s.pwmLive && s.stageState == .run) fun s =>
    let l := s.leg n.val
    match l.turnOn with
    | some (high, due) =>
      if due ≤ s.nowF then
        s.setLeg n.val { l with turnOn := none, on := if high then .high else .low }
      else s
    | none => (s.refreshStep n.val).1

/-- SN_CROSSING (R107): the switch node of leg `n` crosses to `high`. -/
def execSnCrossing (t : Nat) (n : Fin 3) (high : Bool) (s : State) : Host.Outcome State Fault Refusal :=
  act s fun s => (s.atF t).when (s.pwmLive && s.b PWM_SNCFG_SNEN) fun s =>
    match (s.leg n.val).watch with
    | some w =>
      if w.high = high ∧ w.tOff ≤ s.nowF ∧ s.nowF ≤ w.tOff + w.dead + 32 * s.r PWM_SNCFG_SNTO then s.snCrossed n.val w else s
    | none => s

/-- SN_WATCH_TIMEOUT (R107). -/
def execSnWatchTimeout (t : Nat) (n : Fin 3) (s : State) : Host.Outcome State Fault Refusal :=
  act s fun s => (s.atF t).when (s.pwmLive && s.b PWM_SNCFG_SNEN) fun s =>
    match (s.leg n.val).watch with
    | some w => if w.tOff + w.dead + 32 * s.r PWM_SNCFG_SNTO ≤ s.nowF then s.snMissed n.val else s
    | none => s

/-- READBACK_CHECK (R108): CHKDLY after the high or low switch of leg `n` turned on, its node reads `node`; one check for each
turn-on. -/
def execReadbackCheck (t : Nat) (n : Fin 3) (isHigh node : Bool) (s : State) : Host.Outcome State Fault Refusal :=
  act s fun s => (s.atF t).when (s.pwmLive && s.b PWM_SNCFG_SNEN) fun s =>
    let p := s.padLeg n.val
    let l := s.leg n.val
    let at' := if isHigh then p.onHi else p.onLo
    let on := (if isHigh then p.hi && l.chkHi != some at' else p.lo && l.chkLo != some at')
      && at' + 32 * s.r PWM_SNCFG_CHKDLY == s.nowF
    let volts := match s.vdc with | some v => decide (1000 * (s.r PWM_SNCFG_VMIN : Int) ≤ v) | none => false
    if !on || !volts then s
    else
      let bad := node != isHigh
      let c := if bad then (if isHigh then l.rbHi else l.rbLo) + 1 else 0
      let s := s.setLeg n.val (if isHigh then { l with rbHi := c, chkHi := some at' } else { l with rbLo := c, chkLo := some at' })
      let s := if bad then (s.setBit PWM_STS_RBERR n.val).pwmIrq 1 else s
      if 2 ≤ c then s.raise Fid.readback n.val else s

/-- A pin's filter has seen enough consecutive samples: Fn of them, and with Fn = 0 each one (R114). -/
def State.filtered (s : State) (n samples : Nat) : Bool :=
  decide (max 1 (s.r PWM_TRIPFILT_F0_F3 / 256 ^ n % 256) ≤ samples)

/-- The legs whose OC stands in a window that has not ended (R114). -/
def State.ocOpen (s : State) : Bool :=
  (List.range 3).any (fun n => bit s.sense.ocLegs n && (s.padLeg n).win.since.isSome)

/-- OV stands: the last output of SDVD's fast filter was beyond the threshold often enough (R114, R133). -/
def State.ovStands (s : State) : Bool := decide (s.r SDX_OC_OCN + 1 ≤ s.sense.qualified.getD 3 0)

/-- TRIP_INPUT (R114, R115): a pin has read active for `run.samples` consecutive samples, or OC or OV stands. -/
def execTripInput (t : Nat) (run : PinRun) (s : State) : Host.Outcome State Fault Refusal :=
  act s fun s => (s.atF t).when (s.pwmLive
      && (if run.n.val < 4 then s.filtered run.n.val run.samples else if run.n.val = 4 then s.ocOpen else s.ovStands)) fun s =>
    s.tripActive run.n.val

/-- TRIP_INPUT_INACTIVE (R114): a pin has read inactive for `run.samples` consecutive samples, or OC or OV has ended, OC with the
window in which it was raised. -/
def execTripInputInactive (t : Nat) (run : PinRun) (s : State) : Host.Outcome State Fault Refusal :=
  act s fun s => (s.atF t).when (s.pwmLive
      && (if run.n.val < 4 then s.filtered run.n.val run.samples else if run.n.val = 4 then !s.ocOpen else !s.ovStands)) fun s =>
    s.tripInactive run.n.val

/-- TRIP_ASC_TURN_ON (R116): time passes, and a switch that a trip's ASC pattern turns on is turned on once DTMAX has
passed since its opposite's turn-off; the pads settle so after every command. -/
def execTripAscTurnOn (t : Nat) (s : State) : Host.Outcome State Fault Refusal :=
  act s fun s => s.atF t

/-- TRIP_CLEAR (R117). -/
def execTripClear (who : Agent) (mask : BitVec 6) (s : State) : Host.Outcome State Fault Refusal :=
  act s fun s => s.when (s.pwmLive && s.mayWrite who PWM_TRIPCLR_CLR) fun s => s.tripClear mask.toNat

end Sys2Proof.Machine
end

