-- ==== Sys2Proof/Machine/Dis.lean ====
section
/-!
DEFINITION. The discharge block DIS (R120 to R122) and the meanings of its commands. Times count u of 5 ns; voltages mV.
-/
namespace Sys2Proof.Machine

open Reg

/-- DIS is powered and not under test. -/
def State.disLive (s : State) : Bool := s.live .pwm && !s.tested 10

/-- Milliseconds and seconds in u. -/
def msU (n : Nat) : Nat := 200000 * n
def secU (n : Nat) : Nat := 200000000 * n

/-- ELAPSED as time passes (R124). -/
def State.disElapse (s : State) : State :=
  match s.dis.startAt with
  | some t => if s.r DIS_STS_STATE = 2 ∨ s.r DIS_STS_STATE = 1 ∨ s.r DIS_STS_STATE = 3 ∨ s.r DIS_STS_STATE = 4 then
      s.w DIS_MEAS_ELAPSED (min 65535 ((s.nowU - t) / 200000)) else s
  | none => s

/-- DIS ends in DONE or FAIL: ADIS is released with the state, and the discharge release ends (R236). -/
def State.disEnd (s : State) (done : Bool) : State :=
  let was := s.r DIS_STS_STATE
  let s := s.disElapse.w DIS_STS_WINDREQ 0
  let s := if done then s.disDone else s.w DIS_STS_STATE 6
  if was = 4 then s.endWindrel else s

/-- The time with V valid since the start of elapsed time (R122). -/
def State.disRun (s : State) : Nat :=
  s.dis.halfAcc + (match s.dis.halfFrom with | some f => s.nowU - f | none => 0)

/-- V0 as DIS_MEAS shows it, in V, with no halving reached yet; `mark` is the valid time that lay before t_0 (R122). -/
def State.disV0 (s : State) (v : Int) (mark : Nat) : State :=
  { (s.w DIS_MEAS_V0 (min 1023 (v / 1000).toNat)).w DIS_MEAS_HALVINGS 0 with
    dis := { s.dis with v0 := some v, k := 1, halfMark := mark } }

/-- Elapsed time starts at the first request for ADIS of a discharge (R121), and with it the time of the halving check. -/
def State.disStart (s : State) : State :=
  if s.dis.startAt.isSome then s
  else { s with dis := { s.dis with startAt := some s.nowU, halfAcc := 0, halfMark := 0,
                                    halfFrom := if s.vdc.isSome then some s.nowU else none } }

/-- DISCH is entered. A link that stands at the target already is DONE (R121). -/
def State.disEnter (s : State) : State :=
  let s := s.w DIS_STS_STATE 3
  match s.vdc with
  | some v => if v ≤ 1000 * (s.r DIS_LIM_VTGT : Int) then s.disEnd true else s
  | none => s

/-- A halving is still to be checked: V0 ÷ 2^k is not below VTGT (R122). -/
def State.disChecking (s : State) (v0 : Int) : Bool := decide (1000 * (s.r DIS_LIM_VTGT : Int) * 2 ^ s.dis.k ≤ v0)

/-- Halvings that V has reached, at most as many as the check asks for; `n` bounds them (DEDUCED, assumption 75). -/
def State.disHalvings (s : State) (v0 v : Int) : Nat → State
  | 0 => s
  | n + 1 =>
    if s.disChecking v0 && decide (v * 2 ^ s.dis.k ≤ v0) then
      let s := if s.r DIS_MEAS_HALVINGS < 15 then s.bump DIS_MEAS_HALVINGS else s
      ({ s with dis := { s.dis with k := s.dis.k + 1, halfMark := s.disRun } }).disHalvings v0 v n
    else s

/-- A valid sample of V in PROBE or DISCH: V0 when it was not known, or the halvings it reaches. -/
def State.disDecay (s : State) (v : Int) : State :=
  match s.dis.v0 with
  | none => s.disV0 v s.disRun
  | some v0 => s.disHalvings v0 v 16

/-- V is invalid: the halving interval stands still (R122). -/
def State.disSuspend (s : State) : State :=
  if s.disLive && s.dis.halfFrom.isSome then { s with dis := { s.dis with halfAcc := s.disRun, halfFrom := none } } else s

/-- V is valid: the interval runs (R122). -/
def State.disResume (s : State) : State :=
  if s.dis.startAt.isSome then { s with dis := { s.dis with halfFrom := some (s.dis.halfFrom.getD s.nowU) } } else s

/-- The DC-link sample has changed: what V alone moves (R121, R122) (DEDUCED, assumption 75). -/
def State.disSample (s : State) : State :=
  if !s.disLive then s
  else
    let st := s.r DIS_STS_STATE
    match s.vdc with
    | some v =>
      let s := s.disResume
      if (st = 3 ∨ st = 4) ∧ v ≤ 1000 * (s.r DIS_LIM_VTGT : Int) then s.disEnd true
      else if st = 2 then
        let s := s.disDecay v
        match s.dis.v0 with
        | some v0 => if (s.r DIS_CFG_PROBEFR : Int) * v0 ≤ 256 * (v0 - v) then s.disEnter else s
        | none => s
      else if st = 3 then s.disDecay v
      else s
    | none => s.disSuspend

/-- The drive leaves OFF or SAFE: DONE and FAIL return to IDLE (R121). -/
def State.disLeave (s : State) : State :=
  if s.r DIS_STS_STATE = 5 ∨ s.r DIS_STS_STATE = 6 then s.w DIS_STS_STATE 0 else s

/-- OPENCONF (R121). -/
def State.disOpenconf (s : State) : State :=
  let s := s.autoClear Fid.contactorNotOpen
  let st := s.r DIS_STS_STATE
  if st = 1 then
    let s := s.disStart
    let s := match s.vdc with
      | some v => s.disV0 v 0
      | none => { s.w DIS_MEAS_V0 0 with dis := { s.dis with v0 := none } }
    s.disEnter
  else if st = 2 then s.disEnter
  else s

/-! The meanings. Operand `t` counts u after the last tick boundary. -/

/-- DISCHARGE_REQUEST (R120): a guarded write of DIS_CTRL.REQ. -/
def execDischargeRequest (who : Agent) (s : State) : Host.Outcome State Fault Refusal :=
  act s fun s => s.when (s.on .pwm && s.mayWrite who DIS_CTRL_REQ) State.disRequest

/-- OPENCONF (R121): a guarded write of DIS_CTRL.OPENCONF. -/
def execOpenconf (t : Nat) (who : Agent) (s : State) : Host.Outcome State Fault Refusal :=
  act s fun s => (s.at t).when (s.disLive && s.mayWrite who DIS_CTRL_OPENCONF) State.disOpenconf

/-- PROBE_START (R121). -/
def execProbeStart (t : Nat) (s : State) : Host.Outcome State Fault Refusal :=
  act s fun s =>
    let s := s.at t
    let free := match s.dis.probeAt with | some p => decide (p + msU 1000 ≤ s.nowU) | none => true
    match s.vdc with
    | some v =>
      s.when (s.disLive && s.r DIS_STS_STATE == 1 && s.b DIS_CFG_INFER && free) fun s =>
        let s := (s.disStart.disV0 v 0).w DIS_STS_STATE 2
        { s with dis := { s.dis with probeAt := some s.nowU } }
    | none => s

/-- PROBE_TIMEOUT (R121). -/
def execProbeTimeout (t : Nat) (s : State) : Host.Outcome State Fault Refusal :=
  act s fun s =>
    let s := s.at t
    let due := match s.dis.probeAt with | some p => decide (p + msU (s.r DIS_CFG_PROBET) ≤ s.nowU) | none => false
    s.when (s.disLive && s.r DIS_STS_STATE == 2 && due) fun s => (s.disElapse.w DIS_STS_STATE 1).w DIS_STS_CLOSED 1

/-- CONFIRM_TIMEOUT (R121). -/
def execConfirmTimeout (t : Nat) (s : State) : Host.Outcome State Fault Refusal :=
  act s fun s =>
    let s := s.at t
    s.when (s.disLive && s.r DIS_STS_STATE == 1 && decide (s.dis.reqAt + secU (s.r DIS_CFG_CONFT) ≤ s.nowU)) fun s =>
      ((s.disEnd false).w DIS_STS_NOCONF 1).raise Fid.contactorNotOpen

/-- HALVING_TIMEOUT (R122). -/
def execHalvingTimeout (t : Nat) (s : State) : Host.Outcome State Fault Refusal :=
  act s fun s =>
    let s := s.at t
    let due := match s.dis.v0, s.dis.halfFrom with
      | some v0, some _ => s.disChecking v0 && decide (msU (s.r DIS_THALF_THALF) ≤ s.disRun - s.dis.halfMark)
      | _, _ => false
    s.when (s.disLive && s.r DIS_STS_STATE == 3 && s.vdc.isSome && due) fun s =>
      (((s.w DIS_STS_STATE 4).w DIS_STS_SLOW 1).w DIS_STS_WINDREQ 1).raise Fid.dischargeSlow

/-- DISCHARGE_TIME_LIMIT (R121). -/
def execDischargeTimeLimit (t : Nat) (s : State) : Host.Outcome State Fault Refusal :=
  act s fun s =>
    let s := s.at t
    let due := match s.dis.startAt with | some p => decide (p + msU (s.r DIS_LIM_TMAX) ≤ s.nowU) | none => false
    s.when (s.disLive && (s.r DIS_STS_STATE == 3 || s.r DIS_STS_STATE == 4) && due) fun s =>
      let low := match s.vdc with | some v => decide (v ≤ 1000 * (s.r DIS_LIM_VTGT : Int)) | none => false
      if low then s.disEnd true
      else
        let s := (s.disEnd false).w DIS_STS_INCOMPLETE 1
        { s with flt := { s.flt with discharged := false } }.raise Fid.dischargeIncomplete

end Sys2Proof.Machine
end

