-- ==== Sys2Proof/Machine/Stage.lean ====
section
/-!
DEFINITION. Arithmetic of the CLE (R180 to R191): exact lane values, placing a result at its exponent, and each
instruction's result as a pure function of its operands.
-/
namespace Sys2Proof.Machine

/-! Lanes. -/

/-- Lane `k`'s mantissa, and the exponent. -/
def Stage.lane (s : Stage) (k : Nat) : Int := (s.m.toArray.getD k 0).toInt
def Stage.exp (s : Stage) : Int := s.e.toInt

/-- A stage of eight mantissas, cut to 24 bits, and an exponent. -/
def Stage.mk' (l : List Int) (e : Int) : Stage :=
  ⟨Vector.ofFn (fun k : Fin 8 => BitVec.ofInt 24 (l.getD k.val 0)), BitVec.ofInt 6 e⟩

/-- An exact lane value: (p + q√3) ÷ d × 2^x. -/
structure Exact where
  p : Int := 0
  q : Int := 0
  d : Nat := 1
  x : Int := 0
deriving DecidableEq, Repr

/-- The exact value of a lane: m × 2^(e − 23) (R180). -/
def Stage.val (s : Stage) (k : Nat) : Exact := ⟨s.lane k, 0, 1, s.exp - 23⟩

/-- A lane's value in units of 2^(−q), rounded to nearest: how the kernel and the monitors read a stage. -/
def Stage.fixed (s : Stage) (k q : Nat) : Int :=
  let sh : Int := s.exp - 23 + q
  if 0 ≤ sh then s.lane k * 2 ^ sh.toNat else roundDiv (s.lane k) (2 ^ (-sh).toNat)

/-! Exact arithmetic. -/

/-- Two values at one power of two: their numerators and the power. -/
def alignExact (a b : Exact) : Exact × Exact :=
  if a.x ≤ b.x then
    let k := 2 ^ (b.x - a.x).toNat
    (a, ⟨b.p * k, b.q * k, b.d, a.x⟩)
  else
    let k := 2 ^ (a.x - b.x).toNat
    (⟨a.p * k, a.q * k, a.d, b.x⟩, b)

def Exact.add (a b : Exact) : Exact :=
  let (a, b) := alignExact a b
  ⟨a.p * b.d + b.p * a.d, a.q * b.d + b.q * a.d, a.d * b.d, a.x⟩

def Exact.neg (a : Exact) : Exact := ⟨-a.p, -a.q, a.d, a.x⟩
def Exact.sub (a b : Exact) : Exact := a.add b.neg
def Exact.mul (a b : Exact) : Exact := ⟨a.p * b.p + 3 * a.q * b.q, a.p * b.q + a.q * b.p, a.d * b.d, a.x + b.x⟩
def Exact.div (a : Exact) (n : Nat) : Exact := ⟨a.p, a.q, a.d * n, a.x⟩
/-- Times √3. -/
def Exact.root3 (a : Exact) : Exact := ⟨3 * a.q, a.p, a.d, a.x⟩
/-- A whole number. -/
def Exact.ofInt (i : Int) : Exact := ⟨i, 0, 1, 0⟩

/-- floor(q√3) of an integer q. -/
def floorRoot3 (q : Int) : Int :=
  if 0 ≤ q then (Nat.sqrt (3 * q.natAbs * q.natAbs) : Nat) else -((Nat.sqrt (3 * q.natAbs * q.natAbs) : Nat) : Int) - 1

/-- Whether p + q√3 is negative. -/
def negRoot3 (p q : Int) : Bool := if q = 0 then decide (p < 0) else decide (p + floorRoot3 q < 0)

def Exact.isNeg (a : Exact) : Bool := negRoot3 a.p a.q
def Exact.isZero (a : Exact) : Bool := a.p == 0 && a.q == 0
def Exact.lt (a b : Exact) : Bool := (a.sub b).isNeg
def Exact.le (a b : Exact) : Bool := !(b.lt a)
def Exact.eq (a b : Exact) : Bool := (a.sub b).isZero
def Exact.abs (a : Exact) : Exact := if a.isNeg then a.neg else a
def Exact.max (a b : Exact) : Exact := if a.lt b then b else a
def Exact.min (a b : Exact) : Exact := if b.lt a then b else a

/-- floor((p + q√3) ÷ d × 2^x). -/
def Exact.floor (a : Exact) : Int :=
  let k : Int := 2 ^ a.x.toNat
  let d : Int := a.d * 2 ^ (-a.x).toNat
  (a.p * k + floorRoot3 (a.q * k)) / d

/-- The nearest integer, ties away from zero (R182). -/
def Exact.round (a : Exact) : Int :=
  let h : Exact := ⟨1, 0, 2, 0⟩
  if a.isNeg then -((a.neg.add h).floor) else (a.add h).floor

/-- The mantissa of a value at exponent e. -/
def Exact.atExp (a : Exact) (e : Int) : Int := Exact.round { a with x := a.x - e + 23 }

/-! Placing a result (R182, R183). -/

/-- SAT, EOV and EUF of a result. -/
structure ArithFlags where
  sat : Bool := false
  eov : Bool := false
  euf : Bool := false
deriving DecidableEq, Repr

/-- The largest mantissa. -/
def mantMax : Int := 8388607

/-- A mantissa saturated to ±(2^23 − 1). -/
def satMant (m : Int) : Int := clampI m (-mantMax) mantMax

/-- The least exponent from `e` up, at most 31, at which every mantissa fits; `n` bounds the search (DEDUCED, assumption 91). -/
def fitExp (l : List Exact) (e : Int) : Nat → Int
  | 0 => e
  | n + 1 => if l.all (fun v => decide ((v.atExp e).natAbs ≤ 8388607)) then e else fitExp l (e + 1) n

/-- A stage of lanes given as mantissas at an exponent, with saturation. -/
def satStage (l : List Exact) (e : Int) (eov : Bool) : Stage × ArithFlags :=
  let ms := l.map (fun v => v.atExp e)
  let sat := ms.any (fun m => decide (mantMax < m.natAbs))
  let euf := (l.zip ms).any (fun x => !x.1.isZero && x.2 == 0)
  (Stage.mk' (ms.map satMant) e, ⟨sat, eov, euf⟩)

/-- Place eight exact lanes at the exponent of the instruction's rule (N = 0), or normalised (N = 1) (DEDUCED, assumption 91). -/
def place (l : List Exact) (e : Int) (n : Bool) : Stage × ArithFlags :=
  if l.all Exact.isZero then (Stage.mk' [] (-32), {})
  else if n then
    let e := fitExp l (-32) 63
    let past := !(l.all (fun v => decide ((v.atExp e).natAbs ≤ 8388607)))
    satStage l e past
  else satStage l (clampI e (-32) 31) (decide (31 < e))

/-- Lane by lane. -/
def lanes (f : Nat → Exact) : List Exact := (List.range 8).map f

def Stage.vals (s : Stage) : List Exact := lanes s.val

def maxExp (a b : Stage) : Int := if a.exp < b.exp then b.exp else a.exp

/-- A condition mask from lane conditions. -/
def maskOf (f : Nat → Bool) : BitVec 8 :=
  BitVec.ofNat 8 ((List.range 8).foldl (fun a k => if f k then a + 2 ^ k else a) 0)

/-! Results of the instructions of R186: (sD, flags), with the mask where the instruction writes it. -/

def aluLane (d a : Stage) (la lb : Nat) (n : Bool) : Stage × ArithFlags :=
  place (lanes (fun k => if k = lb then a.val la else d.val k)) (maxExp d a) n

def aluScl (a : Stage) (k : Int) (n : Bool) : Stage × ArithFlags :=
  place (lanes (fun i => { a.val i with x := (a.val i).x + k })) (a.exp + k) n

def aluNrm (a : Stage) : Stage × ArithFlags := place a.vals 0 true

def aluAdd (a b : Stage) (n : Bool) : Stage × ArithFlags := place (lanes (fun k => (a.val k).add (b.val k))) (maxExp a b) n
def aluSub (a b : Stage) (n : Bool) : Stage × ArithFlags := place (lanes (fun k => (a.val k).sub (b.val k))) (maxExp a b) n
def aluMul (a b : Stage) (n : Bool) : Stage × ArithFlags := place (lanes (fun k => (a.val k).mul (b.val k))) (a.exp + b.exp) n

def aluMac (d a b : Stage) (n : Bool) : Stage × ArithFlags :=
  place (lanes (fun k => (d.val k).add ((a.val k).mul (b.val k)))) d.exp n

def aluMacb (d a b : Stage) (lb : Nat) (n : Bool) : Stage × ArithFlags :=
  place (lanes (fun k => (d.val k).add ((a.val k).mul (b.val lb)))) d.exp n

def aluSel (a b : Stage) (c : BitVec 8) (n : Bool) : Stage × ArithFlags :=
  place (lanes (fun k => if c.getLsbD k then a.val k else b.val k)) (maxExp a b) n

/-- One condition of CMP. -/
def cmpCond (cc : Nat) (a b : Exact) : Bool :=
  match cc with
  | 0 => b.lt a
  | 1 => b.le a
  | 2 => a.eq b
  | 3 => !a.eq b
  | 4 => b.abs.lt a.abs
  | 5 => a.abs.le b.abs
  | 6 => !a.isZero && !a.isNeg
  | _ => a.isNeg

def aluCmp (a b : Stage) (cc : Nat) : BitVec 8 := maskOf (fun k => cmpCond cc (a.val k) (b.val k))

def aluLim (a b c : Stage) (n : Bool) : Stage × ArithFlags × BitVec 8 :=
  let f (k : Nat) : Exact := ((a.val k).min (c.val k)).max (b.val k)
  let (s, fl) := place (lanes f) a.exp n
  (s, fl, maskOf (fun k => !(f k).eq (a.val k)))

/-- RMP (R188). -/
def aluRmp (d a b c : Stage) (first n : Bool) : Stage × ArithFlags × BitVec 8 :=
  let d := if first then c else d
  let step (k : Nat) : Exact := (b.val k).max {}
  let gap (k : Nat) : Exact := (a.val k).sub (d.val k)
  let near (k : Nat) : Bool := (gap k).abs.le (step k)
  let f (k : Nat) : Exact :=
    if near k then a.val k else if (gap k).isNeg then (d.val k).sub (step k) else (d.val k).add (step k)
  let (s, fl) := place (lanes f) d.exp n
  (s, fl, maskOf near)

/-- One controller of PI (R189): the integrator, the output and its condition. -/
def piOne (d a b c : Stage) (k : Nat) : Exact × Exact × Bool :=
  let e := a.val k
  let p := (b.val k).mul e
  let di := (b.val (k + 4)).mul e
  let i := d.val k
  let hi := c.val k
  let lo := c.val (k + 4)
  let zero : Exact := {}
  let u := (p.add i).add di
  let inew := i.add di
  let up := hi.lt u
  let inew := if up && zero.lt di then i else inew
  let u := if up then hi else u
  let down := u.lt lo
  let inew := if down && di.lt zero then i else inew
  let u := if down then lo else u
  ((inew.min hi).max lo, u, up || down)

def aluPi (d a b c : Stage) (n : Bool) : Stage × ArithFlags × BitVec 8 :=
  let l := lanes (fun k => if k < 4 then (piOne d a b c k).1 else (piOne d a b c (k - 4)).2.1)
  let (s, fl) := place l d.exp n
  (s, fl, maskOf (fun k => decide (k < 4) && (piOne d a b c k).2.2))

/-- What a bounded, unfixed error adds to a lane (R187, R190, R191) (DESIGN CHOICE, assumption 15). -/
def cleErr (key : List Int) (bound : Int) : Int := clampI (Config.cleError key) (-bound) bound

/-- The operands of an instruction as a key. -/
def Stage.key (s : Stage) : List Int := s.exp :: (List.range 8).map s.lane

/-- Clarke (R187). -/
def aluClk (a : Stage) (n : Bool) : Stage × ArithFlags :=
  let z := ((((a.val 0).add (a.val 1)).add (a.val 2))).div 3
  let l := [(a.val 0).sub z, (((a.val 1).sub (a.val 2)).root3).div 3, z]
  place (l ++ List.replicate 5 (Exact.mk 0 0 1 0)) a.exp n

/-- The three phases of an inverse Clarke. -/
def invClarke (alpha beta z : Exact) : List Exact :=
  let h := (alpha.div 2).neg
  let r := (beta.root3).div 2
  [alpha.add z, (h.add r).add z, (h.sub r).add z]

def aluIck (a : Stage) (n : Bool) : Stage × ArithFlags :=
  place (invClarke (a.val 0) (a.val 1) (a.val 2) ++ List.replicate 5 (Exact.mk 0 0 1 0)) a.exp n

def aluPrk (a b : Stage) (n : Bool) : Stage × ArithFlags :=
  let d := ((a.val 0).mul (b.val 0)).add ((a.val 1).mul (b.val 1))
  let q := ((a.val 1).mul (b.val 0)).sub ((a.val 0).mul (b.val 1))
  place (lanes (fun k => if k = 0 then d else if k = 1 then q else a.val k)) (a.exp + b.exp) n

def aluIpk (a b : Stage) (n : Bool) : Stage × ArithFlags :=
  let al := ((a.val 0).mul (b.val 0)).sub ((a.val 1).mul (b.val 1))
  let be := ((a.val 0).mul (b.val 1)).add ((a.val 1).mul (b.val 0))
  place (lanes (fun k => if k = 0 then al else if k = 1 then be else a.val k)) (a.exp + b.exp) n

/-- SCS (R187): cosine and sine of an angle in turns modulo 1, at e = 1, where one LSB is 2^−22, each within 2^−20. -/
def aluScs (a : Stage) (la : Nat) : Stage :=
  let turns := (({ a.val la with x := (a.val la).x + 32 } : Exact).floor % 4294967296).toNat
  let key := 0x24 :: (la : Int) :: a.key
  Stage.mk' [roundDiv (cosine turns) 256 + cleErr (0 :: key) 3, roundDiv (sine turns) 256 + cleErr (1 :: key) 3] 1

/-- A value over a positive one, as an integer in units of 2^(−q), rounded down; √3 to 64 bits. -/
def exactQuot (a b : Exact) (q : Nat) : Int :=
  let m (v : Exact) : Int := ({ v with x := v.x + 96 } : Exact).floor
  let d := m b
  if d ≤ 0 then 0 else m a * 2 ^ q / d

/-- SVM (R191): duties, the scale and the mask; each duty within 2^−20, 4 LSB at e = 1; with N it is normalised (R183). -/
def aluSvm (a b : Stage) (lb : Nat) (n : Bool) : Stage × ArithFlags × BitVec 8 :=
  let vdc := b.val lb
  let zero : Exact := {}
  let at' := fun (x : Stage) => place x.vals 1 n
  if vdc.le zero then
    let (x, fl) := at' (Stage.mk' [2097152, 2097152, 2097152, 0] 1)
    (x, fl, 2)
  else
    let v := invClarke (a.val 0) (a.val 1) {}
    let va := v.getD 0 {}
    let vb := v.getD 1 {}
    let vc := v.getD 2 {}
    let hi := (va.max vb).max vc
    let lo := (va.min vb).min vc
    let span := hi.sub lo
    let mid := (hi.add lo).div 2
    let past := vdc.lt span
    let den := if past then span else vdc
    let key := 0x25 :: (a.key ++ b.key)
    let duty (k : Int) (x : Exact) : Int :=
      clampI (2097152 + exactQuot (x.sub mid) den 22 + cleErr (k :: key) 3) 0 4194304
    let scale := if past then (exactQuot vdc span 23 + 1) / 2 else 4194304
    let ds := [(va, duty 0 va), (vb, duty 1 vb), (vc, duty 2 vc)]
    let under := ds.any (fun x => x.2 == 0 && !((x.1.sub mid).add (den.div 2)).isZero)
    let (x, fl) := at' (Stage.mk' (ds.map (·.2) ++ [scale]) 1)
    (x, { fl with euf := fl.euf || under || scale == 0 }, if past then 1 else 0)

/-- The entries of a table that TLU reads, the first and the last: one at an end of the range, two inside it (R190). -/
def tluSpan (x : Exact) (nn : Nat) : Nat × Nat :=
  if x.isNeg || x.isZero then (0, 0)
  else if (Exact.ofInt 1).le x then (nn, nn)
  else
    let i := (x.mul (Exact.ofInt nn)).floor.toNat
    (i, i + 1)

/-- The mantissa of an exact value at an exponent, when either neighbour may be given: the value itself where it is one. -/
def eitherMant (v : Exact) (e : Int) (key : List Int) : Int :=
  let y : Exact := { v with x := v.x - e + 23 }
  let m := y.floor
  if y.eq (Exact.ofInt m) then m else m + (cleErr key 1 + 1) / 2

/-- TLU (R190): the table's entries, N and E, and the operand's lane; a result that falls between two mantissas is
either of them. -/
def aluTlu (tab : Nat → Stage) (nn : Nat) (e : Int) (a : Stage) (la : Nat) (n : Bool) : Stage × ArithFlags × BitVec 8 :=
  let x := a.val la
  let one := Exact.ofInt 1
  let entry (i k : Nat) : Exact := ⟨(tab i).lane k, 0, 1, e - 23⟩
  if x.isNeg || x.isZero then
    let (s, fl) := place (lanes (entry 0)) e n
    (s, fl, if x.isNeg then 1 else 0)
  else if one.le x then
    let (s, fl) := place (lanes (entry nn)) e n
    (s, fl, 1)
  else
    let xn := x.mul (Exact.ofInt nn)
    let i := xn.floor.toNat
    let f := xn.sub (Exact.ofInt i)
    let key := 0x1A :: (nn : Int) :: a.key
    let exact := lanes (fun k => (entry i k).add (f.mul ((entry (i + 1) k).sub (entry i k))))
    let (s, fl) := place exact e n
    let lanes' := (exact.zipIdx).map (fun v => satMant (eitherMant v.1 s.exp ((v.2 : Int) :: key)))
    if f.isZero then (s, fl, 0)
    else (Stage.mk' lanes' s.exp, { fl with euf := (exact.zip lanes').any (fun x => !x.1.isZero && x.2 == 0) }, 0)

end Sys2Proof.Machine
end

