-- ==== Sys2Proof/Machine/Thm.lean ====
section
/-!
DEFINITION. The thermal models, levels, Half-mast factor and service-life counters of THM (R422 to R433) and the
meanings of its commands. Temperatures and factors count 2⁻³² of their unit.
-/
namespace Sys2Proof.Machine

open Reg

def State.modThm (s : State) (f : Thm → Thm) : State := { s with thm := f s.thm }

/-- One kelvin, one degree, and the factor 1. -/
def thmOne : Int := 4294967296

/-- An interrupt event of THM: 0 level change, 1 ORDER set, 2 STALE, 3 PIMPL or DIMPL (R434). -/
def State.thmIrq (s : State) (k : Nat) : State := s.setBit THM_IRQ_EVT k

/-- A CLE mailbox as a stage (R194, R214). -/
def State.mbox (s : State) (k : Nat) : Stage :=
  ⟨Vector.ofFn (fun j : Fin 8 => BitVec.ofNat 24 (s.r (CLE_MBOX_M k j.val))), BitVec.ofNat 6 (s.r (CLE_MBOX8_E k))⟩

/-- The latest result of an FCV entry as a temperature, in 1/64 °C. -/
def State.fcvTemp64 (s : State) (e : Nat) : Int := s.ri (FCV_RES_VALUE e)
def State.fcvTemp (s : State) (e : Nat) : Int := s.fcvTemp64 e * 67108864

/-! The die model (R422, R424). -/

/-- T_ref of the die model. -/
def State.dieRef (s : State) : Int :=
  if s.b THM_IN_DREFEN then s.fcvTemp (s.r THM_IN_DREF) else s.r THM_IN_DTAFIX * thmOne

/-- theta_4 of the die model and T_ref, with its offset: what the diode sees (R425). -/
def State.dieSlow (s : State) : Int := s.dieRef + s.thm.theta.getD 3 0 + s.thm.dOfs

/-- The die temperature of the model. -/
def State.dieTj (s : State) : Int := s.dieRef + s.thm.theta.foldl (· + ·) 0 + s.thm.dOfs

/-- One element of the Foster network over an outer cycle: P in mW, the element's Rth in 0.01 K/W and its tau in ms
(DEDUCED, assumption 14). -/
def fosterStep (theta : Int) (mw rth tauMs outerU : Nat) : Int :=
  let target : Int := (mw * rth : Nat) * thmOne / 100000
  let keep : Int := clampI (expNeg outerU (200000 * max 1 tauMs)) 0 thmOne
  theta + (target - theta) * (thmOne - keep) / thmOne

/-- The die model's temperature as R58 and R144 use it, and as THM_TJ shows it, in 1/64 °C. -/
def State.dieOut (s : State) : State :=
  let t := s.dieTj / 67108864
  { s.wi THM_TJ_DTJ (satI 16 t) with sense := { s.sense with krefTemp := t }, cpm := { s.cpm with trimTemp := t } }

/-- The die model at an O boundary, from the power of the five rails (R424). -/
def State.dieModel (s : State) (mw : Nat) : State :=
  if s.b THM_CTRL_DTEN then
    let th := (List.range 4).map (fun k =>
      fosterStep (s.thm.theta.getD k 0) mw (s.r (THM_DFOS_RTH k)) (s.r (THM_DFOS_TAU k)) s.outerU)
    (s.modThm (fun x => { x with theta := th })).dieOut
  else s

/-- The die model's seeding at a boot or a wake from DORMANT or PARKED (R424, R425). -/
def State.dieReset (s : State) : State :=
  s.modThm (fun x => { x with theta := [0, 0, 0, 0], seeded := false, dOfs := 0 })

/-- The first die-diode result after the wake seeds theta_4. -/
def State.dieSeed (s : State) (diode : Int) : State :=
  s.modThm (fun x => { x with theta := [0, 0, 0, max 0 (diode - s.dieRef)], seeded := true, dOfs := 0 })

/-! The sensors (R425, R433). -/

/-- The offset after one more reading: `d` the reading minus the estimate. -/
def State.adapted (s : State) (ofs d : Int) : Int :=
  let m : Int := s.r THM_ADP_ADPMAX * thmOne
  clampI (ofs + d / 2 ^ s.r THM_ADP_ADPSH) (-m) m

/-- PLN, where 0 acts as 1. -/
def State.pln (s : State) : Nat := max 1 (s.r THM_ADP_PLN)

def State.implausible (s : State) (d : Int) : Bool := decide ((s.r THM_ADP_PLAUS : Int) * thmOne < d.natAbs)

/-- The model's estimate has been wrong PLN times in a row: the flag, the fault, the interrupt. -/
def State.thmImpl (s : State) (die : Bool) : State :=
  ((if die then s.w THM_STS_DIMPL 1 else s.w THM_STS_PIMPL 1).thmIrq 3).raise Fid.thmImplausible (if die then 1 else 0)

/-- A new NTC result. -/
def State.thmNtc (s : State) (reading : Int) : State :=
  let d := reading - ((s.mbox 3).fixed 2 32 + s.thm.pOfs)
  let bad := s.implausible d
  let n := if bad then s.thm.pBad + 1 else 0
  let g := if bad then 0 else s.thm.pGood + 1
  let ofs := s.adapted s.thm.pOfs d
  let s := s.modThm (fun x => { x with pBad := n, pGood := g, pOfs := ofs })
  if bad && n % s.pln == 0 then s.thmImpl false else s

/-- A new die-diode result: it seeds the model first, then corrects and checks it. -/
def State.thmDiode (s : State) (reading : Int) : State :=
  if !s.thm.seeded then s.dieSeed reading
  else
    let d := reading - s.dieSlow
    let bad := s.implausible d
    let n := if bad then s.thm.dBad + 1 else 0
    let g := if bad then 0 else s.thm.dGood + 1
    let ofs := s.adapted s.thm.dOfs d
    let s := s.modThm (fun x => { x with dBad := n, dGood := g, dOfs := ofs })
    if bad && n % s.pln == 0 then s.thmImpl true else s

/-- A new VALID FCV result of entry `e`; one that is not VALID neither passes nor fails (R425). -/
def State.thmSensor (s : State) (e : Nat) : State :=
  if !s.live .sys || !s.b (FCV_RES_VALID e) then s
  else
    let s := if e = s.r THM_IN_PNTC && s.b THM_CTRL_PTEN then s.thmNtc (s.fcvTemp e) else s
    if e = s.r THM_IN_DDIO && s.b THM_CTRL_DTEN then s.thmDiode (s.fcvTemp e) else s

/-! Levels (R427 to R431). -/

/-- The thresholds of a model: W, HM, SD, LIM and H in 2⁻³² °C. A die threshold above 150 acts as 150, and LIM below SD
acts as SD (R434). -/
structure ThmLimits where
  w : Int
  hm : Int
  sd : Int
  lim : Int
  h : Int
deriving DecidableEq, Repr

def State.thmLimits (s : State) (die : Bool) : ThmLimits :=
  let c (n : Nat) : Int := (if die then min n 150 else n : Nat) * thmOne
  let f (p d : Fld) : Int := c (s.r (if die then d else p))
  let sd := f THM_PTHR_SD THM_DTHR_SD
  ⟨f THM_PTHR_W THM_DTHR_W, f THM_PTHR_HM THM_DTHR_HM, sd, max sd (f THM_PTHR_LIM THM_DTHR_LIM),
   (s.r (if die then THM_HYS_DH else THM_HYS_PH) : Nat) * thmOne⟩

/-- The rows of R427 in their order, without the last: 0 NORMAL, 1 WARNING, 2 HALFMAST, 3 SHUTDOWN. -/
def levelRows (l : ThmLimits) (tj : Int) (lvl : Nat) : Nat :=
  let a := if lvl = 0 ∧ l.w ≤ tj then 1 else lvl
  let a := if a ≤ 1 ∧ l.hm ≤ tj then 2 else a
  let a := if a ≤ 2 ∧ l.sd ≤ tj then 3 else a
  let a := if a = 1 ∧ tj < l.w - l.h then 0 else a
  if a = 2 ∧ tj < l.hm - l.h then (if tj < l.w - l.h then 0 else 1) else a

def thmLevelFld (die : Bool) : Fld := if die then THM_STS_DLEVEL else THM_STS_PLEVEL

/-- A model's level changes: the fault of the level entered, and the clear of the level left. -/
def State.thmSetLevel (s : State) (die : Bool) (new : Nat) : State :=
  let old := s.r (thmLevelFld die)
  if old = new then s
  else
    let d := if die then 1 else 0
    let s := (s.w (thmLevelFld die) new).thmIrq 0
    let s := if old = 1 then s.autoClear Fid.thmWarning d else if old = 2 then s.autoClear Fid.thmHalfmast d else s
    if new = 1 then s.raise Fid.thmWarning d else if new = 2 then s.raise Fid.thmHalfmast d else s

/-- The factor of a model that stands in HALFMAST or SHUTDOWN (R428). Where SD = HM the rule divides by zero, and k_lin
is a free value within its clamp (DESIGN CHOICE, assumption 108). -/
def State.thmFactor (s : State) (l : ThmLimits) (tj prev : Int) : Int × State :=
  let hmmin : Int := s.r THM_HYS_HMMIN * 16777216
  let rec' : Int := s.r THM_HYS_HMREC * thmOne * s.outerU / 20000000000
  if l.sd = l.hm then
    let (x, s) := s.freeNat
    (min (clampI x hmmin thmOne) (prev + rec'), s)
  else
    let klin := clampI (thmOne - (thmOne - hmmin) * (tj - l.hm) / (l.sd - l.hm)) hmmin thmOne
    (min klin (prev + rec'), s)

/-- |T_est| of MBOX2 in N·m, as a number in units of 2⁻¹⁶ (R378). -/
def State.tEst16 (s : State) : Nat := ((s.mbox 2).fixed 0 16).natAbs

/-- t_pred of R430 in ms; none when unbounded. -/
def tPred (lim tj dTdt : Int) : Option Int := if 0 < dTdt then some ((lim - tj) * 1000 / dTdt) else none

/-- THM raises "Thermal shutdown", which ends ORDER (R430). -/
def State.thmShut (s : State) (die : Bool) : State :=
  let s := s.modThm (fun x => if die then { x with dStop := {} } else { x with pStop := {} })
  (s.w THM_STS_ORDER 0).raise Fid.thmShutdown (if die then 1 else 0)

/-- A model enters SHUTDOWN (R430). -/
def State.thmEnterShut (s : State) (die : Bool) (pred : Option Int) : State :=
  let long := match pred with
    | none => true
    | some t => decide ((s.r THM_OSTOP_OSTOP : Int) < t)
  let entry : Orderly := { wait := true, at0 := s.nowU }
  let wait := s.modThm (fun x => if die then { x with dStop := entry } else { x with pStop := entry })
  match s.drv with
  | .run =>
    if long then
      let rate : Int := (s.tEst16 * 1000 / max 1 (s.r THM_OSTOP_OSTOP) : Nat)
      let s := if s.b THM_STS_ORDER then wait else ((wait.w THM_STS_ORDER 1).thmIrq 1).modThm (fun x => { x with stopRate := rate })
      s
    else s.thmShut die
  | .stopping => wait
  | _ => s.thmShut die

/-- The motor's torque is at most 2 % of TMOT, a parameter in N·m of the torque monitor. -/
def State.torqueLow (s : State) (tmot16 : Nat) : Bool := decide (50 * s.tEst16 ≤ tmot16)

/-- OSTOP has passed since the entry of an orderly stop. -/
def State.stopOver (s : State) (x : Orderly) : Bool := decide (x.at0 + 200000 * s.r THM_OSTOP_OSTOP ≤ s.nowU)

/-- An orderly stop in progress, at an O boundary (R430). -/
def State.thmStopping (s : State) (die : Bool) (tj lim : Int) (tmot16 : Nat) : State :=
  let x := if die then s.thm.dStop else s.thm.pStop
  if !x.wait then s
  else if decide (lim ≤ tj) || s.stopOver x then s.thmShut die
  else match s.drv with
    | .run => if s.torqueLow tmot16 then s.thmShut die else s
    | .stopping => s
    | _ => s.thmShut die

/-- The levels and the factor of one model at an O boundary (DEDUCED, assumption 107). -/
def State.thmModel (s : State) (die : Bool) (tj dTdt : Int) (tmot16 : Nat) : State :=
  let l := s.thmLimits die
  let old := s.r (thmLevelFld die)
  let new := if old = 3 then 3 else levelRows l tj old
  let s := s.thmSetLevel die new
  let s := if old ≠ 3 ∧ new = 3 then s.thmEnterShut die (tPred l.lim tj dTdt) else s.thmStopping die tj l.lim tmot16
  let prev := if die then s.thm.dFactor else s.thm.pFactor
  let (f, s) := if new = 2 ∨ new = 3 then s.thmFactor l tj prev else (thmOne, s)
  s.modThm (fun x => if die then { x with dFactor := f } else { x with pFactor := f })

/-- dT/dt of the die model is not stated for t_pred beyond R422's formula, here in 2⁻³² K/s. -/
def State.dieSlope (s : State) (mw : Nat) : Int :=
  (List.range 4).foldl (fun a k =>
    a + (((mw * s.r (THM_DFOS_RTH k) : Nat) * thmOne / 100000) - s.thm.theta.getD k 0) * 1000 / (max 1 (s.r (THM_DFOS_TAU k)) : Nat)) 0

/-- Staleness of MBOX3 at an O boundary with the drive energised (R426). -/
def State.thmSeq (s : State) : State :=
  let q := s.r (CLE_MBOX8_SEQ 3)
  let n := if s.energised && s.b THM_CTRL_PTEN then (if q = s.thm.lastSeq then s.thm.stale + 1 else 0) else 0
  s.modThm (fun x => { x with stale := n, lastSeq := q })

/-- The power-stage temperature with its offset. -/
def State.powerTj (s : State) : Int := (s.mbox 3).fixed 0 32 + s.thm.pOfs

/-- The power-stage model at an O boundary; with PTEN = 0 its level is NORMAL and an orderly stop of its own ends (R426, R427). -/
def State.thmPower (s : State) (tmot16 : Nat) : State :=
  if s.b THM_CTRL_PTEN then
    let tj := s.powerTj
    let slope := (s.mbox 3).fixed 1 32
    let s := s.thmModel false tj slope tmot16
    let s := s.wi THM_TJ_PTJ (satI 16 (tj / 67108864))
    s.w THM_PRED_TPRED (match tPred (s.thmLimits false).lim tj slope with
      | some t => min 65535 t.toNat
      | none => 65535)
  else
    let s := (s.thmSetLevel false 0).modThm (fun x => { x with pFactor := thmOne, pStop := {} })
    if s.thm.dStop.wait then s else s.w THM_STS_ORDER 0

/-- RUN time of the outer cycle that ends, in the band of the die model; whole hours count (R432). -/
def State.thmLife (s : State) : State :=
  if s.cpm.dev = .run then
    let t := s.dieTj
    let k := if t ≤ 90 * thmOne then 0 else if t ≤ 125 * thmOne then 1 else if t ≤ 150 * thmOne then 2 else 3
    let u := s.thm.lifeU.getD k 0 + s.outerU
    let hour := 720000000000
    let s := s.modThm (fun x => { x with lifeU := setAt x.lifeU k (u % hour), unsaved := x.unsaved + s.outerU })
    s.w (THM_LIFE_HOURS k) (s.r (THM_LIFE_HOURS k) + u / hour)
  else s

/-- THM at an O boundary, with the power of the five rails in mW (R422 to R432). -/
def State.thmOuter (s : State) (mw tmot16 : Nat) : State :=
  let s := (s.dieModel mw).thmSeq
  let s := s.thmPower tmot16
  let s := if s.b THM_CTRL_DTEN then s.thmModel true s.dieTj (s.dieSlope mw) tmot16
    else (s.thmStopping true s.dieTj (s.thmLimits true).lim tmot16).modThm (fun x => { x with dFactor := thmOne })
  let s := s.w THM_STS_FACTOR ((min s.thm.pFactor s.thm.dFactor) / 16777216).toNat
  let s := (s.wi THM_PRED_POFS (satI 8 (s.thm.pOfs * 8 / thmOne))).wi THM_PRED_DOFS (satI 8 (s.thm.dOfs * 8 / thmOne))
  s.thmLife

/-! The meanings. -/

/-- THERMAL_MODEL_STALE (R426). -/
def execThermalModelStale (s : State) : Host.Outcome State Fault Refusal :=
  act s fun s => s.when (s.energised && s.b THM_CTRL_PTEN && decide (max 1 (s.r THM_OSTOP_STALEN) ≤ s.thm.stale)) fun s =>
    ((s.w THM_STS_STALE 1).thmIrq 2).raise Fid.thmStale

/-- ORDERLY_STOP_END (R430): in STOPPING, OSTOP has passed since a model entered SHUTDOWN; in RUN the O boundaries see it. -/
def execOrderlyStopEnd (stop : ModelAt) (s : State) : Host.Outcome State Fault Refusal :=
  act s fun s =>
    let s := s.at stop.t
    let x := if stop.die then s.thm.dStop else s.thm.pStop
    s.when (s.drv == .stopping && x.wait && s.stopOver x) fun s => s.thmShut stop.die

/-- The models in SHUTDOWN that lie below SD − H. -/
def State.thmCool (s : State) (die : Bool) : Bool :=
  let l := s.thmLimits die
  decide ((if die then s.dieTj else s.powerTj) < l.sd - l.h)

/-- A model in SHUTDOWN takes the level its temperature gives, from NORMAL, and its fault clears (R427, R431, R433). -/
def State.thmReenter (s : State) (die : Bool) : State :=
  let s := if s.r (thmLevelFld die) = 3 then
      s.thmSetLevel die (levelRows (s.thmLimits die) (if die then s.dieTj else s.powerTj) 0)
    else s
  s.autoClear Fid.thmShutdown (if die then 1 else 0)

/-- The effect of the guarded write to THM_REEN (R431). -/
def State.writeReen (s : State) : State :=
  let held (die : Bool) : Bool := s.r (thmLevelFld die) == 3
  if (held false && !s.thmCool false) || (held true && !s.thmCool true) then s.w THM_STS_REENREF 1
  else (s.thmReenter false).thmReenter true

/-- RE_ENABLE (R431). -/
def execReEnable (who : Agent) (value : Bool) (s : State) : Host.Outcome State Fault Refusal :=
  act s fun s => s.when (value && s.live .sys && s.mayWrite who THM_REEN_REEN) State.writeReen

/-- The profile of R432 is exceeded. -/
def State.lifeBeyond (s : State) : Bool :=
  let h (k : Nat) := s.r (THM_LIFE_HOURS k)
  decide (2000 < h 2) || decide (20000 < h 0 + h 1 + h 2) || h 3 != 0 || decide (200000 < s.r THM_KEYS_KEYS)

/-- The counters are saved and the profile checked (R432): the parameter store keeps them from here on (DEDUCED, assumption 40). -/
def State.saveLife (s : State) : State :=
  let s := (List.range 4).foldl (fun s k =>
    { s with kern := { s.kern with params := sparseInsert (sparseErase s.kern.params (0x0900 + k)) (0x0900 + k) (BitVec.ofNat 32 (s.r (THM_LIFE_HOURS k))) } }) s
  let s := { s with kern := { s.kern with params := sparseInsert (sparseErase s.kern.params 0x0904) 0x0904 (BitVec.ofNat 32 (s.r THM_KEYS_KEYS)) } }
  let s := s.modThm (fun x => { x with unsaved := 0 })
  if s.lifeBeyond && !s.b THM_STS_LIFEX then (s.w THM_STS_LIFEX 1).raise Fid.lifeExceeded else s

/-- An hour of RUN in u. -/
def hourU : Nat := 720000000000

/-- LIFE_COUNTER_SAVE (R432): an hour of RUN has passed since the last save. -/
def execLifeCounterSave (s : State) : Host.Outcome State Fault Refusal :=
  act s fun s => s.when (s.cpm.dev == .run && s.cpm.phase == .running && decide (hourU ≤ s.thm.unsaved)) State.saveLife

end Sys2Proof.Machine
end

