-- ==== Sys2Proof/Machine/Sense.lean ====
section
/-!
DEFINITION. The conversion blocks SDX, PCV and FCV (R125 to R146) and the meanings of their commands. Times within a
window count fine units of 156.25 ps (R103); a bit period of 50 ns is 320 of them.
-/
namespace Sys2Proof.Machine

open Reg

def State.modSense (s : State) (f : Sense → Sense) : State := { s with sense := f s.sense }

def State.sdxLive (s : State) : Bool := s.live .sense && !s.tested 5
def State.pcvLive (s : State) : Bool := s.live .sense && !s.tested 6
def State.fcvLive (s : State) : Bool := s.live .sense && !s.tested 7

/-! Correction (R144). -/

/-- A result before saturation goes to ±(2²³ − 1), with its SAT. -/
def satResult (y : Int) : Int × Bool := (clampI y (-8388607) 8388607, decide (y < -8388607 ∨ 8388607 < y))

/-- SDX: ((x − OFS) × GAIN) >> 23 (DEDUCED, assumption 76). -/
def sdxCorrect (x ofs : Int) (gain : Nat) : Int × Bool := satResult ((x - ofs) * gain / 8388608)

/-- The reference factor in force. -/
def State.kref (s : State) : Int := Config.kref s.cpm.defTrims s.sense.krefTemp

/-- PCV and FCV: the same times the reference factor, rounded to nearest (DESIGN CHOICE, assumption 16, DEDUCED, assumption 76). -/
def State.anaCorrect (s : State) (x ofs : Int) (gain : Nat) : Int × Bool :=
  satResult (roundDiv ((x - ofs) * gain / 8388608 * s.kref) 16777216)

/-! Capture (R126). -/

/-- The SDCK output that input `n` is captured by is on: its pad has edges. -/
def State.clockOn (s : State) (n : Nat) : Bool :=
  if s.r (SDX_IN_CKSEL n) = 0 then s.b SDX_CTRL_CKEN0 else s.b SDX_CTRL_CKEN1

/-- The bits of input `n`: of each edge of its clock, the sample CAPDLY SYS cycles after it. -/
def State.capture (s : State) (n : Nat) (x : Stream) : List Bool :=
  if s.clockOn n then
    (if s.r (SDX_IN_CKSEL n) = 0 then x.ck0 else x.ck1).map (fun w => w.getLsbD (s.r (SDX_IN_CAPDLY n)))
  else []

/-- The instant of the first of them. -/
def State.captureAt (s : State) (n : Nat) (x : Stream) : Nat := if s.r (SDX_IN_CKSEL n) = 0 then x.at0 else x.at1

/-! SDX windows (R126 to R129). -/

/-- The weights rect(k) convolved with itself three times, at place `j` (R128). -/
def sinc3Weight (k j : Nat) : Nat :=
  let tri (i : Int) : Int := if i < 0 then 0 else (i + 1) * (i + 2) / 2
  (tri j - 3 * tri ((j : Int) - k) + 3 * tri ((j : Int) - 2 * k) - tri ((j : Int) - 3 * k)).toNat

/-- Sum of the weights that meet a 1, and of all weights, over bits placed from weight `j` up. -/
def sinc3Sum (k : Nat) : List Bool → Nat → Nat × Nat
  | [], _ => (0, 0)
  | b :: l, j =>
    let w := sinc3Weight k j
    let (a, t) := sinc3Sum k l (j + 1)
    (a + (if b then w else 0), t + w)

/-- The raw value of a window's usable bits; none where no weight falls on a bit. -/
def windowRaw (usable : List Bool) (kmax : Nat) : Option Int :=
  let n := usable.length
  let k := min ((n + 2) / 3) kmax
  let m := 3 * k - 2
  let (a, t) := sinc3Sum k ((usable.drop ((n - m + 1) / 2)).take m) 0
  if t = 0 then none else some (satI 24 (roundDiv ((2 * (a : Int) - t) * 8388608) t))

/-- SETTLE, WMIN and KMAX in fine units and bits, with the limits that R128 puts on them. -/
def State.settleF (s : State) : Nat := 64 * s.r SDX_WIN_SETTLE
def State.wminF (s : State) : Nat := max (64 * s.r SDX_WIN_WMIN) (s.settleF + 5120)
def State.kmaxUse (s : State) : Nat := max 6 (s.r SDX_WIN_KMAX)

/-- The bits of a window at or after SETTLE and before its end; the first bit lies `first` after its start. -/
def usableBits (first settle w : Nat) : List Bool → Nat → List Bool
  | [], _ => []
  | b :: l, i =>
    let t := first + 320 * i
    if settle ≤ t ∧ t < w then b :: usableBits first settle w l (i + 1) else usableBits first settle w l (i + 1)

/-- A channel that is enabled, scaled, and whose bitstream fault does not stand (R132, R135). -/
def State.sdxValid (s : State) (n : Nat) : Bool :=
  let hasInst (id d : Nat) := s.flt.active.any (fun a => a.id == id && a.insts.contains d)
  bit (s.r SDX_CTRL_EN) n && s.r (SDX_GAIN_GAIN n) != 0 && !bit s.sense.lostNow n
    && !(if n < 3 then hasInst Fid.shuntLost n else if n = 3 then s.hasFault Fid.dcLinkLost else false)

/-- Publish a result of input `n` (R147). -/
def State.sdxPublish (s : State) (n : Nat) (y : Int × Bool) (valid fb : Bool) : State :=
  let s := ((s.wi (SDX_RES_VALUE n) y.1).wb (SDX_RES_VALID n) valid).wb (SDX_RES_SAT n) y.2
  let s := ((s.w (SDX_RES_SKIP n) 0).wb (SDX_RES_FB n) fb).w (SDX_RES_STALE n) 0
  if y.2 then s.setBit SDX_STS_SAT n else s

/-- A skipped window: SKIP, and the skip counted (R128) (DEDUCED, assumption 77). -/
def State.sdxSkip (s : State) (n : Nat) (counted : Bool) : State :=
  let c := s.r SDX_SKIPCNT_CNT / 1024 ^ n % 1024
  let s := if counted && c < 1023 then s.w SDX_SKIPCNT_CNT (s.r SDX_SKIPCNT_CNT + 1024 ^ n) else s
  if s.b SDX_STS_FBACT then s
  else (((s.w (SDX_RES_SKIP n) 1).w (SDX_RES_FB n) 0).wb (SDX_RES_VALID n) (s.sdxValid n)).w (SDX_RES_STALE n) 0

/-- Both paths have failed together (R137). -/
def State.hallFailed (s : State) : Bool := s.r PCV_STS_RANGE != 0 || s.sense.hallBad != 0 || s.sense.refBad
def State.shuntFailed (s : State) : Bool :=
  s.b SDX_STS_FBACT || s.sense.cause.lost || s.sense.cause.kres || s.sense.cause.predict
def State.pathCheck (s : State) : State :=
  if s.shuntFailed && s.hallFailed && !s.hasFault Fid.noPath then s.raise Fid.noPath else s

/-- The residual of three measured legs (R135). After a clear of its fault, a new run of KRESN is a cause and a fault again. -/
def State.kirchhoff (s : State) : State :=
  if s.sense.measured = 7 then
    let r := s.sense.shunt.foldl (· + ·) 0
    if s.r SDX_CHK_KRES < r.natAbs then
      let n := s.sense.kresRun + 1
      let s := s.modSense (fun x => { x with kresRun := n })
      if max 1 (s.r SDX_CHK_KRESN) ≤ n ∧ !(s.b SDX_STS_KRESERR && s.sense.cause.kres) then
        (((s.w SDX_STS_KRESERR 1).modSense (fun x => { x with cause := { x.cause with kres := true } })).raise Fid.kirchhoff).pathCheck
      else s
    else s.modSense (fun x => { x with kresRun := 0 })
  else s

/-- A current-loop program is enabled and the CLE runs. -/
def State.curloopRuns (s : State) : Bool :=
  s.b CLE_CTRL_RUN && (List.range 8).any (fun n => bit (s.r CLE_CTRL_PEN) n && s.b (CLE_PCFG_CURLOOP n))

/-- Legs in a mask. -/
def legCount (m : Nat) : Nat := (List.range 3).countP (bit m)

/-- The prediction counts over a valley loop cycle (R131), outside fallback (DEDUCED, assumption 77). -/
def State.predictCount (s : State) : State :=
  if s.b SDX_STS_FBACT then s.modSense (fun x => { x with predict := [0, 0, 0] })
  else
    let m := s.sense.measured
    let next := (List.range 3).map (fun k => if legCount m ≤ 1 ∧ !bit m k then s.sense.predict.getD k 0 + 1 else 0)
    let s := s.modSense (fun x => { x with predict := next })
    if next.any (· == 5) then
      ((s.modSense (fun x => { x with cause := { x.cause with predict := true } })).raise Fid.prediction).pathCheck
    else s

/-- All three legs' windows have come: the residual and, for those of a valley, the prediction counts and the good run of R137. A
tick of ASC-L that begins at the carrier centre neither advances nor resets the two (R131). -/
def State.legsDone (s : State) (valley : Bool) : State :=
  let s := s.kirchhoff
  let s := if valley && s.curloopRuns then s.predictCount else s
  let good := s.b SDX_STS_FBACT && decide (2 ≤ legCount s.sense.measured) && s.r SDX_STS_BSLOST % 8 == 0 && !s.b SDX_STS_KRESERR
  let run := if !valley then s.sense.goodRun else if good then s.sense.goodRun + 1 else 0
  s.modSense (fun x => { x with goodRun := run, arrived := 0, anyWin := false, measured := 0 })

/-- A leg's result is known: measured, with its current, or not; `valley` when its window belongs to a carrier valley. -/
def State.legArrived (s : State) (n : Nat) (y : Option Int) (valley : Bool) : State :=
  let s := s.modSense (fun x => { x with arrived := bitSet x.arrived n
                                         measured := if y.isSome then bitSet x.measured n else x.measured
                                         shunt := setAt x.shunt n (y.getD 0) })
  if s.sense.arrived = 7 then s.legsDone valley else s

/-- The pads carry the stage's outputs in RUN (R128). -/
def State.stageDrives (s : State) : Bool := s.stageState == .run && !s.b SSS_STS_OVR && s.latched.isEmpty

/-- A leg's window result: its bits, the first of them `first` after the window's start. -/
def State.sdxWindow (s : State) (n : Nat) (w : Window) (first : Nat) (bits : List Bool) : State :=
  let s := if s.b SDX_STS_FBACT then s else s.w SDX_STAMP_TICK w.stamp
  let raw := if w.len < s.wminF then none else windowRaw (usableBits first s.settleF w.len bits 0) s.kmaxUse
  match raw with
  | none => (s.sdxSkip n (decide (0 < w.len) || w.counted)).legArrived n none w.valley
  | some x =>
    let y := sdxCorrect x (s.ri (SDX_OFS_OFS n)) (s.r (SDX_GAIN_GAIN n))
    let ok := s.sdxValid n
    let s := if s.b SDX_STS_FBACT then s else s.sdxPublish n y ok false
    s.legArrived n (if ok then some y.1 else none) w.valley

/-- The windows of leg `n`. -/
def State.legWin (s : State) (n : Nat) : LegWin := (if n = 0 then s.pins.padA else if n = 1 then s.pins.padB else s.pins.padC).win

def State.setLegWin (s : State) (n : Nat) (w : LegWin) : State :=
  { s with pins := if n = 0 then { s.pins with padA := { s.pins.padA with win := w } }
                   else if n = 1 then { s.pins with padB := { s.pins.padB with win := w } }
                   else { s.pins with padC := { s.pins.padC with win := w } } }

/-- Leg `n` at a tick boundary: under ASC-L the tick that ends is its window; at a carrier centre the span's window ends where
it is still open, and a span without one gives a window of length 0 (R127, R128). `len` is the ended tick's length. -/
def State.winLegTick (s : State) (n : Nat) (centre lo : Bool) (len : Nat) : State :=
  let w := s.legWin n
  let stamp := (s.r HOI_TICKCNT_TICKCNT + 2 ^ 32 - 1) % 2 ^ 32
  if s.pins.ascTick then
    s.setLegWin n { since := some s.nowF, closed := false, due := some ⟨s.nowF - len, len, stamp, false, centre⟩ }
  else if !centre then s
  else
    let since := if lo && s.windowsOpen then some s.nowF else none
    let due := if w.closed then w.due else some (match w.since with
      | some b => ⟨b, s.nowF - b, stamp, true, true⟩
      | none => ⟨s.nowF, 0, stamp, s.stageDrives, true⟩)
    s.setLegWin n { since := since, closed := false, due := due }

/-- The windows of the three legs at a tick boundary (DEDUCED, assumption 77). -/
def State.winTick (s : State) (centre : Bool) (len : Nat) : State :=
  if !s.live .sense then s
  else
    let p := s.pins
    let s := ((s.winLegTick 0 centre p.padA.lo len).winLegTick 1 centre p.padB.lo len).winLegTick 2 centre p.padC.lo len
    { s with pins := { s.pins with ascTick := s.ascLHeld } }

/-- The carrier that begins has no windows (R127, R196): no ASC-L pattern holds the pads, and the stage is in neither START nor
RUN with the pads its own, or no leg's low side has been on since the carrier centre before. -/
def State.noWindows (s : State) : Bool :=
  !s.ascLHeld && (!((s.stageState == .start || s.stageState == .run) && !s.b SSS_STS_OVR && s.latched.isEmpty)
    || [0, 1, 2].all (fun n => (s.legWin n).since.isNone && !(s.legWin n).closed))

/-! Continuous channels at a tick boundary (R132), and what the boundaries do. -/

/-- The OSR of SDVD, and of SDI4 and SDI5. -/
def State.contOsr (s : State) (n : Nat) : Nat := 16 * 2 ^ s.r (if n = 3 then SDX_CONT_VOSR else SDX_CONT_SOSR)

/-- The sinc3 output that the last 3 × OSR − 2 captured bits give; none before there are as many (R132). -/
def State.contRaw (s : State) (n : Nat) (x : Stream) : Option Int :=
  let k := s.contOsr n
  let bits := s.capture n x
  let m := 3 * k - 2
  if bits.length < m then none
  else
    let (a, t) := sinc3Sum k (bits.drop (bits.length - m)) 0
    some (satI 24 (roundDiv ((2 * (a : Int) - t) * 8388608) t))

/-- The latest completed outputs of SDVD, SDI4 and SDI5, latched; a channel that has completed none keeps its value
(DEDUCED, assumption 77). -/
def State.sdxTick (s : State) (xs : List Stream) : State :=
  if s.sdxLive then
    ([3, 4, 5].foldl (fun s n =>
      match s.contRaw n (xs.getD (n - 3) {}) with
      | some x => s.sdxPublish n (sdxCorrect x (s.ri (SDX_OFS_OFS n)) (s.r (SDX_GAIN_GAIN n))) (s.sdxValid n) false
      | none => s.wb (SDX_RES_VALID n) (s.b (SDX_RES_VALID n) && s.sdxValid n)) s).disSample
  else s

/-- The switch to and from the Hall path at an L boundary (R136, R137). -/
def State.sdxLoop (s : State) : State :=
  let c := s.sense.cause
  if s.b SDX_STS_FBACT then
    if !c.lost && !c.kres && !c.predict then s.w SDX_STS_FBACT 0 else s
  else if s.b SDX_CTRL_FBEN && (c.lost || c.kres || c.predict) then
    ((s.w SDX_STS_FBACT 1).modSense (fun x => { x with goodRun := 0, predict := [0, 0, 0] })).pathCheck
  else s

/-- The single-path timer over one millisecond (R137). -/
def State.singlePathMs (s : State) : State :=
  s.modSense (fun x => { x with singleMs := if s.b SDX_STS_FBACT || s.hallFailed then x.singleMs + 1 else 0 })

/-! The Hall path (R138, R139). -/

def hallInput (n : Nat) : Fld := if n = 0 then PCV_HALL_HA else if n = 1 then PCV_HALL_HB else PCV_HALL_HC

/-- An AIN input is routed to FCV (R143). -/
def State.toFcv (s : State) (i : Nat) : Bool := bit (s.r PCV_ROUTE_FCV) i

/-- The corrected value of a PCV code of input `i`. -/
def State.pcvValue (s : State) (i code : Nat) : Int × Bool :=
  s.anaCorrect (((code : Int) - 2048) * 4096) (s.ri (PCV_OFS_OFS i)) (s.r (PCV_GAIN_GAIN i))

/-- A PCV channel that is powered, enabled, routed to PCV and scaled. -/
def State.pcvValid (s : State) (i : Nat) : Bool :=
  s.cpm.vdda && s.b PCV_CTRL_EN && !s.toFcv i && s.r (PCV_GAIN_GAIN i) != 0

/-- The latest result of input `i`; a slot that names an FCV-routed input sets ROUTEERR (R143). -/
def State.pcvLatest (s : State) (i code : Nat) : State :=
  if s.toFcv i then (s.w PCV_STS_ROUTEERR 1).w (PCV_RES_VALID i) 0
  else
    let y := s.pcvValue i code
    (((s.wi (PCV_RES_VALUE i) y.1).wb (PCV_RES_SAT i) y.2).wb (PCV_RES_VALID i) (s.pcvValid i)).w (PCV_RES_STALE i) 0

/-- One Hall phase's average of the samples of its window: the mean of the corrected results. -/
def State.hallPhase (s : State) (n : Nat) (codes : List Nat) : State :=
  let i := s.r (hallInput n)
  let c := codes.length
  let sum := codes.foldl (fun a k => a + (s.pcvValue i k).1) 0
  let s := (s.wi (PCV_HALLR_VALUE n) (if c = 0 then 0 else roundDiv sum c)).w (PCV_HALLR_N n) (min 63 c)
  let atRail := codes.any (fun k => k == 0 || k == 4095)
  let s := if c ≠ 0 ∧ !atRail then s.modSense (fun x => { x with hallBad := bitClr x.hallBad n }) else s
  let s := if !bit s.sense.hallBad n && !bit (s.r PCV_STS_RANGE) n then s.autoClear Fid.hallRange n else s
  let s := s.wb (PCV_HALLR_RANGE n) (bit (s.r PCV_STS_RANGE) n)
  s.wb (PCV_HALLR_VALID n) (c != 0 && s.pcvValid i && !bit (s.r PCV_STS_RANGE) n && !bit s.sense.hallBad n)

/-- SDX publishes the Hall averages in fallback (R136) (DEDUCED, assumption 78). -/
def State.fallbackPublish (s : State) : State :=
  if s.b SDX_STS_FBACT then
    ([0, 1, 2].foldl (fun s n => s.sdxPublish n (s.ri (PCV_HALLR_VALUE n), false) (s.b (PCV_HALLR_VALID n)) true) s).w
      SDX_STAMP_TICK (s.r PCV_HSTAMP_TICK)
  else s

/-- The words that both cores read as they were latched at the tick boundary: the Hall averages and their stamp (R139). -/
def hallKey (k : Nat) : Bool := decide (32 * (PCV_HALLR_VALUE 0).addr ≤ k) && decide (k < 32 * (PCV_HSTAMP_TICK.addr + 4))

/-- A tick boundary latches them. -/
def State.hallLatch (s : State) : State :=
  { s with cores := { s.cores with hall := s.regs.filter (fun e => hallKey e.1) } }

/-- The registers with the latched words in place of the present ones. -/
def State.withHall (s : State) : State :=
  { s with regs := s.cores.hall.foldl (fun l e => sparseInsert l e.1 e.2) (s.regs.filter (fun e => !hallKey e.1)) }

/-! FCV (R140 to R143). -/

def State.fcvMod (s : State) (m : Nat) : FcvMod := if m = 0 then s.sense.fcv0 else s.sense.fcv1
def State.setFcv (s : State) (m : Nat) (x : FcvMod) : State :=
  s.modSense (fun y => if m = 0 then { y with fcv0 := x } else { y with fcv1 := x })

/-- A modulator starts: it powers up first where PDOWN, as it stands at the start, powers it down between scans (DEDUCED,
assumption 179). -/
def State.fcvBegin (s : State) (m : Nat) : State :=
  let s := s.setBit FCV_STS_BUSY m
  let down := bit (s.r FCV_CTRL_PDOWN) m
  s.setFcv m { s.fcvMod m with waiting := down, entry := if down then none else some (8 * m), discard := false
                               cont := bit (s.r FCV_CTRL_CONT) m }

/-- A start asked for: ignored during a scan, on a modulator not enabled, and in continuous mode (R140, R141). -/
def State.fcvAsk (s : State) (m : Nat) : State :=
  if bit (s.r FCV_CTRL_EN) m && !bit (s.r FCV_STS_BUSY) m && !bit (s.r FCV_CTRL_CONT) m then s.fcvBegin m else s

def scanField (m : Nat) : Fld := if m = 0 then FCV_SCAN_SCANO0 else FCV_SCAN_SCANO1
/-- DEDUCED, assumption 79. -/
def lastEntry (m : Nat) : Fld := if m = 0 then FCV_SCAN_NENT0 else FCV_SCAN_NENT1

/-- A modulator at an O boundary: the scan count, the end of a disabled one, and the start and the end of continuous mode; a scan
under way gives way to the first entry (R140). -/
def State.fcvOuterMod (s : State) (m : Nat) : State :=
  let x := s.fcvMod m
  if !bit (s.r FCV_CTRL_EN) m then (s.clrBit FCV_STS_BUSY m).setFcv m { x with entry := none, waiting := false, sinceScan := 0 }
  else
    let s := s.setFcv m { x with sinceScan := x.sinceScan + 1 }
    if !bit (s.r FCV_CTRL_CONT) m then
      if x.cont then (s.clrBit FCV_STS_BUSY m).setFcv m { s.fcvMod m with entry := none, waiting := false, cont := false } else s
    else if !bit (s.r FCV_STS_BUSY) m then s.fcvBegin m
    else if !x.cont then
      s.setFcv m { s.fcvMod m with cont := true, discard := false, entry := (s.fcvMod m).entry.map (fun _ => 8 * m) }
    else s

def State.fcvOuter (s : State) : State := if s.fcvLive then (s.fcvOuterMod 0).fcvOuterMod 1 else s

/-- The input an entry names; 20 to 31 act as 19 (R149). -/
def State.entInput (s : State) (e : Nat) : Nat := min 19 (s.r (FCV_ENT_INPUT e))

/-- The reference check (R142): VREF is the middle of the span (DEDUCED, assumption 80). -/
def State.vrefCheck (s : State) (x : Int) : State :=
  let y := roundDiv ((x - s.ri (FCV_OFS_OFS 17)) * s.kref) 16777216
  if y.natAbs * 100 ≤ 8388608 then (s.modSense (fun x => { x with refBad := false })).autoClear Fid.refCheck
  else
    let was := s.sense.refBad
    let s := s.modSense (fun x => { x with refBad := true })
    if was then s else (s.raise Fid.refCheck).pathCheck

/-- The next entry of a modulator's scan, or the scan's end (R140). -/
def State.fcvNext (s : State) (e : Nat) : State :=
  let m := e / 8
  let s := s.setFcv m { s.fcvMod m with discard := false }
  if (s.fcvMod m).cont then s
  else if s.r (lastEntry m) ≤ e % 8 then (s.clrBit FCV_STS_BUSY m).setFcv m { s.fcvMod m with entry := none }
  else s.setFcv m { s.fcvMod m with entry := some (e + 1) }

/-- An entry's conversion is complete (R140, R143, R144); one on an input rerouted meanwhile is discarded
(DEDUCED, assumption 79). -/
def State.fcvDone (s : State) (e code : Nat) : State :=
  if (s.fcvMod (e / 8)).discard then s.fcvNext e
  else
    let i := s.entInput e
    let x : Int := (code : Int) - 8388608
    let y := s.anaCorrect x (s.ri (FCV_OFS_OFS i)) (s.r (FCV_GAIN_GAIN i))
    let routed := 16 ≤ i || s.toFcv i
    let s := if routed then s else s.w FCV_STS_ROUTEERR 1
    let s := ((s.wi (FCV_RES_VALUE e) y.1).wb (FCV_RES_SAT e) y.2).bump (FCV_RES_SEQ e)
    let s := s.wb (FCV_RES_VALID e) (routed && s.cpm.vdda && s.r (FCV_GAIN_GAIN i) != 0)
    let s := if i = 17 ∧ s.cpm.vdda then s.vrefCheck x else s
    (s.fcvNext e).thmSensor e

/-- A change of PCV_ROUTE at an O boundary discards a conversion under way on an input that it reroutes (R143). -/
def State.rerouted (s old : State) : State :=
  [0, 1].foldl (fun s m =>
    match (s.fcvMod m).entry with
    | some e =>
      let i := old.entInput e
      if i < 16 ∧ s.toFcv i ≠ old.toFcv i then s.setFcv m { s.fcvMod m with discard := true } else s
    | none => s) s

/-! The meanings. -/

/-- The sum of fifteen bits with the weights 1, 2, …, 8, …, 2, 1 (R133). -/
def sinc2Sum : List Bool → Nat → Nat
  | [], _ => 0
  | b :: l, j => (if b then min (j + 1) (15 - j) else 0) + sinc2Sum l (j + 1)

/-- All fifteen bits of an output lie in leg `n`'s present window, at or after its start plus SETTLE (R133). -/
def State.sinc2Counts (s : State) (n : Nat) : Bool :=
  match (s.legWin n).since with
  | some b => decide (b + s.settleF + 14 * 320 ≤ s.nowF)
  | none => false

/-- SINC2_OUTPUT (R133): the newest bit of input A, B, C or VD was captured at `t`; the last edges of the two clocks. -/
def execSinc2Output (t : Nat) (n : Fin 4) (ck0 ck1 : List Word) (s : State) : Host.Outcome State Fault Refusal :=
  act s fun s =>
    let bits := s.capture n.val { ck0 := ck0, ck1 := ck1 }
    (s.at t).when (s.sdxLive && bit (s.r SDX_CTRL_EN) n.val && decide (15 ≤ bits.length)) fun s =>
    let d : Int := (sinc2Sum (bits.drop (bits.length - 15)) 0 : Int) - 32
    let beyond := if n.val < 3 then s.sinc2Counts n.val && decide (s.r SDX_OC_OCTH < d.natAbs)
      else decide ((s.r SDX_OC_OVTH : Int) < d)
    let q := if beyond then s.sense.qualified.getD n.val 0 + 1 else 0
    let up := decide (s.r SDX_OC_OCN + 1 ≤ q)
    let s := s.modSense (fun x => { x with qualified := setAt x.qualified n.val q })
    if n.val = 3 then (if up then s.tripActive 5 else s.tripInactive 5)
    else
      let s := s.modSense (fun x => { x with ocLegs := bitPut x.ocLegs n.val up })
      if up then s.tripActive 4 else if s.sense.ocLegs = 0 then s.tripInactive 4 else s

/-- The captured bits of input `n` end in STUCKN equal ones; 0 acts as 16 (R135, R147). -/
def State.stuck (s : State) (n : Nat) (x : Stream) : Bool :=
  let k := if s.r SDX_CHK_STUCKN = 0 then 16 else s.r SDX_CHK_STUCKN
  let bits := s.capture n x
  let l := bits.drop (bits.length - k)
  decide (k ≤ bits.length) && (l.all (· == true) || l.all (· == false))

/-- BITSTREAM_LOST (R135): no edge of an input's clock has been seen for 4 bit periods, or its last bits show no
transition. -/
def execBitstreamLost (seen : InputSeen) (s : State) : Host.Outcome State Fault Refusal :=
  act s fun s =>
    let n := seen.n
    s.when (s.sdxLive && bit (s.r SDX_CTRL_EN) n.val
        && (!s.clockOn n.val || decide (4 * 320 ≤ seen.quiet) || s.stuck n.val seen.x)) fun s =>
    let s := (s.setBit SDX_STS_BSLOST n.val).modSense (fun x => { x with lostNow := bitSet x.lostNow n.val })
    let s := s.w (SDX_RES_VALID n.val) 0
    if n.val < 3 then
      ((s.modSense (fun x => { x with cause := { x.cause with lost := true } })).raise Fid.shuntLost n.val).pathCheck
    else if n.val = 3 then (s.raise Fid.dcLinkLost).disSample
    else s.raise Fid.spareLost

/-- BITSTREAM_RESTORED (R146). -/
def execBitstreamRestored (n : Fin 6) (s : State) : Host.Outcome State Fault Refusal :=
  act s fun s => s.when s.sdxLive fun s =>
    let s := s.modSense (fun x => { x with lostNow := bitClr x.lostNow n.val })
    if 4 ≤ n.val ∧ !bit s.sense.lostNow 4 ∧ !bit s.sense.lostNow 5 then s.autoClear Fid.spareLost else s

/-- FALLBACK_RETURN (R137): the prediction cause ends, and with no other the next L boundary returns to the shunt path. -/
def execFallbackReturn (s : State) : Host.Outcome State Fault Refusal :=
  act s fun s =>
    s.when (s.sdxLive && s.b SDX_STS_FBACT && s.sense.cause.predict && !s.sense.cause.lost && !s.sense.cause.kres
        && decide (s.r SDX_FB_RETN ≤ s.sense.goodRun)) fun s =>
      (s.modSense (fun x => { x with cause := {} })).autoClear Fid.prediction

/-- SINGLE_PATH_TIMEOUT (R137). -/
def execSinglePathTimeout (s : State) : Host.Outcome State Fault Refusal :=
  act s fun s => s.when ((s.b SDX_STS_FBACT || s.hallFailed) && decide (10 * s.r SDX_FB_FBTMAX ≤ s.sense.singleMs)) fun s =>
    s.raise Fid.singlePath

/-- The effect of a write of SDX_CTRL.CAL (R145). -/
def State.writeCal (s : State) : State := if s.drv = .off then s.w SDX_STS_CALBUSY 1 else s.w SDX_STS_CALREF 1

/-- CAL (R145). -/
def execCal (who : Agent) (value : Bool) (s : State) : Host.Outcome State Fault Refusal :=
  act s fun s => s.when (value && s.sdxLive && s.mayWrite who SDX_CTRL_CAL) State.writeCal

/-- The mean of a bitstream as one window (R145). -/
def calRaw (ones : Nat) : Int := satI 24 ((2 * (ones : Int) - 65536) * 128)

/-- CAL_COMPLETE (R145): the ones among the 65,536 bits of each leg, and of each Hall input the sum and the number of its
codes. -/
def execCalComplete (t : Nat) (a b c : Fin 65537) (ha hb hc : Nat × Nat) (s : State) : Host.Outcome State Fault Refusal :=
  act s fun s => (s.at t).when (s.sdxLive && s.b SDX_STS_CALBUSY) fun s =>
    let s := [(0, a), (1, b), (2, c)].foldl (fun (s : State) (e : Nat × Fin 65537) =>
      if bit (s.r SDX_CTRL_EN) e.1 && s.clockOn e.1 then s.rws (SDX_OFS_OFS e.1) (bitsOf 24 (calRaw e.2.val)) else s) s
    let s := if s.pcvLive && s.b PCV_CTRL_EN then
        [(0, ha), (1, hb), (2, hc)].foldl (fun (s : State) (e : Nat × Nat × Nat) =>
          let (n, sum, k) := e
          if k = 0 then s
          else s.rws (PCV_OFS_OFS (s.r (hallInput n))) (bitsOf 24 (roundDiv (((sum : Int) - 2048 * k) * 4096) k))) s
      else s
    s.w SDX_STS_CALBUSY 0

/-- The input of slot `k` of PCV's sequence (R138). -/
def State.slotInput (s : State) (k : Nat) : Nat :=
  if k < 8 then s.r PCV_SEQ0_SLOT0_7 / 16 ^ k % 16 else s.r PCV_SEQ1_SLOT8_15 / 16 ^ (k - 8) % 16

/-- PCV's conversions, one every 25 ns, from slot `first` on: the input and the code of each, and twice its distance from the
tick boundary in ns, the first conversion lying `lead` ns before it (R138). -/
def State.conversions (s : State) (first lead : Nat) (codes : List (BitVec 12)) : List (Nat × Nat × Nat) :=
  codes.mapIdx fun i c =>
    (s.slotInput ((first + i) % (s.r PCV_CTRL_SEQLEN + 1)), c.toNat, (2 * ((i : Int) * 25 - lead)).natAbs)

/-- The latest result of every input that was converted. -/
def State.pcvLatestAll (s : State) (conv : List (Nat × Nat × Nat)) : State :=
  conv.foldl (fun s e => s.pcvLatest e.1 e.2.1) s

/-- HALL_AVERAGE (R138): PCV's conversions `before` and `after` the last tick boundary, from slot `first` at `lead` ns before
it on; the samples within ±HWIN/2 enter the averages (DEDUCED, assumption 78). -/
def execHallAverage (t : Nat) (first : Fin 16) (lead : Nat) (before after : List (BitVec 12)) (s : State) :
    Host.Outcome State Fault Refusal :=
  act s fun s => (s.at t).when (s.pcvLive && s.b PCV_CTRL_EN) fun s =>
    let conv := s.conversions first.val lead (before ++ after)
    let s := s.pcvLatestAll conv
    let s := s.w PCV_HSTAMP_TICK (s.r HOI_TICKCNT_TICKCNT)
    let near := conv.filter (fun e => decide (e.2.2 ≤ 25 * s.r PCV_HALL_HWIN))
    let s := [0, 1, 2].foldl (fun (s : State) (n : Nat) =>
      s.hallPhase n ((near.filter (fun e => e.1 == s.r (hallInput n))).map (fun e => e.2.1))) s
    s.when s.sdxLive State.fallbackPublish

/-- The last RANGEN codes of an input all lie at a rail; 0 acts as 1 (R139) (DEDUCED, assumption 78). -/
def State.atRail (s : State) (codes : List (BitVec 12)) : Bool :=
  let k := max 1 (s.r PCV_RANGE_RANGEN)
  decide (k ≤ codes.length) && (codes.drop (codes.length - k)).all (fun c => c == 0 || c == 4095)

/-- HALL_RANGE (R139): a phase and the last codes of its input. -/
def execHallRange (codes : Fin 3 × List (BitVec 12)) (s : State) : Host.Outcome State Fault Refusal :=
  act s fun s => s.when (s.pcvLive && s.b PCV_CTRL_EN && s.atRail codes.2) fun s =>
    let n := codes.1
    let s := ((s.setBit PCV_STS_RANGE n.val).w (PCV_HALLR_RANGE n.val) 1).w (PCV_HALLR_VALID n.val) 0
    ((s.modSense (fun x => { x with hallBad := bitSet x.hallBad n.val })).raise Fid.hallRange n.val).pathCheck

/-- PCV_OVERRUN (R64). -/
def execPcvOverrun (s : State) : Host.Outcome State Fault Refusal :=
  act s fun s => s.when (s.pcvLive && s.b PCV_CTRL_EN) fun s => (s.w PCV_STS_OVR 1).raise Fid.pcvOverrun

/-- FCV_SCAN_START (R140, R141): a scheduled start, or its skip with OVR. -/
def execFcvScanStart (m : Fin 2) (s : State) : Host.Outcome State Fault Refusal :=
  act s fun s =>
    let x := s.fcvMod m.val
    s.when (s.fcvLive && bit (s.r FCV_CTRL_EN) m.val && !bit (s.r FCV_CTRL_CONT) m.val && s.r (scanField m.val) != 0
        && decide (s.r (scanField m.val) ≤ x.sinceScan)) fun s =>
      let s := s.setFcv m.val { x with sinceScan := 0 }
      if bit (s.r FCV_STS_BUSY) m.val then s.setBit FCV_STS_OVR m.val else s.fcvBegin m.val

/-- The effect of a write of FCV_CTRL.START (R141). -/
def State.writeFcvStart (s : State) (mask : Nat) : State :=
  let s := if bit mask 0 then s.fcvAsk 0 else s
  if bit mask 1 then s.fcvAsk 1 else s

/-- FCV_START (R141). -/
def execFcvStart (who : Agent) (mask : BitVec 2) (s : State) : Host.Outcome State Fault Refusal :=
  act s fun s => s.when (s.fcvLive && s.mayWrite who FCV_CTRL_START) fun s => s.writeFcvStart mask.toNat

/-- FCV_READY (R141). -/
def execFcvReady (m : Fin 2) (s : State) : Host.Outcome State Fault Refusal :=
  act s fun s => s.when (s.fcvLive && (s.fcvMod m.val).waiting) fun s =>
    (s.setFcv m.val { s.fcvMod m.val with waiting := false, entry := some (8 * m.val), failed := false }).autoClear
      Fid.fcvStartup m.val

/-- FCV_STARTUP_TIMEOUT (R141). -/
def execFcvStartupTimeout (m : Fin 2) (s : State) : Host.Outcome State Fault Refusal :=
  act s fun s => s.when (s.fcvLive && (s.fcvMod m.val).waiting) fun s =>
    let s := s.setFcv m.val { s.fcvMod m.val with waiting := false, entry := none, failed := true }
    ((s.clrBit FCV_STS_BUSY m.val).setBit FCV_STS_SUERR m.val).raise Fid.fcvStartup m.val

/-- FCV_RESULT (R140): entry `e` completes with the codes of its 2^AVG results. -/
def execFcvResult (t : Nat) (e : Fin 16) (codes : List (BitVec 24)) (s : State) : Host.Outcome State Fault Refusal :=
  act s fun s => (s.at t).when (s.fcvLive && (s.fcvMod (e.val / 8)).entry == some e.val
      && codes.length == 2 ^ s.r (FCV_ENT_AVG e.val)) fun s =>
    let sum := codes.foldl (fun a c => a + c.toNat) 0
    s.fcvDone e.val (roundDiv (Int.ofNat sum) codes.length).toNat

end Sys2Proof.Machine
end

