-- ==== Sys2Proof/Machine/Cle.lean ====
section
/-!
DEFINITION. The Control Law Engine outside its arithmetic (R192 to R212): ports, instances and their triggers, program
enables, set-points, Bunting, self-checks, and the meanings of the block's commands. Times count u of 5 ns.
-/
namespace Sys2Proof.Machine

open Reg

def State.modCle (s : State) (f : Cle → Cle) : State := { s with cle := f s.cle }
/-- The engine's registers answer. -/
def State.cleOn (s : State) : Bool := s.live .cle && !s.tested 4
/-- The engine is clocked: its clock is gated outside RUN (R6, R50). -/
def State.cleLive (s : State) : Bool := s.cleOn && s.cpm.dev == .run

/-! Banks, slots, memory. -/

def State.bank (s : State) (n : Nat) : Bank :=
  if n = 0 then s.cle.bank0 else if n = 1 then s.cle.bank1 else if n = 2 then s.cle.bank2 else if n = 3 then s.cle.bank3
  else s.cle.bank4
def State.setBank (s : State) (n : Nat) (b : Bank) : State :=
  s.modCle (fun c => if n = 0 then { c with bank0 := b } else if n = 1 then { c with bank1 := b }
    else if n = 2 then { c with bank2 := b } else if n = 3 then { c with bank3 := b } else { c with bank4 := b })

def State.slot (s : State) (p : Nat) : Slot := s.cle.slots.toArray.getD p {}
def State.setSlot (s : State) (p : Nat) (x : Slot) : State :=
  s.modCle (fun c => { c with slots := Vector.ofFn (fun k : Fin 8 => if k.val = p then x else c.slots.toArray.getD k.val {}) })

def Bank.reg (b : Bank) (n : Nat) : Stage := b.s.toArray.getD n {}
def Bank.setReg (b : Bank) (n : Nat) (x : Stage) : Bank :=
  { b with s := Vector.ofFn (fun k : Fin 16 => if k.val = n then x else b.s.toArray.getD k.val {}) }
def Bank.ptr (b : Bank) (n : Nat) : Nat := (b.a.toArray.getD n 0).toNat
def Bank.setPtr (b : Bank) (n v : Nat) : Bank :=
  { b with a := Vector.ofFn (fun k : Fin 4 => if k.val = n then BitVec.ofNat 14 v else b.a.toArray.getD k.val 0) }

/-- The byte addresses of program and data memory. -/
def cleProgAddr (pc : Nat) : Nat := 0x30000000 + 4 * pc
def cleDataAddr (w : Nat) : Nat := 0x30004000 + 4 * w

/-- The stage at a data-memory word address (R181). -/
def State.loadStage (s : State) (w : Nat) : Stage :=
  ⟨Vector.ofFn (fun k : Fin 8 => BitVec.ofNat 24 (s.readLE (cleDataAddr (w + k.val)) 4)),
   BitVec.ofNat 6 (s.readLE (cleDataAddr w) 4 / 16777216)⟩

/-- Whole words written to CLE memory hold no error any more (R210). -/
def State.cleClean (s : State) (words : List Nat) : State :=
  s.modCle (fun c => { c with badWords := c.badWords.filter (fun w => !words.contains w)
                              softWords := c.softWords.filter (fun w => !words.contains w) })

/-- A stage stored at a data-memory word address (R181). -/
def State.storeStage (s : State) (w : Nat) (x : Stage) : State :=
  ((List.range 8).foldl (fun s k =>
    s.writeLE (cleDataAddr (w + k)) (bitsOf 24 (x.lane k) + (if k = 0 then 16777216 * x.e.toNat else 0)) 4) s).cleClean
      ((List.range 8).map (fun k => cleDataAddr (w + k)))

/-- A stage address is a multiple of 8 below 12,288 (R192). -/
def stageAddrOk (w : Nat) : Bool := w % 8 == 0 && decide (w < 12288)

/-- The eight words of a stage. -/
def stageWords (w : Nat) : List Nat := (List.range 8).map (fun k => cleDataAddr (w + k))

/-- One of the eight words at a data address holds an uncorrectable error (R210). -/
def State.badData (s : State) (w : Nat) : Bool :=
  (stageWords w).any s.cle.badWords.contains

/-- Words that the engine or a core reads: one with a turned bit is corrected, written back and counted (R210). -/
def State.cleCorrect (s : State) (words : List Nat) : State :=
  words.foldl (fun s w =>
    if s.cle.softWords.contains w then
      (s.modCle (fun c => { c with softWords := c.softWords.filter (· != w) })).bumpSat CLE_ECC_CECNT
    else s) s

/-- A program word holds an uncorrectable error (DESIGN CHOICE, assumption 8). -/
def State.badFetch (s : State) (pc : Nat) : Bool := s.cle.badWords.contains (cleProgAddr pc)

/-! Ports (R193 to R195). -/

/-- A stage of integers at e = 23. -/
def intStage (l : List Int) : Stage := Stage.mk' l 23

/-- A register word as its table shows it, without the fields that the bus computes. -/
def State.plainWord (s : State) (a : Nat) : Nat := (fieldsAt a).foldl (fun w f => w + s.r f * 2 ^ f.lo) 0

/-- One bit per leg of a field of SDX_RESA to SDX_RESC. -/
def State.legBits (s : State) (f : Nat → Fld) (ns : List Nat) : Int :=
  (ns.foldl (fun (a : Nat × Nat) n => (a.1 + (if s.b (f n) then 2 ^ a.2 else 0), a.2 + 1)) (0, 0)).1

/-- An active set-point (R203). -/
def State.setPoint (s : State) (n : Nat) : Stage :=
  ⟨Vector.ofFn (fun k : Fin 8 => BitVec.ofNat 24 (s.r (spFld n k.val))), BitVec.ofNat 6 (s.r (spFld n 8))⟩

/-- Input ports 0 to 6 as they stand (R193). -/
def State.inputPort (s : State) (p : Nat) : Stage :=
  match p with
  | 0 => intStage [s.ri (SDX_RES_VALUE 0), s.ri (SDX_RES_VALUE 1), s.ri (SDX_RES_VALUE 2),
      s.legBits SDX_RES_VALID [0, 1, 2] + 8 * s.legBits SDX_RES_SKIP [0, 1, 2] + 64 * s.legBits SDX_RES_FB [0, 1, 2]
        + 512 * s.legBits SDX_RES_STALE [0, 1, 2],
      (s.r SDX_STAMP_TICK % 8388608 : Nat), (s.r HOI_TICKCNT_TICKCNT % 8388608 : Nat)]
  | 1 => intStage [s.ri (SDX_RES_VALUE 3), s.ri (SDX_RES_VALUE 4), s.ri (SDX_RES_VALUE 5), s.legBits SDX_RES_VALID [3, 4, 5]]
  | 2 => intStage [s.ri (PCV_HALLR_VALUE 0), s.ri (PCV_HALLR_VALUE 1), s.ri (PCV_HALLR_VALUE 2),
      s.legBits PCV_HALLR_VALID [0, 1, 2], (s.r PCV_HSTAMP_TICK % 8388608 : Nat)]
  | 3 => Stage.mk' [s.ri POS_ELANG_ANGLE * 256] (-1)
  | 4 => (place ([⟨s.ri POS_SPDM_SPEED, 0, 1024, 0⟩, ⟨s.ri (POS_SPDW_SPEED 0), 0, 64, 0⟩, ⟨s.ri (POS_SPDW_SPEED 1), 0, 64, 0⟩]
      ++ List.replicate 5 (Exact.mk 0 0 1 0)) 0 true).1
  | 5 => intStage [(s.plainWord 0x40004004 % 16777216 : Nat), (s.plainWord 0x40007004 % 8388608 : Nat),
      (s.plainWord 0x400070A4 % 2097152 : Nat), (s.plainWord 0x400070B0 / 65536 % 32 : Nat)]
  | 6 => intStage [(s.tickF : Nat), (s.tickF : Nat)]
  | n => if 8 ≤ n ∧ n ≤ 15 then s.setPoint (n - 8) else {}

/-- The input and output ports that the spec defines (R193, R194). -/
def inputDefined (p : Nat) : Bool := decide (p ≤ 6) || (decide (8 ≤ p) && decide (p ≤ 15))
def outputDefined (p : Nat) : Bool := decide (p ≤ 1) || (decide (8 ≤ p) && decide (p ≤ 20))

/-- Port 0 with SKIP on every leg (R196). -/
def skipped (x : Stage) : Stage :=
  Stage.mk' ((List.range 8).map (fun k => if k = 3 then x.lane 3 + 8 * (7 - x.lane 3 / 8 % 8) else x.lane k)) x.exp

/-- Every input port, latched at a trigger. -/
def State.latchInputs (s : State) (noWindow : Bool) : List (Nat × Stage) :=
  [0, 1, 2, 3, 4, 5, 6, 8, 9, 10, 11, 12, 13, 14, 15].map (fun p =>
    (p, if p = 0 ∧ noWindow then skipped (s.inputPort 0) else s.inputPort p))

/-- The compare value of a duty (R195), for a mean tick length in f. -/
def compareOf (d : Exact) (t : Nat) : Nat :=
  if d.isNeg || d.isZero then 0x1FFFFF
  else if (Exact.ofInt 1).le d then 0
  else ((((Exact.ofInt 1).sub d).mul (Exact.ofInt t)).round).toNat

/-- The sign of a leg by port 1, in the code of PWM_ISIGN (R123, R195). -/
def signCode (x band : Exact) : Nat := if band.lt x then 1 else if x.lt band.neg then 2 else 0

/-- The release of one output port (R194). -/
def State.releasePort (s : State) (e : Nat × Stage) : State :=
  let (p, x) := e
  if p = 0 then
    let s := (List.range 3).foldl (fun s n => s.rws (PWM_CMP_CMP n) (compareOf (x.val n) s.tickF)) s
    s.modCle (fun c => { c with port0 := x })
  else if p = 1 then
    let b := (x.val 3).abs
    let s := s.rws PWM_ISIGN_SIGN (signCode (x.val 0) b + 4 * signCode (x.val 1) b + 16 * signCode (x.val 2) b)
    s.modCle (fun c => { c with port1 := x })
  else if p ≤ 15 then
    ((List.range 8).foldl (fun s k => s.rws (spFld (p - 8) k) (bitsOf 24 (x.lane k))) s).rws (spFld (p - 8) 8) x.e.toNat
  else if p ≤ 19 then
    s.modCle (fun c => { c with boxes := c.boxes.filter (fun b => b.1 != p - 16) ++ [(p - 16, x)] })
  else
    let s := s.modCle (fun c => { c with port20 := x })
    { s with sss := { s.sss with port20 := true, portAt := s.nowU } }

/-- A FIRST instance of the thermal program, the one that releases port 19, seeds the power-stage model, and its offset is 0
again (R423, R425). -/
def State.seedPower (s : State) (i : Instance) : State :=
  if i.first && i.outputs.any (fun e => e.1 == 19) then { s with thm := { s.thm with pOfs := 0 } } else s

/-- The mailboxes become readable at an L boundary (R194). -/
def State.cleLoop (s : State) : State :=
  if s.cleLive then
    let s := s.cle.boxes.foldl (fun s b =>
      let s := (List.range 8).foldl (fun s k => s.w (CLE_MBOX_M b.1 k) (bitsOf 24 (b.2.lane k))) s
      (s.w (CLE_MBOX8_E b.1) b.2.e.toNat).bump (CLE_MBOX8_SEQ b.1)) s
    s.modCle (fun c => { c with boxes := [] })
  else s

/-! Instances (R196 to R200). -/

def State.prio (s : State) (p : Nat) : Nat := s.r (CLE_PCFG_PRIO p)

/-- A program may trigger (R200, R201). -/
def State.cleEnabled (s : State) (p : Nat) : Bool :=
  s.b CLE_CTRL_RUN && (s.slot p).enabled && !(s.slot p).refused

/-- The output point of an instance, in u: BUD × 40 ns, where 0 acts as 1. -/
def State.outPoint (s : State) (i : Instance) : Nat := i.trig + 8 * max 1 (s.r (CLE_PTIM_BUD i.prog))

/-- Bunting's values of an instance of the PACE program. -/
def State.bRun (s : State) : Bool := s.r CLE_BSTS_STATE == 2

/-- AMP as an exact value; a NaN or an infinity is no amplitude the spec gives a meaning to. -/
def State.bAmp (s : State) : Exact :=
  let w := s.r CLE_BAMP_AMP
  match F32.ofBits w with
  | .fin n m e => ⟨if n then -(m : Int) else m, 0, 1, e⟩
  | _ => ⟨(Config.outOfRange CLE_BAMP_AMP.key w : Int), 0, 1, -23⟩

/-- J = NS × DEC. -/
def State.bTotal (s : State) : Nat := (s.r CLE_BPAR_NSM1 + 1) * (s.r CLE_BPAR_DECM1 + 1)

/-- The trigger period of a program in u (R196): its level's period, or the carrier or tick for SDX publication. -/
def State.levelU (s : State) (l : Level) : Nat :=
  match l with
  | .T => s.tickU
  | .C => 2 * s.tickU
  | .L => s.loopU
  | .O => s.outerU
  | .H => s.ringU

/-- TLEV as a level: codes beyond 4 act as L. -/
def tlevOf (n : Nat) : Level := if n = 0 then .T else if n = 1 then .C else if n = 3 then .O else if n = 4 then .H else .L

def State.progPeriod (s : State) (p : Nat) : Nat :=
  (if s.b (CLE_PCFG_TSRC p) then 1 else s.r (CLE_PTIM_DIV p) + 1) * s.levelU (tlevOf (s.r (CLE_PCFG_TLEV p)))

/-- f_j of the sweep as (m, x) with the value m × 2^x Hz: F0 × (F1 ÷ F0)^(j ÷ (J − 1)), F0 when J = 1; none where F0 or F1 gives
no such value (R207). -/
def sweepFreq (f0 f1 j total : Nat) : Option (Int × Int) :=
  match F32.ofBits f0, F32.ofBits f1 with
  | .fin n0 m0 e0, .fin n1 m1 e1 =>
    let sign := fun (m : Nat) => if n0 then -(m : Int) else m
    if total = 1 ∨ j = 0 then some (sign m0, e0)
    else if m0 = 0 ∨ m1 = 0 ∨ n0 ≠ n1 then none
    else
      let ratio := logTwo m1 - logTwo m0 + 1099511627776 * (e1 - e0)
      let y := ratio * j / (total - 1 : Nat)
      some (sign (m0 * powTwo (y % 1099511627776).toNat), e0 + y / 1099511627776 - 60)
  | _, _ => none

/-- The phase that the sweep advances by at instance j, in 2⁻⁴⁸ turns: f_j × T_p (DEDUCED, assumption 18). -/
def State.sweepStep (s : State) (j : Nat) : Int :=
  let u := s.progPeriod (s.r CLE_BCTRL_PACE)
  match sweepFreq (s.r CLE_BF0_F0) (s.r CLE_BF1_F1) j s.bTotal with
  | some (m, x) =>
    let v := m * u * 281474976710656
    if 0 ≤ x then roundDiv (v * 2 ^ x.toNat) 200000000 else roundDiv v (200000000 * 2 ^ (-x).toNat)
  | none => Config.outOfRange CLE_BF0_F0.key (s.r CLE_BF0_F0)

/-- v_j of the signal at the present instance (R207) (DEDUCED, assumption 90). -/
def State.bValue (s : State) : Exact :=
  let b := s.cle.bunting
  match s.r CLE_BCTRL_SIG with
  | 1 => s.bAmp.mul ⟨sine (b.phaseNum / 65536 % 4294967296).toNat, 0, 1, -30⟩
  | 2 => if b.j < s.r CLE_BPAR_HOLD then {} else s.bAmp
  | 3 => if b.lfsr.getLsbD 14 then s.bAmp else s.bAmp.neg
  | _ => {}

/-- Bunting after one PACE instance: the sweep's phase, the LFSR, the index
(DEDUCED, assumption 18, assumption 90). -/
def State.bAdvance (s : State) : State :=
  let b := s.cle.bunting
  let step := if s.r CLE_BCTRL_SIG = 1 then s.sweepStep b.j else 0
  let fb := b.lfsr.getLsbD 14 != b.lfsr.getLsbD 13
  let next := (b.lfsr <<< 1) ||| (if fb then 1 else 0)
  let turn := (b.j + 1) % (s.r CLE_BPAR_HOLD + 1) == 0
  s.modCle (fun c => { c with bunting := { b with j := b.j + 1, phaseNum := b.phaseNum + step
                                                  lfsr := if turn then next else b.lfsr, seen := [] } })

/-- A channel of a record (R208). -/
def State.bChannel (s : State) (n : Nat) : Nat :=
  if !s.b (CLE_BCAP_EN n) then 0
  else match s.cle.bunting.seen.find? (fun x => x.1 == s.r (CLE_BCAP_NODE n)) with
    | some x => if s.b (CLE_BCAP_PRE n) then x.2.1.toNat else x.2.2.toNat
    | none => 0x7FC00000

/-- A free number of the records on their way reaches SRAM (R208) (DESIGN CHOICE, assumption 89). -/
def State.drainRecords (s : State) : State :=
  if s.cle.records.isEmpty then s
  else
    let (x, s) := s.freeNat
    let n := x % (s.cle.records.length + 1)
    let s := (s.cle.records.take n).foldl (fun s r =>
      (List.range 4).foldl (fun s k => s.writeLE (r.1 + 4 * k) (r.2.getD k 0) 4) s) s
    s.modCle (fun c => { c with records := c.records.drop n })

/-- A record enters the FIFO of 16; when it is full the record is dropped (R208). -/
def State.pushRecord (s : State) (a : Nat) (l : List Nat) : State :=
  let s := s.drainRecords
  if 16 ≤ s.cle.records.length then (s.w CLE_BSTS_OVF 1).raise Fid.buntingOverflow
  else (s.modCle (fun c => { c with records := c.records ++ [(a, l)] })).w CLE_BSTS_NCAP (s.r CLE_BSTS_NCAP + 1)

/-- The end of a PACE instance that began in Bunting's run: its record when it is due, and the next index; NS records complete
the capture. -/
def State.bInstance (s : State) (i : Instance) : State :=
  if s.bRun && i.inj && i.prog == s.r CLE_BCTRL_PACE then
    let b := s.cle.bunting
    let s := if (b.j + 1) % (s.r CLE_BPAR_DECM1 + 1) = 0 then
        (s.pushRecord (s.r CLE_BBUF_BASE / 16 * 16 + 16 * b.nrec) ((List.range 4).map s.bChannel)).modCle
          (fun c => { c with bunting := { c.bunting with nrec := b.nrec + 1 } })
      else s
    let s := s.bAdvance
    if s.r CLE_BPAR_NSM1 + 1 ≤ s.cle.bunting.nrec then s.w CLE_BSTS_STATE 3 else s
  else s

/-- A PACE instance is triggered: Bunting begins when it waits for it. -/
def State.bBegin (s : State) : State :=
  if s.r CLE_BSTS_STATE = 1 ∧ (!s.b CLE_BCTRL_TRIG || s.cle.bunting.sawH) then
    (s.w CLE_BSTS_STATE 2).modCle (fun c => { c with bunting := {} })
  else s

/-- Start the instance at the head of the waiting ones that outranks the running one (R197); `n` bounds the starts. -/
def State.cleSchedule (s : State) : Nat → State
  | 0 => s
  | n + 1 =>
    let best := s.cle.waiting.foldl (fun (a : Option Instance) i => match a with
      | none => some i
      | some j => if s.prio i.prog < s.prio j.prog then some i else some j) none
    match best with
    | none => s
    | some i =>
      let may := match s.cle.started with
        | [] => true
        | j :: _ => decide (s.prio i.prog < s.prio j.prog)
      if may then
        let k := s.prio i.prog
        let s := s.modCle (fun c => { c with waiting := c.waiting.erase i, started := { i with inj := s.bRun } :: c.started })
        (s.setBank k { s.bank k with a := Vector.replicate 4 0, c := 0 }).cleSchedule n
      else s

/-- A miss (R199). -/
def State.cleMiss (s : State) (p : Nat) : State :=
  let s := ((s.w (CLE_PFLG_DLMISS p) 1).bumpSat (CLE_PFLG_MISSCNT p))
  let n := min 15 (s.r (CLE_PFLG_CONSEC p) + 1)
  let s := s.w (CLE_PFLG_CONSEC p) n
  if s.b (CLE_PCFG_CURLOOP p) then (if n = 3 then s.raise Fid.curLoopDeadline else s)
  else if n = max 1 (s.r (CLE_PTIM_MISSN p)) then s.raise Fid.cleDeadline p else s

/-- Insert a waiting instance in trigger order, the lower program first at one instant. -/
def insertWaiting (i : Instance) : List Instance → List Instance
  | [] => [i]
  | j :: l => if i.trig = j.trig ∧ i.prog < j.prog then i :: j :: l else j :: insertWaiting i l

/-- An instance that has started at this very instant and has executed nothing waits again when an equal one of a lower program
triggers at the same instant (R197). -/
def State.cleYield (s : State) (i : Instance) : State :=
  match s.cle.started with
  | j :: rest =>
    if j.trig = i.trig ∧ s.prio j.prog = s.prio i.prog ∧ i.prog < j.prog ∧ j.pc = s.r (CLE_PCFG_ENTRY j.prog) then
      s.modCle (fun c => { c with started := rest, waiting := insertWaiting j c.waiting })
    else s
  | [] => s

/-- A trigger (R196 to R198): ports latched, an older waiting instance replaced and missed. -/
def State.cleTrigger (s : State) (p : Nat) : State :=
  let first := bit (s.r CLE_STS_FIRST) p
  let bare := (s.slot p).noWindow
  let s := (s.clrBit CLE_STS_FIRST p).setSlot p { s.slot p with due := none, noWindow := false }
  let old := s.cle.waiting.any (fun i => i.prog == p)
  let s := s.modCle (fun c => { c with waiting := c.waiting.filter (fun i => i.prog != p) })
  let s := if old then s.cleMiss p else s
  let i : Instance := ⟨p, s.r (CLE_PCFG_ENTRY p), s.nowU, first, s.latchInputs bare, [], false⟩
  let s := (s.cleYield i).modCle (fun c => { c with waiting := insertWaiting i c.waiting })
  let s := if p = s.r CLE_BCTRL_PACE then s.bBegin else s
  s.cleSchedule 4

/-- The instances of a program leave; a waiting one too. -/
def State.cleDrop (s : State) (p : Nat) : State :=
  s.modCle (fun c => { c with waiting := c.waiting.filter (fun i => i.prog != p)
                              started := c.started.filter (fun i => i.prog != p) })

/-- A program is disabled: PEN cleared, its waiting instance dropped; Bunting that it paces is aborted (R200, R209). -/
def State.cleDisable (s : State) (p : Nat) : State :=
  let s := (s.clrBit CLE_CTRL_PEN p).setSlot p { s.slot p with enabled := false, enabling := false, due := none, noWindow := false }
  let s := s.modCle (fun c => { c with waiting := c.waiting.filter (fun i => i.prog != p) })
  if p = s.r CLE_BCTRL_PACE then s.buntingAbort else s

/-- A program fault of the running instance (R192). -/
def State.cleFault (s : State) (p code : Nat) : State :=
  let s := (s.cleDrop p).cleDisable p
  (((s.w (CLE_PFLG_PFAULT p) 1).w (CLE_PFLG_PFCODE p) code).raise Fid.programFault p).cleSchedule 4

/-- An uncorrectable error in a fetch or a load: its flag, its own fault and the program fault (R210). -/
def State.cleUncorrectable (s : State) (p : Nat) (prog : Bool) : State :=
  ((if prog then s.w CLE_ECC_UEP 1 else s.w CLE_ECC_UED 1).raise Fid.cleMemory).cleFault p 5

/-! Executing one instruction. -/

/-- What an instruction does: the stage it writes, its flags, the mask, a pointer, a store, an output, a jump, a fault
code; code 5 is a load's uncorrectable error; `reads` are the words it loads. -/
structure CleDo where
  dst : Option (Nat × Stage) := none
  flags : ArithFlags := {}
  mask : Option (BitVec 8) := none
  ptr : Option (Nat × Nat) := none
  store : Option (Nat × Stage) := none
  out : Option (Nat × Stage) := none
  jump : Option Nat := none
  fault : Option Nat := none
  reads : List Nat := []

/-- A lane value as binary32. -/
def laneF32 (x : Stage) (k : Nat) : Word :=
  let m := x.lane k
  BitVec.ofNat 32 (f32Round 0 (decide (m < 0)) m.natAbs 1 (x.exp - 23)).1

/-- Injection at one node: the signal added to its lane at the result's exponent, and whether it saturates (R206). -/
def injectLane (x : Stage) (k : Nat) (v : Exact) : Stage × Bool :=
  let m := ((x.val k).add v).atExp x.exp
  (Stage.mk' (setAt ((List.range 8).map x.lane) k (satMant m)) x.exp, decide (8388607 < m.natAbs))

/-- The nodes at an instruction of an instance that started while Bunting ran: captured, and injected where INJ says so (R206,
R209). -/
def State.atNodes (s : State) (inst : Instance) (x : Stage) : State × Stage :=
  if !inst.inj then (s, x)
  else (List.range 8).foldl (fun (a : State × Stage) n =>
    let (s, x) := a
    if s.b (CLE_BNODE_VALID n) && !bit s.cle.badNodes n && s.r (CLE_BNODE_PROG n) == inst.prog && s.r (CLE_BNODE_ADDR n) == inst.pc then
      let k := s.r (CLE_BNODE_LANE n)
      let pre := laneF32 x k
      let (y, sat) := if bit (s.r CLE_BCTRL_INJ) n then injectLane x k s.bValue else (x, false)
      let s := if sat then s.w (CLE_PFLG_SAT inst.prog) 1 else s
      (s.modCle (fun c => { c with bunting := { c.bunting with seen := c.bunting.seen.filter (fun e => e.1 != n) ++ [(n, pre, laneF32 y k)] } }), y)
    else (s, x)) (s, x)

/-- The sticky flags of a program (R184). -/
def State.cleFlags (s : State) (p : Nat) (f : ArithFlags) : State :=
  let s := if f.sat then s.w (CLE_PFLG_SAT p) 1 else s
  let s := if f.eov then s.w (CLE_PFLG_EOV p) 1 else s
  if f.euf then s.w (CLE_PFLG_EUF p) 1 else s

/-- An instruction's effect on the running instance and its bank. -/
def State.cleApply (s : State) (i : Instance) (rest : List Instance) (o : CleDo) : State :=
  let k := s.prio i.prog
  let s := s.cleCorrect o.reads
  let (s, dst) := match o.dst with
    | some (d, x) => let (s, x) := s.atNodes i x; (s, some (d, x))
    | none => (s, none)
  let (s, store) := match o.store with
    | some (w, x) => let (s, x) := s.atNodes i x; (s, some (w, x))
    | none => (s, none)
  let (s, out) := match o.out with
    | some (p, x) => let (s, x) := s.atNodes i x; (s, some (p, x))
    | none => (s, none)
  let s := s.cleFlags i.prog o.flags
  let b := s.bank k
  let b := match dst with | some (d, x) => b.setReg d x | none => b
  let b := match o.mask with | some c => { b with c := c } | none => b
  let b := match o.ptr with | some (p, v) => b.setPtr p v | none => b
  let s := s.setBank k b
  let s := match store with | some (w, x) => s.storeStage w x | none => s
  let outs := match out with
    | some (p, x) => i.outputs.filter (fun e => e.1 != p) ++ [(p, x)]
    | none => i.outputs
  let i := { i with pc := o.jump.getD (i.pc + 1), outputs := outs }
  s.modCle (fun c => { c with started := i :: rest })

/-- The running instance executes an instruction, whose fetch comes first (R192, R210) (DESIGN CHOICE, assumption 8). -/
def State.cleStep (s : State) (f : State → Instance → Bank → CleDo) : State :=
  if !s.cleLive then s
  else match s.cle.started with
    | [] => s
    | i :: rest =>
      if 4096 ≤ i.pc then s.cleFault i.prog 6
      else if s.badFetch i.pc then s.cleUncorrectable i.prog true
      else
        let s := s.cleCorrect [cleProgAddr i.pc]
        let o := f s i (s.bank (s.prio i.prog))
        match o.fault with
        | some 5 => (s.cleCorrect o.reads).cleUncorrectable i.prog false
        | some c => (s.cleCorrect o.reads).cleFault i.prog c
        | none => s.cleApply i rest o

/-- Instructions of the forms sD := f(sA, sB, sC, sD), with their flags. -/
def cleArith (d : Fin 16) (r : Stage × ArithFlags) : CleDo := { dst := some (d.val, r.1), flags := r.2 }
def cleArithC (d : Fin 16) (r : Stage × ArithFlags × BitVec 8) : CleDo := { dst := some (d.val, r.1), flags := r.2.1, mask := some r.2.2 }

/-! The meanings of the instructions (R186). -/

/-- NOP. -/
def execCleNop (s : State) : Host.Outcome State Fault Refusal := act s fun s => s.cleStep fun _ _ _ => {}

/-- END (R194, R199): the outputs are released together; past the output point the instance is a miss (DEDUCED, assumption 88). -/
def execCleEnd (t : Nat) (s : State) : Host.Outcome State Fault Refusal :=
  act s fun s => (s.at t).when s.cleLive fun s =>
    match s.cle.started with
    | [] => s
    | i :: rest =>
      if 4096 ≤ i.pc then s.cleFault i.prog 6
      else if s.badFetch i.pc then s.cleUncorrectable i.prog true
      else
        let s := (s.cleCorrect [cleProgAddr i.pc]).modCle (fun c => { c with started := rest })
        let s := if s.outPoint i < s.nowU then s.cleMiss i.prog
          else (((i.outputs.foldl State.releasePort s).seedPower i).w (CLE_PFLG_CONSEC i.prog) 0).autoClear Fid.cleDeadline i.prog
        (s.bInstance i).cleSchedule 4

/-- Whether a branch is taken (R186); none for the illegal mode. -/
def branchTaken (mode lane : Nat) (c : BitVec 8) (first : Bool) : Option Bool :=
  match mode with
  | 0 => some true
  | 1 => some (c.getLsbD lane)
  | 2 => some (!c.getLsbD lane)
  | 3 => some (c == 0)
  | 4 => some (c != 0)
  | 5 => some first
  | 6 => some (!first)
  | _ => none

/-- BR (R186, R192). -/
def execCleBr (mode lane : Fin 8) (target : BitVec 12) (s : State) : Host.Outcome State Fault Refusal :=
  act s fun s => s.cleStep fun _ i b =>
    match branchTaken mode.val lane.val b.c i.first with
    | none => { fault := some 1 }
    | some taken => if target.toNat ≤ i.pc then { fault := some 2 } else if taken then { jump := some target.toNat } else {}

/-- SETP. -/
def execCleSetp (p : Fin 4) (ofs : BitVec 14) (s : State) : Host.Outcome State Fault Refusal :=
  act s fun s => s.cleStep fun _ _ _ => { ptr := some (p.val, ofs.toNat) }

/-- The pointer after an access with INC. -/
def incPtr (p : Fin 4) (inc : Bool) (b : Bank) : Option (Nat × Nat) := if inc then some (p.val, b.ptr p.val + 8) else none

/-- LD. -/
def execCleLd (d : Fin 16) (p : Fin 4) (inc : Bool) (ofs : BitVec 14) (s : State) : Host.Outcome State Fault Refusal :=
  act s fun s => s.cleStep fun s _ b =>
    let w := b.ptr p.val + ofs.toNat
    if !stageAddrOk w then { fault := some 3 }
    else if s.badData w then { fault := some 5 }
    else { dst := some (d.val, s.loadStage w), ptr := incPtr p inc b, reads := stageWords w }

/-- ST. -/
def execCleSt (d : Fin 16) (p : Fin 4) (inc : Bool) (ofs : BitVec 14) (s : State) : Host.Outcome State Fault Refusal :=
  act s fun s => s.cleStep fun _ _ b =>
    let w := b.ptr p.val + ofs.toNat
    if !stageAddrOk w then { fault := some 3 } else { store := some (w, b.reg d.val), ptr := incPtr p inc b }

/-- LDI. -/
def execCleLdi (d : Fin 16) (e : BitVec 6) (imm : BitVec 16) (s : State) : Host.Outcome State Fault Refusal :=
  act s fun s => s.cleStep fun _ _ _ => { dst := some (d.val, Stage.mk' (List.replicate 8 (imm.toInt * 256)) e.toInt) }

/-- IN (R193). -/
def execCleIn (d : Fin 16) (port : Fin 32) (s : State) : Host.Outcome State Fault Refusal :=
  act s fun s => s.cleStep fun _ i _ =>
    if inputDefined port.val then { dst := some (d.val, ((i.inputs.find? (fun e => e.1 == port.val)).map (·.2)).getD {}) }
    else { fault := some 4 }

/-- OUT (R194). -/
def execCleOut (a : Fin 16) (port : Fin 32) (s : State) : Host.Outcome State Fault Refusal :=
  act s fun s => s.cleStep fun _ _ b =>
    if outputDefined port.val then { out := some (port.val, b.reg a.val) } else { fault := some 4 }

/-- MOV. -/
def execCleMov (d a : Fin 16) (s : State) : Host.Outcome State Fault Refusal :=
  act s fun s => s.cleStep fun _ _ b => { dst := some (d.val, b.reg a.val) }

/-- LANE. -/
def execCleLane (d a : Fin 16) (n : Bool) (la lb : Fin 8) (s : State) : Host.Outcome State Fault Refusal :=
  act s fun s => s.cleStep fun _ _ b => cleArith d (aluLane (b.reg d.val) (b.reg a.val) la.val lb.val n)

/-- SCL. Format K has no N field. -/
def execCleScl (d a : Fin 16) (k : BitVec 6) (s : State) : Host.Outcome State Fault Refusal :=
  act s fun s => s.cleStep fun _ _ b => cleArith d (aluScl (b.reg a.val) k.toInt false)

/-- NRM (R183). -/
def execCleNrm (d a : Fin 16) (s : State) : Host.Outcome State Fault Refusal :=
  act s fun s => s.cleStep fun _ _ b => cleArith d (aluNrm (b.reg a.val))

/-- ADD, SUB, MUL, MAC of R186. -/
def execCleAdd (d a b : Fin 16) (n : Bool) (s : State) : Host.Outcome State Fault Refusal :=
  act s fun s => s.cleStep fun _ _ k => cleArith d (aluAdd (k.reg a.val) (k.reg b.val) n)
def execCleSub (d a b : Fin 16) (n : Bool) (s : State) : Host.Outcome State Fault Refusal :=
  act s fun s => s.cleStep fun _ _ k => cleArith d (aluSub (k.reg a.val) (k.reg b.val) n)
def execCleMul (d a b : Fin 16) (n : Bool) (s : State) : Host.Outcome State Fault Refusal :=
  act s fun s => s.cleStep fun _ _ k => cleArith d (aluMul (k.reg a.val) (k.reg b.val) n)
def execCleMac (d a b : Fin 16) (n : Bool) (s : State) : Host.Outcome State Fault Refusal :=
  act s fun s => s.cleStep fun _ _ k => cleArith d (aluMac (k.reg d.val) (k.reg a.val) (k.reg b.val) n)

/-- MACB. -/
def execCleMacb (d a b : Fin 16) (n : Bool) (lb : Fin 8) (s : State) : Host.Outcome State Fault Refusal :=
  act s fun s => s.cleStep fun _ _ k => cleArith d (aluMacb (k.reg d.val) (k.reg a.val) (k.reg b.val) lb.val n)

/-- SEL. -/
def execCleSel (d a b : Fin 16) (n : Bool) (s : State) : Host.Outcome State Fault Refusal :=
  act s fun s => s.cleStep fun _ _ k => cleArith d (aluSel (k.reg a.val) (k.reg b.val) k.c n)

/-- CMP. -/
def execCleCmp (a b : Fin 16) (cc : Fin 8) (s : State) : Host.Outcome State Fault Refusal :=
  act s fun s => s.cleStep fun _ _ k => { mask := some (aluCmp (k.reg a.val) (k.reg b.val) cc.val) }

/-- LIM. -/
def execCleLim (d a b c : Fin 16) (n : Bool) (s : State) : Host.Outcome State Fault Refusal :=
  act s fun s => s.cleStep fun _ _ k => cleArithC d (aluLim (k.reg a.val) (k.reg b.val) (k.reg c.val) n)

/-- RMP (R188). -/
def execCleRmp (d a b c : Fin 16) (n : Bool) (s : State) : Host.Outcome State Fault Refusal :=
  act s fun s => s.cleStep fun _ i k => cleArithC d (aluRmp (k.reg d.val) (k.reg a.val) (k.reg b.val) (k.reg c.val) i.first n)

/-- PI (R189). -/
def execClePi (d a b c : Fin 16) (n : Bool) (s : State) : Host.Outcome State Fault Refusal :=
  act s fun s => s.cleStep fun _ _ k => cleArithC d (aluPi (k.reg d.val) (k.reg a.val) (k.reg b.val) (k.reg c.val) n)

/-- TLU (R190): the table lies at a_P; its header, then N + 1 entries, of which it reads what the operand needs. -/
def execCleTlu (d a : Fin 16) (p : Fin 4) (n : Bool) (la : Fin 8) (s : State) : Host.Outcome State Fault Refusal :=
  act s fun s => s.cleStep fun s _ k =>
    let w := k.ptr p.val
    if !stageAddrOk w then { fault := some 3 }
    else if s.badData w then { fault := some 5 }
    else
      let head := s.readLE (cleDataAddr w) 4
      let nn := max 1 (head % 512)
      let e := signedOf 6 (head / 512)
      let at' := fun (i : Nat) => w + 8 * (i + 1)
      let (i, j) := tluSpan ((k.reg a.val).val la.val) nn
      if !stageAddrOk (at' j) then { fault := some 3, reads := stageWords w }
      else if s.badData (at' i) || s.badData (at' j) then { fault := some 5, reads := stageWords w }
      else { cleArithC d (aluTlu (fun i => s.loadStage (at' i)) nn e (k.reg a.val) la.val n) with
               reads := stageWords w ++ stageWords (at' i) ++ stageWords (at' j) }

/-- CLK, ICK, PRK, IPK (R187). -/
def execCleClk (d a : Fin 16) (n : Bool) (s : State) : Host.Outcome State Fault Refusal :=
  act s fun s => s.cleStep fun _ _ k => cleArith d (aluClk (k.reg a.val) n)
def execCleIck (d a : Fin 16) (n : Bool) (s : State) : Host.Outcome State Fault Refusal :=
  act s fun s => s.cleStep fun _ _ k => cleArith d (aluIck (k.reg a.val) n)
def execClePrk (d a b : Fin 16) (n : Bool) (s : State) : Host.Outcome State Fault Refusal :=
  act s fun s => s.cleStep fun _ _ k => cleArith d (aluPrk (k.reg a.val) (k.reg b.val) n)
def execCleIpk (d a b : Fin 16) (n : Bool) (s : State) : Host.Outcome State Fault Refusal :=
  act s fun s => s.cleStep fun _ _ k => cleArith d (aluIpk (k.reg a.val) (k.reg b.val) n)

/-- SCS (R187). -/
def execCleScs (d a : Fin 16) (la : Fin 8) (s : State) : Host.Outcome State Fault Refusal :=
  act s fun s => s.cleStep fun _ _ k => { dst := some (d.val, aluScs (k.reg a.val) la.val) }

/-- SVM (R191). -/
def execCleSvm (d a : Fin 16) (b : Fin 16 × Fin 8) (n : Bool) (s : State) : Host.Outcome State Fault Refusal :=
  act s fun s => s.cleStep fun _ _ k => cleArithC d (aluSvm (k.reg a.val) (k.reg b.1.val) b.2.val n)

/-- Opcodes that R186 lists. -/
def cleOpcodes : List Nat :=
  [0, 1, 2, 3, 4, 5, 6, 7, 8, 9, 10, 11, 12, 0x10, 0x11, 0x12, 0x13, 0x14, 0x15, 0x16, 0x17, 0x18, 0x19, 0x1A,
   0x20, 0x21, 0x22, 0x23, 0x24, 0x25]

/-- CLE_ILLEGAL_OPCODE (R192): the opcode that the fetch delivers, or a fetch at or beyond 4,096. -/
def execCleIllegalOpcode (op : BitVec 6) (s : State) : Host.Outcome State Fault Refusal :=
  act s fun s => s.when s.cleLive fun s =>
    match s.cle.started with
    | [] => s
    | i :: _ =>
      if 4096 ≤ i.pc then s.cleFault i.prog 6
      else if s.badFetch i.pc then s.cleUncorrectable i.prog true
      else if cleOpcodes.contains op.toNat then s
      else (s.cleCorrect [cleProgAddr i.pc]).cleFault i.prog 1

/-! The meanings of the engine's other commands. -/

/-- A trigger of a program is due now. -/
def State.trigDue (s : State) (p : Nat) : Bool :=
  match (s.slot p).due with
  | some a => decide (a ≤ s.nowU)
  | none => false

/-- PROGRAM_TRIGGER (R196): a TSRC = 0 program at a boundary that its count makes due, a TSRC = 1 one at what makes it due. -/
def execProgramTrigger (t : Nat) (p : Fin 8) (s : State) : Host.Outcome State Fault Refusal :=
  act s fun s => (s.at t).when (s.cleLive && s.cleEnabled p.val && (s.at t).trigDue p.val) fun s => s.cleTrigger p.val

/-- OUTPUT_POINT (R198): the oldest instance of a program that is past its output point is aborted. -/
def execOutputPoint (t : Nat) (p : Fin 8) (s : State) : Host.Outcome State Fault Refusal :=
  act s fun s => (s.at t).when s.cleLive fun s =>
    let late (i : Instance) : Bool := i.prog == p.val && decide (s.outPoint i ≤ s.nowU)
    match s.cle.started.find? late with
    | some i =>
      let s := (s.modCle (fun c => { c with started := c.started.erase i })).cleMiss p.val
      (s.bInstance i).cleSchedule 4
    | none =>
      match s.cle.waiting.find? late with
      | some i => (s.modCle (fun c => { c with waiting := c.waiting.erase i })).cleMiss p.val
      | none => s

/-- The effect of a write of CLE_CTRL.RUN (R200). -/
def State.writeCleRun (s : State) (v : Bool) : State :=
  let s := s.wb CLE_CTRL_RUN v
  if v then s
  else (List.range 8).foldl (fun s p => s.setSlot p { s.slot p with due := none, noWindow := false })
    (s.modCle (fun c => { c with waiting := [] }))

/-- CLE_RUN (R200). -/
def execCleRun (who : Agent) (value : Bool) (s : State) : Host.Outcome State Fault Refusal :=
  act s fun s => s.when (s.cleOn && !s.cpm.cleReload && s.mayWrite who CLE_CTRL_RUN) fun s => s.writeCleRun value

/-- The effect of a write of PEN (R200): a new bit asks for a code check, a cleared one disables. -/
def State.writePen (s : State) (mask : Nat) : State :=
  (List.range 8).foldl (fun s p =>
    let now := bit (s.r CLE_CTRL_PEN) p
    if bit mask p && !now then (s.setBit CLE_CTRL_PEN p).setSlot p { s.slot p with enabling := true, enabled := false }
    else if !bit mask p && now then s.cleDisable p
    else s) s

/-- PROGRAM_ENABLE (R200). -/
def execProgramEnable (who : Agent) (mask : BitVec 8) (s : State) : Host.Outcome State Fault Refusal :=
  act s fun s => s.when (s.cleOn && !s.cpm.cleReload && s.mayWrite who CLE_CTRL_PEN) fun s => s.writePen mask.toNat

/-- The words of a program's range. -/
def State.codeWords (s : State) (p : Nat) : List Nat :=
  (List.range (s.r (CLE_PCFG_LENM1 p) + 1)).map (fun k => cleProgAddr (s.r (CLE_PCFG_ENTRY p)) + 4 * k)

/-- The code check of a program's range (R211): CRC-32 of its bytes. -/
def State.codeGood (s : State) (p : Nat) : Bool :=
  crc32 (s.bytes (cleProgAddr (s.r (CLE_PCFG_ENTRY p))) (4 * (s.r (CLE_PCFG_LENM1 p) + 1))) == s.r (CLE_PCRC_CRC p)
    && (s.codeWords p).all (fun w => !s.cle.badWords.contains w)

/-- A failed code check (R200, R211). -/
def State.codeFailed (s : State) (p : Nat) : State :=
  ((s.cleDisable p).setBit CLE_STS_CRCFAIL p).raise Fid.codeCheck p

/-- CODE_CHECK_COMPLETE (R200). -/
def execCodeCheckComplete (p : Fin 8) (s : State) : Host.Outcome State Fault Refusal :=
  act s fun s => s.when (s.cleLive && (s.slot p.val).enabling) fun s =>
    let s := s.cleCorrect (s.codeWords p.val)
    if s.codeGood p.val then
      let x : Slot := { enabling := false, enabled := true, refused := (s.slot p.val).refused,
                        divCount := s.r (CLE_PTIM_DIV p.val), sincePass := 0 }
      (s.setBit CLE_STS_FIRST p.val).setSlot p.val x
    else s.codeFailed p.val

/-- The effect of a write of CHKEN (R214). The checks run, and their times count, from a write that sets it (R211, R212). -/
def State.writeChken (s : State) (v : Bool) : State :=
  if !v && s.drv != .off then s
  else
    let s := if v && !s.b CLE_CTRL_CHKEN then
        (List.range 8).foldl (fun s p => s.setSlot p { s.slot p with sincePass := 0 }) (s.modCle (fun c => { c with sinceArith := 0 }))
      else s
    s.wb CLE_CTRL_CHKEN v

/-- CHKEN. -/
def execChken (who : Agent) (value : Bool) (s : State) : Host.Outcome State Fault Refusal :=
  act s fun s => s.when (s.cleOn && !s.cpm.cleReload && s.mayWrite who CLE_CTRL_CHKEN) fun s => s.writeChken value

/-- The effect of a write of CLE_SPDATA (R203). -/
def State.writeSpdata (s : State) (v : Nat) : State :=
  let n := s.r CLE_SPSEL_SP
  if n = 7 then s.w CLE_STS_WPERR 1
  else s.rws (spFld n (if s.b CLE_SPSEL_EXP then 8 else s.r CLE_SPSEL_LANE)) v

/-- SPDATA (R203). -/
def execSpdata (who : Agent) (value : BitVec 24) (s : State) : Host.Outcome State Fault Refusal :=
  act s fun s => s.when (s.cleOn && s.mayWrite who CLE_SPDATA_DATA) fun s => s.writeSpdata value.toNat

/-- The effect of a guarded write of CLE_SPDATAG (R203). -/
def State.writeSpdatag (s : State) (v lane : Nat) (exp : Bool) : State := s.rws (spFld 7 (if exp then 8 else lane)) v

/-- SPDATAG (R203). -/
def execSpdatag (who : Agent) (value : BitVec 24) (lane : Fin 8) (exp : Bool) (s : State) : Host.Outcome State Fault Refusal :=
  act s fun s => s.when (s.cleOn && s.mayWrite who CLE_SPDATAG_DATA) fun s => s.writeSpdatag value.toNat lane.val exp

/-- Every enabled program and the arithmetic check have completed within 64 outer cycles. -/
def State.checksFresh (s : State) : Bool :=
  decide (s.cle.sinceArith < 64) && (List.range 8).all (fun p => !(s.slot p).enabled || decide ((s.slot p).sincePass < 64))

/-- CODE_CHECK_PASS (R211). -/
def execCodeCheckPass (p : Fin 8) (s : State) : Host.Outcome State Fault Refusal :=
  act s fun s => s.when (s.cleLive && s.b CLE_CTRL_CHKEN && (s.slot p.val).enabled) fun s =>
    let s := (s.cleCorrect (s.codeWords p.val)).setSlot p.val { s.slot p.val with sincePass := 0 }
    let s := if s.checksFresh then s.autoClear Fid.starved else s
    if s.codeGood p.val then s else s.codeFailed p.val

/-- ARITHMETIC_CHECK (R212): whether the CRC of its results is the silicon's constant. -/
def execArithmeticCheck (ok : Bool) (s : State) : Host.Outcome State Fault Refusal :=
  act s fun s => s.when (s.cleLive && s.b CLE_CTRL_CHKEN) fun s =>
    let s := s.modCle (fun c => { c with sinceArith := 0, arithBad := !ok })
    let s := if s.checksFresh then s.autoClear Fid.starved else s
    if ok then s else (s.w CLE_STS_ARFAIL 1).raise Fid.arithCheck

/-- SELF_CHECK_STARVED (R211, R212). -/
def execSelfCheckStarved (s : State) : Host.Outcome State Fault Refusal :=
  act s fun s => s.when (s.cleLive && s.b CLE_CTRL_CHKEN && !s.checksFresh) fun s => (s.w CLE_STS_STARVED 1).raise Fid.starved

/-- The records of a capture lie wholly in SRAM at or above 0x2001_0000 (R209, R311). -/
def State.bBufferOk (s : State) : Bool :=
  let a := s.r CLE_BBUF_BASE / 16 * 16
  decide (0x20010000 ≤ a) && decide (a + 16 * (s.r CLE_BPAR_NSM1 + 1) ≤ 0x20100000)

/-- The effect of a write of START (R209) (DEDUCED, assumption 88). -/
def State.writeBStart (s : State) : State :=
  if s.r CLE_BSTS_STATE = 1 ∨ s.r CLE_BSTS_STATE = 2 then s
  else if s.b CLE_BCTRL_ARM && s.bBufferOk && !s.holdsClass .A && !s.holdsClass .B && (s.slot (s.r CLE_BCTRL_PACE)).enabled then
    ((s.w CLE_BSTS_STATE 1).w CLE_BSTS_NCAP 0).modCle (fun c => { c with bunting := {} })
  else s.w CLE_BSTS_REFUSED 1

/-- BUNTING_START (R209). -/
def execBuntingStart (who : Agent) (value : Bool) (s : State) : Host.Outcome State Fault Refusal :=
  act s fun s => s.when (value && s.cleOn && s.mayWrite who CLE_BCTRL_START) State.writeBStart

/-- The effect of a write of STOP (R209). -/
def State.writeBStop (s : State) : State :=
  if s.r CLE_BSTS_STATE = 1 ∨ s.r CLE_BSTS_STATE = 2 then s.w CLE_BSTS_STATE 3 else s

/-- BUNTING_STOP (R209). -/
def execBuntingStop (who : Agent) (value : Bool) (s : State) : Host.Outcome State Fault Refusal :=
  act s fun s => s.when (value && s.cleOn && s.mayWrite who CLE_BCTRL_STOP) State.writeBStop

/-! What the engine does at boundaries. -/

/-- A program's trigger becomes due, at an instant from `u` on. -/
def State.makeDue (s : State) (p u : Nat) (noWindow : Bool) : State :=
  if s.cleEnabled p then s.setSlot p { s.slot p with due := some u, noWindow := noWindow } else s

/-- What a boundary makes due (R196): a TSRC = 0 program at every (DIV + 1)-th boundary of its level, a TSRC = 1 program of
level T at a tick that begins at the carrier centre, and each TSRC = 1 program 0.3 µs after a valley whose carrier has no
windows. A boundary ends what an earlier one made due (DEDUCED, assumption 152). -/
def State.dueAtBoundary (s : State) (levels : List Level) (p : Nat) : State :=
  let x := s.slot p
  if !x.enabled then s
  else if s.b (CLE_PCFG_TSRC p) then
    if levels.contains .C then (if s.noWindows then s.makeDue p (s.nowU + 60) true else s)
    else if s.r (CLE_PCFG_TLEV p) = 0 then s.makeDue p s.nowU false else s
  else if levels.contains (tlevOf (s.r (CLE_PCFG_TLEV p))) then
    if s.r (CLE_PTIM_DIV p) ≤ x.divCount then (s.setSlot p { x with divCount := 0, due := none }).makeDue p s.nowU false
    else s.setSlot p { x with divCount := x.divCount + 1, due := none }
  else s.setSlot p { x with due := none }

/-- The SDX publication of a valley's windows makes each TSRC = 1 program due (R129, R196). -/
def State.clePublished (s : State) : State :=
  (List.range 8).foldl (fun s p => if s.b (CLE_PCFG_TSRC p) then s.makeDue p s.nowU false else s) s

/-- WINDOW_RESULT (R129): SDX publishes leg `n`'s ended window, with the samples at the edges of the two clocks within it. With
the third leg of a carrier valley the publication is complete, and where the carrier had a window it triggers the programs that
wait for it (R196) (DEDUCED, assumption 152). -/
def execWindowResult (t : Nat) (n : Fin 3) (at0 : Nat) (ck0 : List Word) (at1 : Nat) (ck1 : List Word) (s : State) : Host.Outcome State Fault Refusal :=
  act s fun s => (s.at t).when s.sdxLive fun s =>
    let x : Stream := ⟨at0, ck0, at1, ck1⟩
    match (s.legWin n.val).due with
    | none => s
    | some w =>
      let any := s.sense.anyWin || decide (0 < w.len)
      let s := s.modSense (fun y => { y with anyWin := any })
      let s := (s.setLegWin n.val { s.legWin n.val with due := none }).sdxWindow n.val w (s.captureAt n.val x) (s.capture n.val x)
      if w.valley && any && s.sense.arrived == 0 then s.clePublished else s

/-- Boundaries in the engine: what they make due, the outer cycles of the self-checks, Bunting's H boundary and its records. -/
def State.cleBoundary (s : State) (levels : List Level) : State :=
  if !s.cleLive then s
  else
    let s := ((List.range 8).foldl (fun s p => s.dueAtBoundary levels p) s).drainRecords
    let s := if levels.contains .O && s.b CLE_CTRL_CHKEN then
        let s := s.modCle (fun c => { c with sinceArith := c.sinceArith + 1 })
        (List.range 8).foldl (fun s p =>
          let x := s.slot p
          if x.enabled then s.setSlot p { x with sincePass := x.sincePass + 1 } else s) s
      else s
    let b := { s.cle.bunting with sawH := true }
    if levels.contains .H && s.r CLE_BSTS_STATE == 1 then s.modCle (fun c => { c with bunting := b }) else s

/-- The check of a program's configuration (R201). -/
def State.progBad (s : State) (p : Nat) : Bool :=
  decide (s.progPeriod p < 8 * max 1 (s.r (CLE_PTIM_BUD p)))
    || (s.b (CLE_PCFG_TSRC p) && s.r (CLE_PCFG_TLEV p) != 0 && s.r (CLE_PCFG_TLEV p) != 1)
    || (s.b (CLE_PCFG_CURLOOP p) && (List.range 8).any (fun q => q != p && s.b (CLE_PCFG_CURLOOP q)))
    || decide (4096 ≤ s.r (CLE_PCFG_ENTRY p) + s.r (CLE_PCFG_LENM1 p))

/-- The configurations checked at each swap, which is each H and O boundary (R201) (DEDUCED, assumption 153). -/
def State.checkProgs (s : State) : State :=
  (List.range 8).foldl (fun s p =>
    let bad := s.progBad p
    let s := s.setSlot p { s.slot p with refused := bad }
    if bad then s.w CLE_STS_CFGERR 1 else s) s

/-- Every enabled program's next instance is FIRST when the drive enters RUN from ARMED (R200). -/
def State.cleFirst (s : State) : State :=
  (List.range 8).foldl (fun s p => if (s.slot p).enabled then s.setBit CLE_STS_FIRST p else s) s

/-- The opcodes that write a stage, and ST and OUT: where a node is valid (R206). -/
def nodeOpcodes : List Nat := cleOpcodes.filter (fun o => !([0, 1, 2, 3, 0x16].contains o))

/-- The effect of a write of CLE_BNODEn with VALID on an instruction where no node is valid: CFGERR, the node unused. -/
def State.checkNode (s : State) (n : Nat) : State :=
  let w := s.readLE (cleProgAddr (s.r (CLE_BNODE_ADDR n))) 4
  let bad := s.b (CLE_BNODE_VALID n) && !nodeOpcodes.contains (w / 67108864)
  let s := s.modCle (fun c => { c with badNodes := bitPut c.badNodes n bad })
  if bad then s.w CLE_STS_CFGERR 1 else s

end Sys2Proof.Machine
end

