-- ==== Sys2Proof/Machine/Crypto.lean ====
section
/-!
DEFINITION. The cryptographic functions that the kernel's rules name and other standards define (PRESUMED as those
standards give them): SHA-256 of FIPS 180-4, AES-128 with its CMAC of NIST SP 800-38B, ECDSA over P-256 of FIPS 186
(R74, R75, R456, R457, R465).
-/
namespace Sys2Proof.Machine

/-! SHA-256. -/

def shaK : List Word :=
  [0x428a2f98, 0x71374491, 0xb5c0fbcf, 0xe9b5dba5, 0x3956c25b, 0x59f111f1, 0x923f82a4, 0xab1c5ed5]
  ++ [0xd807aa98, 0x12835b01, 0x243185be, 0x550c7dc3, 0x72be5d74, 0x80deb1fe, 0x9bdc06a7, 0xc19bf174]
  ++ [0xe49b69c1, 0xefbe4786, 0x0fc19dc6, 0x240ca1cc, 0x2de92c6f, 0x4a7484aa, 0x5cb0a9dc, 0x76f988da]
  ++ [0x983e5152, 0xa831c66d, 0xb00327c8, 0xbf597fc7, 0xc6e00bf3, 0xd5a79147, 0x06ca6351, 0x14292967]
  ++ [0x27b70a85, 0x2e1b2138, 0x4d2c6dfc, 0x53380d13, 0x650a7354, 0x766a0abb, 0x81c2c92e, 0x92722c85]
  ++ [0xa2bfe8a1, 0xa81a664b, 0xc24b8b70, 0xc76c51a3, 0xd192e819, 0xd6990624, 0xf40e3585, 0x106aa070]
  ++ [0x19a4c116, 0x1e376c08, 0x2748774c, 0x34b0bcb5, 0x391c0cb3, 0x4ed8aa4a, 0x5b9cca4f, 0x682e6ff3]
  ++ [0x748f82ee, 0x78a5636f, 0x84c87814, 0x8cc70208, 0x90befffa, 0xa4506ceb, 0xbef9a3f7, 0xc67178f2]

def shaInit : List Word :=
  [0x6a09e667, 0xbb67ae85, 0x3c6ef372, 0xa54ff53a, 0x510e527f, 0x9b05688c, 0x1f83d9ab, 0x5be0cd19]

/-- The message with its padding: a one bit, zeros, and the bit length in 64 bits, to whole blocks of 64 bytes. -/
def shaPad (m : List Byte) : List Byte :=
  let n := m.length
  let z := (119 - n % 64) % 64
  m ++ [0x80] ++ List.replicate z 0 ++ (List.range 8).map (fun k => BitVec.ofNat 8 (8 * n / 256 ^ (7 - k)))

/-- Big-endian words of bytes; a tail short of a word is dropped. -/
def beWords : List Byte → List Word
  | a :: b :: c :: d :: l => (a ++ b ++ c ++ d) :: beWords l
  | _ => []

def smallSigma0 (x : Word) : Word := x.rotateRight 7 ^^^ x.rotateRight 18 ^^^ (x >>> 3)
def smallSigma1 (x : Word) : Word := x.rotateRight 17 ^^^ x.rotateRight 19 ^^^ (x >>> 10)
def bigSigma0 (x : Word) : Word := x.rotateRight 2 ^^^ x.rotateRight 13 ^^^ x.rotateRight 22
def bigSigma1 (x : Word) : Word := x.rotateRight 6 ^^^ x.rotateRight 11 ^^^ x.rotateRight 25

/-- The message schedule, newest word first. -/
def shaSchedule : Nat → List Word → List Word
  | 0, w => w
  | n + 1, w => shaSchedule n ((smallSigma1 (w.getD 1 0) + w.getD 6 0 + smallSigma0 (w.getD 14 0) + w.getD 15 0) :: w)

/-- One round on the eight working words. -/
def shaRound (v : List Word) (k w : Word) : List Word :=
  match v with
  | [a, b, c, d, e, f, g, h] =>
    let t1 := h + bigSigma1 e + ((e &&& f) ^^^ (~~~e &&& g)) + k + w
    let t2 := bigSigma0 a + ((a &&& b) ^^^ (a &&& c) ^^^ (b &&& c))
    [t1 + t2, a, b, c, d + t1, e, f, g]
  | v => v

/-- One block of sixteen words. -/
def shaBlock (h : List Word) (w : List Word) : List Word :=
  let sched := (shaSchedule 48 w.reverse).reverse
  let v := (List.zip shaK sched).foldl (fun v x => shaRound v x.1 x.2) h
  List.zipWith (· + ·) h v

/-- The blocks of a padded message; the number bounds them. -/
def shaBlocks : Nat → List Word → List Word → List Word
  | 0, h, _ => h
  | n + 1, h, w => if w.isEmpty then h else shaBlocks n (shaBlock h (w.take 16)) (w.drop 16)

/-- Big-endian bytes of a word. -/
def beBytes (w : Word) : List Byte := (List.range 4).map (fun k => BitVec.ofNat 8 (w.toNat / 256 ^ (3 - k)))

/-- SHA-256: 32 bytes (PRESUMED, assumption 28). -/
def sha256 (m : List Byte) : List Byte :=
  let w := beWords (shaPad m)
  (shaBlocks (w.length / 16) shaInit w).flatMap beBytes

/-! AES-128 and CMAC. A block is sixteen bytes, column by column. -/

/-- Multiplication by x in GF(2⁸), on the number of a byte. -/
def gfDouble (n : Nat) : Nat := if 128 ≤ n then Nat.xor (2 * n) 0x11B else 2 * n

def xtime (b : Byte) : Byte := BitVec.ofNat 8 (gfDouble b.toNat)

/-- Multiplication in GF(2⁸), bit by bit of the second factor, which lies below 2ⁿ. -/
def gfMul (a b : Nat) : Nat → Nat
  | 0 => 0
  | n + 1 => Nat.xor (if b % 2 = 1 then a else 0) (gfMul (gfDouble a) (b / 2) n)

/-- a to the e-th power in GF(2⁸), for e below 2ⁿ; the 254th is the inverse, with 0 for 0. -/
def gfPow (a e : Nat) : Nat → Nat
  | 0 => 1
  | n + 1 =>
    let h := gfPow (gfMul a a 8) (e / 2) n
    if e % 2 = 1 then gfMul a h 8 else h

/-- The S-box: the inverse, then the affine map. -/
def sbox (a : Byte) : Byte :=
  let b : Byte := BitVec.ofNat 8 (gfPow a.toNat 254 8)
  b ^^^ b.rotateLeft 1 ^^^ b.rotateLeft 2 ^^^ b.rotateLeft 3 ^^^ b.rotateLeft 4 ^^^ 0x63

def xorBytes (a b : List Byte) : List Byte := List.zipWith (· ^^^ ·) a b

/-- The next round key, of the last one and the round constant. -/
def nextKey (k : List Byte) (rcon : Byte) : List Byte :=
  let t := [sbox (k.getD 13 0) ^^^ rcon, sbox (k.getD 14 0), sbox (k.getD 15 0), sbox (k.getD 12 0)]
  let a := xorBytes (k.take 4) t
  let b := xorBytes ((k.drop 4).take 4) a
  let c := xorBytes ((k.drop 8).take 4) b
  a ++ b ++ c ++ xorBytes (k.drop 12) c

/-- Rows shift: byte r of column c comes from column c + r. -/
def shiftRows (x : List Byte) : List Byte := (List.range 16).map (fun i => x.getD ((i + 4 * (i % 4)) % 16) 0)

/-- One column mixed. -/
def mixColumn (x : List Byte) (c : Nat) : List Byte :=
  (List.range 4).map (fun r =>
    let g (k : Nat) : Byte := x.getD (4 * c + (r + k) % 4) 0
    xtime (g 0) ^^^ (xtime (g 1) ^^^ g 1) ^^^ g 2 ^^^ g 3)

def mixColumns (x : List Byte) : List Byte := (List.range 4).flatMap (mixColumn x)

/-- The rounds after the first key, with the key and the round constant of each; the last does not mix. -/
def aesRounds : Nat → List Byte → Byte → List Byte → List Byte
  | 0, _, _, x => x
  | n + 1, k, rcon, x =>
    let k' := nextKey k rcon
    let y := shiftRows (x.map sbox)
    aesRounds n k' (xtime rcon) (xorBytes (if n = 0 then y else mixColumns y) k')

/-- AES-128 encryption of one block. -/
def aes128 (key x : List Byte) : List Byte := aesRounds 10 key 1 (xorBytes x key)

/-- A block as a number, the first byte most significant, and back. -/
def blockNat (x : List Byte) : Nat := x.foldl (fun a b => 256 * a + b.toNat) 0
def natBlock (n : Nat) : List Byte := (List.range 16).map (fun k => BitVec.ofNat 8 (n / 256 ^ (15 - k)))

/-- Doubling in GF(2¹²⁸). -/
def dbl128 (n : Nat) : Nat := if n.testBit 127 then Nat.xor (2 * n % 2 ^ 128) 0x87 else 2 * n

/-- CMAC of whole blocks: the chain, with the first subkey in the last block. -/
def cmacChain (key : List Byte) : List (List Byte) → List Byte → List Byte
  | [], c => c
  | [m], c => aes128 key (xorBytes (xorBytes m c) (natBlock (dbl128 (blockNat (aes128 key (List.replicate 16 0))))))
  | m :: l, c => cmacChain key l (aes128 key (xorBytes m c))

/-- AES-128 CMAC of a message of 32 bytes (R457). -/
def cmac32 (key m : List Byte) : List Byte := cmacChain key [m.take 16, m.drop 16] (List.replicate 16 0)

/-! P-256. -/

def p256P : Nat := 0xFFFFFFFF00000001000000000000000000000000FFFFFFFFFFFFFFFFFFFFFFFF
def p256N : Nat := 0xFFFFFFFF00000000FFFFFFFFFFFFFFFFBCE6FAADA7179E84F3B9CAC2FC632551
def p256B : Nat := 0x5AC635D8AA3A93E7B3EBBD55769886BC651D06B0CC53B0F63BCE3C3E27D2604B
def p256Gx : Nat := 0x6B17D1F2E12C4247F8BCE6E563A440F277037D812DEB33A0F4A13945D898C296
def p256Gy : Nat := 0x4FE342E2FE1A7F9B8EE7EB4A7C0F9E162BCE33576B315ECECBB6406837BF51F5

/-- b^e mod m, for e below 2^n. -/
def powMod (b e m : Nat) : Nat → Nat
  | 0 => 1 % m
  | n + 1 =>
    let h := powMod (b * b % m) (e / 2) m n
    if e % 2 = 1 then b * h % m else h

def invMod (a m : Nat) : Nat := powMod a (m - 2) m 256
def subMod (a b m : Nat) : Nat := (a + m - b % m) % m

/-- A point of the curve; none is the point at infinity. -/
abbrev EcPoint := Option (Nat × Nat)

/-- The third point of a chord or tangent of slope l, mirrored. -/
def ecChord (l x1 y1 x2 : Nat) : EcPoint :=
  let p := p256P
  let x3 := subMod (l * l) (x1 + x2) p
  some (x3, subMod (l * subMod x1 x3 p) y1 p)

def ecAdd (a b : EcPoint) : EcPoint :=
  let p := p256P
  match a, b with
  | none, b => b
  | a, none => a
  | some (x1, y1), some (x2, y2) =>
    if x1 = x2 then
      if (y1 + y2) % p = 0 then none
      else ecChord ((3 * x1 * x1 + (p - 3)) * invMod (2 * y1 % p) p % p) x1 y1 x2
    else ecChord (subMod y2 y1 p * invMod (subMod x2 x1 p) p % p) x1 y1 x2

/-- k times a point, for k below 2^n. -/
def ecMul (k : Nat) (a : EcPoint) : Nat → EcPoint
  | 0 => none
  | n + 1 =>
    let r := ecMul (k / 2) (ecAdd a a) n
    if k % 2 = 1 then ecAdd a r else r

/-- The point-on-curve check (R75). -/
def onCurve (x y : Nat) : Bool :=
  decide (x < p256P) && decide (y < p256P) && (y * y % p256P == (x * x * x + (p256P - 3) * x + p256B) % p256P)

/-- ECDSA verification of a signature (r, s) over a digest, under the key (x, y) (PRESUMED, assumption 28). -/
def ecdsaOk (x y r s : Nat) (digest : List Byte) : Bool :=
  let n := p256N
  if r = 0 ∨ n ≤ r ∨ s = 0 ∨ n ≤ s then false
  else
    let w := invMod s n
    match ecAdd (ecMul (blockNat digest * w % n) (some (p256Gx, p256Gy)) 256) (ecMul (r * w % n) (some (x, y)) 256) with
    | none => false
    | some (u, _) => u % n == r

end Sys2Proof.Machine
end

