-- ==== Sys2Proof/Machine/Journal.lean ====
section
/-!
DEFINITION. The journal (R462 to R464): its records, the overwrite of its oldest sector, and its refusal when full.
-/
namespace Sys2Proof.Machine

open Reg

def State.modKern (s : State) (f : Kernel → Kernel) : State := { s with kern := f s.kern }

/-- Bytes padded with zeros, or cut, to a length. -/
def padTo (n : Nat) (l : List Byte) : List Byte := (l ++ List.replicate n 0).take n

/-- The journal's digest of a value: the first nine bytes of its SHA-256 (R463). -/
def digest9 (v : List Byte) : List Byte := (sha256 v).take 9

def chanCode : Chan → Nat
  | .program => 0 | .host => 1 | .node _ => 2 | .iso => 3

/-- The ROLE byte (R463). -/
def roleByte (r : Role) (c : Chan) (sess : Nat) : Nat := roleRank r + 4 * chanCode c + 32 * sess

/-- The sector of a record. -/
def JRecord.sector (r : JRecord) : Nat := r.seq / 256

/-- LEVEL, FULL and NEWEST follow the journal. -/
def State.journalRegs (s : State) : State :=
  let n := s.kern.journal.length
  ((s.w ROL_JSTS_LEVEL n).wb ROL_JSTS_FULL (decide (4096 ≤ n))).w ROL_JSEQ_NEWEST (s.kern.nextSeq - 1)

/-- The journal without the sector of its oldest record. -/
def dropSector (l : List JRecord) : List JRecord :=
  match l with
  | [] => []
  | x :: _ => l.filter (fun r => r.sector != x.sector)

/-- The journal refuses records: full, with no overwrite (R464). -/
def State.journalRefuses (s : State) : Bool := decide (4096 ≤ s.kern.journal.length) && s.b ROL_JSTS_NOOVW

/-- A record is appended, or refused with "Journal full" (R463, R464) (DEDUCED, assumption 46). -/
def State.journal (s : State) (role item kind : Nat) (old new : List Byte) : State × Bool :=
  if s.journalRefuses then ((if s.hasFault Fid.journalFull then s else s.raise Fid.journalFull), false)
  else
    let k := s.kern
    let kept := if 4096 ≤ k.journal.length then dropSector k.journal else k.journal
    let time := k.lifeMs / 1000 % 2147483648 + (if k.firstRec then 2147483648 else 0)
    let x : JRecord := ⟨k.nextSeq, time, role, item, kind, padTo 9 old, padTo 9 new⟩
    ((s.modKern (fun k => { k with journal := kept ++ [x], nextSeq := k.nextSeq + 1, firstRec := false })).journalRegs, true)

/-- The same where nothing depends on the refusal. -/
def State.journalled (s : State) (role item kind : Nat) (old new : List Byte) : State := (s.journal role item kind old new).1

/-- The 32 bytes of a record. -/
def JRecord.bytes (r : JRecord) : List Byte :=
  let body := leBytes r.seq 4 ++ leBytes r.time 4 ++ leBytes r.role 1 ++ leBytes r.item 2 ++ leBytes r.kind 1 ++ r.old ++ r.new
  body ++ leBytes (crc16 body) 2

/-- A fault record in the journal's form (R416) (DEDUCED, assumption 104). -/
def State.journalFault (s : State) (x : FaultRecord) : State :=
  let old := leBytes x.detail 1 ++ leBytes x.cls.code 1 ++ leBytes x.occ 2
  let new := leBytes x.tick.toNat 4 ++ leBytes x.ensign.toNat 4
  let (s, ok) := s.journal (if x.clear then roleRank x.role else 0) (0x8000 + x.id) 0 old new
  if ok then s else (s.w FLT_STS_JLOST 1).fltEvent 6

end Sys2Proof.Machine
end

