-- ==== Sys2Proof/Machine/Flash.lean ====
section
/-!
DEFINITION. The flash (R71, R78, R83): programming and erasing, what a reset leaves of work under way, and the two copies of the
boot control record.
-/
namespace Sys2Proof.Machine

/-- Bytes programmed into flash from the start of a unit (R83): a sector is erased when its first unit is programmed, and a
programmed unit holds no SECDED error. An erased unit reads as memory that nothing has written
(DESIGN CHOICE, assumption 145). -/
def State.program (s : State) (a : Nat) (l : List Byte) : State :=
  let gone := fun (x : Nat) => decide ((a + 8191) / 8192 * 8192 ≤ x) && decide (x < (a + l.length + 8191) / 8192 * 8192)
  let set := fun (x : Nat) => decide (a ≤ x) && decide (x < a + l.length)
  { s with mem := s.mem.filter (fun e => !gone e.1)
           cores := { s.cores with badWords := s.cores.badWords.filter (fun x => !gone x && !set x)
                                   softWords := s.cores.softWords.filter (fun x => !gone x && !set x) } }.writeBytes a l

/-- A run of bytes that holds nothing known: free values (R71). -/
def State.scramble (s : State) (a n : Nat) : State :=
  let l := (List.range n).map (fun k => BitVec.ofNat 8 (Config.freeValue (s.free + k)))
  { s with free := s.free + n }.writeBytes a l

/-! Boot control records (R78). The layout of their 32 bytes is this model's (DESIGN CHOICE, assumption 146). -/

def slotCode : SlotState → Nat
  | .empty => 0 | .trial => 1 | .confirmed => 2 | .failed => 3

def slotOfCode (n : Nat) : SlotState :=
  if n = 0 then .empty else if n = 1 then .trial else if n = 2 then .confirmed else .failed

/-- The 32 bytes of a record: the sequence number in four, preferred slot, the two states, the two counts of attempts, zeros,
and the journal's CRC-16 of what precedes it (DESIGN CHOICE, assumption 176). -/
def BootRecord.bytes (r : BootRecord) : List Byte :=
  let body := leBytes r.seq 4 ++ [if r.preferB then 1 else 0, BitVec.ofNat 8 (slotCode r.stA), BitVec.ofNat 8 (slotCode r.stB),
    BitVec.ofNat 8 r.triesA, BitVec.ofNat 8 r.triesB] ++ List.replicate 21 0
  body ++ leBytes (crc16 body) 2

/-- Where a copy lies: the first or the second. -/
def recAddr (second : Bool) : Nat := if second then 0x103E2000 else 0x103E0000

/-- A unit of a copy holds an uncorrectable error. -/
def State.recWorn (s : State) (second : Bool) : Bool :=
  s.cores.badWords.any (fun x => decide (recAddr second ≤ x) && decide (x < recAddr second + 32))

/-- A copy as a read finds it: none without a valid CRC, or with an uncorrectable error in it. -/
def State.readRec (s : State) (second : Bool) : Option BootRecord :=
  let l := s.bytes (recAddr second) 32
  if !s.recWorn second && leAt l 30 2 == crc16 (l.take 30) then
    some ⟨leAt l 0 4, leAt l 4 1 % 2 == 1, slotOfCode (leAt l 5 1), slotOfCode (leAt l 6 1), leAt l 7 1 % 8, leAt l 8 1 % 8⟩
  else none

/-- The record in use: the valid copy with the higher sequence number; with none, both slots CONFIRMED and A preferred. -/
def State.bootRec (s : State) : BootRecord :=
  match s.readRec false, s.readRec true with
  | some a, some b => if b.seq ≤ a.seq then a else b
  | some a, none => a
  | none, some b => b
  | none, none => ⟨0, false, .confirmed, .confirmed, 0, 0⟩

/-- The copy that the next update writes is the second: the first is the newest. -/
def State.nextCopy (s : State) : Bool :=
  match s.readRec false with
  | some a => decide (a = s.bootRec)
  | none => false

/-- The kernel reads both copies: an uncorrectable error in one is a fault, and the other is used (R78, R327). -/
def State.noteRecs (s : State) : State := if s.recWorn false || s.recWorn true then s.raise Fid.flashUncorrectable else s

/-- Write a record: into the copy that is not the newest, with the next sequence number. -/
def State.putRec (s : State) (r : BootRecord) : State :=
  s.noteRecs.program (recAddr s.nextCopy) ({ r with seq := (s.bootRec.seq + 1) % 2 ^ 32 } : BootRecord).bytes

def BootRecord.state (r : BootRecord) (b : Bool) : SlotState := if b then r.stB else r.stA
def BootRecord.tries (r : BootRecord) (b : Bool) : Nat := if b then r.triesB else r.triesA
def BootRecord.set (r : BootRecord) (b : Bool) (st : SlotState) (tries : Nat) : BootRecord :=
  if b then { r with stB := st, triesB := tries } else { r with stA := st, triesA := tries }

/-! What a reset interrupts (R71). -/

/-- A copy that is being written is torn or is not. -/
def State.tearCopy (s : State) (second : Bool) : State :=
  let (x, s) := s.freeNat
  if x % 2 = 0 then s else s.scramble (recAddr second) 32

/-- The flash work under way when a reset comes: the units of a block before the one it was at are programmed, that unit holds
nothing known, with its whole sector where it was the sector's first, and the rest is untouched; a record's update has not
begun, or has torn the copy that it writes (DESIGN CHOICE, assumption 145). -/
def State.tearFlash (s : State) : State :=
  match s.kern.flash with
  | .program _ [] :: _ => s
  | .program a l :: _ =>
    let (x, s) := s.freeNat
    let n := x % (l.length / 16)
    let b := a + 16 * n
    (s.program a (l.take (16 * n))).scramble b (if b % 8192 = 0 then 8192 else 16)
  | .finalise _ _ :: _ => s.tearCopy s.nextCopy
  | .record :: _ => s.tearCopy !s.nextCopy
  | [] => s

end Sys2Proof.Machine
end

