-- ==== Sys2Proof/Machine/Settings.lean ====
section
/-!
DEFINITION. The parameter items that the kernel's drive service, torque monitor and safety functions read (R240, R395,
R459, R501), and the checks the kernel makes of them.
-/
namespace Sys2Proof.Machine

open Reg

/-! Numbers. -/

/-- The exact value of a finite binary32 word. -/
def f32Frac (w : Nat) : Option Frac :=
  match F32.ofBits w with
  | .fin neg m e =>
    let v : Int := if neg then -(m : Int) else m
    some (if 0 ≤ e then ⟨v * 2 ^ e.toNat, 1⟩ else ⟨v, 2 ^ (-e).toNat⟩)
  | _ => none

/-- A stage lane's exact value (R180). -/
def Stage.frac (x : Stage) (k : Nat) : Frac :=
  let e := x.exp - 23
  if 0 ≤ e then ⟨x.lane k * 2 ^ e.toNat, 1⟩ else ⟨x.lane k, 2 ^ (-e).toNat⟩

/-- A stage of exact values, normalised. -/
def stageOf (l : List Frac) : Stage :=
  (place (lanes (fun k => match l[k]? with | some f => ⟨f.num, 0, f.den, 0⟩ | none => ⟨0, 0, 1, 0⟩)) 0 true).1

/-- The kernel writes a set-point whole, by the shadow (R203, R217). -/
def State.putSp (s : State) (n : Nat) (x : Stage) : State :=
  ((List.range 8).foldl (fun s k => s.rws (spFld n k) (bitsOf 24 (x.lane k))) s).rws (spFld n 8) x.e.toNat

/-- IMAX, the phase current limit in A: SP7.m2 in force (R217). -/
def State.imax (s : State) : Frac := (s.setPoint 7).frac 2

/-! The safety parameter block (R395, R501). -/

/-- A binary32 item of group 0x03, or its default. -/
def State.sReal (s : State) (item : Nat) (dflt : Frac) : Frac :=
  match sparseFind s.kern.params (0x300 + item) with
  | some w => (f32Frac w.toNat).getD dflt
  | none => dflt

/-- An integer item of group 0x03, or its default. -/
def State.sInt (s : State) (item dflt : Nat) : Nat := s.param (0x300 + item) dflt

def State.pTut (s : State) : Frac := s.sReal 0x00 ⟨50, 1⟩
def State.pTutMs (s : State) : Nat := s.sInt 0x01 20
def State.pTmonDev (s : State) : Frac := s.sReal 0x02 ⟨30, 1⟩
def State.pTmonN (s : State) : Nat := s.sInt 0x03 8
def State.pTmonHist (s : State) : Nat := s.sInt 0x04 64
def State.pPbalDev (s : State) : Frac := s.sReal 0x05 ⟨10, 1⟩
def State.pPbalN (s : State) : Nat := s.sInt 0x06 4
def State.pIdcSrc (s : State) : Nat := s.sInt 0x07 0
def State.pKsw (s : State) : Frac := s.sReal 0x08 ⟨0, 1⟩
def State.pMonP (s : State) : Nat := s.sInt 0x09 0
def State.pMonPsi (s : State) : Frac := s.sReal 0x0A ⟨0, 1⟩
def State.pMonLd (s : State) : Frac := s.sReal 0x0B ⟨0, 1⟩
def State.pMonLq (s : State) : Frac := s.sReal 0x0C ⟨0, 1⟩
def State.pMonRs (s : State) : Frac := s.sReal 0x0D ⟨0, 1⟩
/-- HALL0; its default is 2 % of IMAX. -/
def State.pHall0 (s : State) : Frac := s.sReal 0x0E (s.imax.divNat 50)
def State.pSs1Rate (s : State) : Frac := s.sReal 0x0F ⟨50, 1⟩
def State.pSs1Decmin (s : State) : Frac := s.sReal 0x10 ⟨25, 1⟩
def State.pSs1Margin (s : State) : Frac := s.sReal 0x11 ⟨10, 1⟩
def State.pSs1Fstill (s : State) : Frac := s.sReal 0x12 ⟨1, 1⟩
def State.pLftInt (s : State) : Nat := s.sInt 0x13 24

/-- A value lies within whole bounds. -/
def Frac.within (x : Frac) (lo hi : Int) : Bool := (Frac.ofInt lo).le x && x.le (Frac.ofInt hi)
def natWithin (x lo hi : Nat) : Bool := decide (lo ≤ x) && decide (x ≤ hi)
def Frac.pos (x : Frac) : Bool := decide (0 < x.num)

/-- The range of an item of group 0x03 (R395, R501): whether a word may be its value. -/
def State.safetyItemOk (s : State) (item w : Nat) : Bool :=
  let real (p : Frac → Bool) : Bool := match f32Frac w with | some f => p f | none => false
  match item with
  | 0x00 => real (·.within 1 10000)
  | 0x01 => natWithin w 1 500
  | 0x02 => real (·.within 1 10000)
  | 0x03 => natWithin w 1 255
  | 0x04 => natWithin w 1 255
  | 0x05 => real (·.within 1 1000)
  | 0x06 => natWithin w 1 255
  | 0x07 => natWithin w 0 15
  | 0x08 => real (·.within 0 100)
  | 0x09 => decide (0 < w)
  | 0x0A => real Frac.pos
  | 0x0B => real Frac.pos
  | 0x0C => real Frac.pos
  | 0x0D => real Frac.pos
  | 0x0E => real (fun f => (Frac.ofInt 0).le f && f.le s.imax)
  | 0x0F => real (·.within 1 10000)
  | 0x10 => real (·.within 1 10000)
  | 0x11 => real (·.within 0 500)
  | 0x12 => real (·.within 0 50)
  | 0x13 => natWithin w 1 1000
  | 0x14 => w == 1 || w == 2
  | n => natWithin n 0x20 0x27 || natWithin n 0x40 0x4A

/-- A pair of TYPE TWOHAND that acts as unused: pair 4, or one whose partner is not TWOHAND (R386) (DEDUCED, assumption 133). -/
def State.badTwoHand (s : State) : Bool :=
  (List.range 5).any (fun p => s.r (SAF_PAIR_TYPE p) == 4 && (p == 4 || s.r (SAF_PAIR_TYPE (p ^^^ 1)) != 4))

/-- IDCSRC names a measured input: not none with the fallback enabled, and no input routed to FCV (R380, R395). -/
def State.idcOk (s : State) : Bool :=
  let n := s.pIdcSrc
  !(n == 0 && s.b SDX_CTRL_FBEN) && !(natWithin n 1 13 && bit (s.r PCV_ROUTE_FCV) (n + 2))

/-- The kernel's checks of the safety parameter block in force before ARM, RELOFF and RELARM (R369, R380, R386, R395). -/
def State.settingsOk (s : State) : Bool :=
  (s.pTut.within 1 10000 && natWithin s.pTutMs 1 500 && s.pTmonDev.within 1 10000 && natWithin s.pTmonN 1 255
    && natWithin s.pTmonHist 1 255 && s.pPbalDev.within 1 1000 && natWithin s.pPbalN 1 255)
  && (natWithin s.pIdcSrc 0 15 && s.pKsw.within 0 100 && decide (0 < s.pMonP) && s.pMonPsi.pos && s.pMonLd.pos
    && s.pMonLq.pos && s.pMonRs.pos && (Frac.ofInt 0).le s.pHall0 && s.pHall0.le s.imax)
  && (s.pSs1Rate.within 1 10000 && s.pSs1Decmin.within 1 10000 && s.pSs1Margin.within 0 500 && s.pSs1Fstill.within 0 50
    && natWithin s.pLftInt 1 1000 && natWithin (s.sInt 0x14 1) 1 2)
  && s.idcOk && !s.badTwoHand

/-! The field-control group (R240). -/

/-- An item of the field-control group as the drive service last read it, or its default. -/
def State.fc (s : State) (item dflt : Nat) : Nat :=
  match sparseFind s.drive.params (0x100 + item) with
  | some w => w.toNat
  | none => dflt

def State.fcRbnd (s : State) : Nat := s.fc 0 64
def State.fcWmin (s : State) : Nat := s.fc 2 20
def State.fcLockn (s : State) : Nat := s.fc 3 64
def State.fcCatchThr (s : State) : Nat := s.fc 4 30
def State.fcStopThr (s : State) : Nat := s.fc 5 3
def State.fcCatchT (s : State) : Nat := s.fc 6 100
def State.fcRecatchDelay (s : State) : Nat := s.fc 7 200
def State.fcRecatchN (s : State) : Nat := s.fc 8 3
def State.fcRecatchHold (s : State) : Nat := s.fc 9 10
def State.fcAlignI (s : State) : Nat := s.fc 10 100
def State.fcAlignT (s : State) : Nat := s.fc 11 300
def State.fcOlI (s : State) : Nat := s.fc 12 150
def State.fcOlAcc (s : State) : Nat := s.fc 13 200
def State.fcOlF1 (s : State) : Nat := s.fc 14 40
def State.fcStartT (s : State) : Nat := s.fc 15 1000
def State.fcStartN (s : State) : Nat := s.fc 16 3
def State.fcRetryWait (s : State) : Nat := s.fc 17 500
def State.fcShortTmax (s : State) : Nat := s.fc 18 5000
def State.fcIdWind (s : State) : Nat := s.fc 19 200
def State.fcPrechAsc (s : State) : Nat := s.fc 26 2000

/-- A whole number of amperes lies between 1 and IMAX. -/
def State.ampsOk (s : State) (a : Nat) : Bool := decide (1 ≤ a) && (Frac.ofInt a).le s.imax

/-- ID_MIN: its default is −IMAX. -/
def State.fcIdMin (s : State) : Frac :=
  match sparseFind s.drive.params 0x118 with
  | some w => Frac.ofInt w.toInt
  | none => s.imax.neg

/-- ISGN_DB: its default is 2 % of IMAX. -/
def State.fcIsgnDb (s : State) : Frac :=
  match sparseFind s.drive.params 0x119 with
  | some w => Frac.ofInt w.toNat
  | none => s.imax.divNat 50

/-- Each item within its range, and the relations of R231 and PRECH_ASC's (R240) (DEDUCED, assumption 93). -/
def State.fieldParamsOk (s : State) : Bool :=
  (natWithin s.fcRbnd 8 255 && natWithin (s.fc 1 10) 1 1000 && natWithin s.fcWmin 1 500 && natWithin s.fcLockn 8 4096
    && natWithin s.fcCatchThr 1 1000 && natWithin s.fcStopThr 1 50 && natWithin s.fcCatchT 10 2000
    && natWithin s.fcRecatchDelay 10 10000 && natWithin s.fcRecatchN 1 15 && natWithin s.fcRecatchHold 1 600)
  && (s.ampsOk s.fcAlignI && natWithin s.fcAlignT 10 5000 && s.ampsOk s.fcOlI && natWithin s.fcOlAcc 1 10000
    && decide (s.fcWmin < s.fcOlF1) && decide (s.fcOlF1 ≤ 500) && natWithin s.fcStartT 100 10000
    && natWithin s.fcStartN 1 15 && decide (s.fcRetryWait ≤ 10000) && natWithin s.fcShortTmax 100 60000)
  && (s.ampsOk s.fcIdWind && natWithin (s.fc 20 90) 50 100 && natWithin (s.fc 21 1024) 1024 1129
    && natWithin (s.fc 22 973) 512 1024 && natWithin (s.fc 23 20000) 1 1000000 && s.imax.neg.le s.fcIdMin
    && s.fcIdMin.le (Frac.ofInt 0) && (Frac.ofInt 0).le s.fcIsgnDb && s.fcIsgnDb.le s.imax
    && natWithin s.fcPrechAsc 100 100000)
  && decide (32 * s.fcPrechAsc + 5 * s.r PWM_DTMAX_DTMAX ≤ 5 * (64 * s.tickU))
  && decide (s.fcOlF1 * 200000000 + s.fcLockn * s.loopU * s.fcOlAcc ≤ s.fcStartT * 200000 * s.fcOlAcc)
  && decide (s.fcWmin ≤ s.fcCatchThr) && decide (s.fcStopThr < s.fcWmin)

/-- The field-control group of the store passes the checks that a start makes of it: its rows clear (R239). -/
def State.storedFieldOk (s : State) : Bool :=
  ({ s with drive := { s.drive with params := s.kern.params.filter (fun e => e.1 / 256 == 1) } }).fieldParamsOk

end Sys2Proof.Machine
end

