-- ==== Sys2Proof/Machine/Torque.lean ====
section
/-!
DEFINITION. The torque that the monitor works out from the Hall currents and the motor model of the safety parameter block
(R378). Torques are in N·m, currents in mA, each an exact fraction; angles count 2⁻³² turn.
-/
namespace Sys2Proof.Machine

open Reg

def pi15 : Int := 3141592653589793
/-- π times a fraction (PRESUMED, assumption 101). -/
def Frac.timesPi (f : Frac) : Frac := f.mul ⟨pi15, 1000000000000000⟩

/-- A third of a turn. -/
def thirdTurn : Nat := 1431655765

def cosF (a : Nat) : Frac := ⟨cosine a, 1073741824⟩
def sinF (a : Nat) : Frac := ⟨sine a, 1073741824⟩

/-- The sum of three phase values against a function of their axes, times 2/3. -/
def axisSum (f : Nat → Frac) (theta : Nat) (a b c : Frac) : Frac :=
  ((((f theta).mul a).add ((f (theta + 2 * thirdTurn)).mul b)).add ((f (theta + thirdTurn)).mul c)).mul ⟨2, 3⟩

/-- Park of Clarke of three phase currents. -/
def parkD (theta : Nat) (a b c : Frac) : Frac := axisSum cosF theta a b c
def parkQ (theta : Nat) (a b c : Frac) : Frac := (axisSum sinF theta a b c).neg

/-- The monitor's angle: POS_ELANG when valid, else the observer's with SENSLESS = 1 (DEDUCED, assumption 100). -/
def State.monAngle (s : State) : Option Nat :=
  if s.b POS_ELANG_VALID then some (s.r POS_ELANG_ANGLE * 65536)
  else if s.b POS_CTRL_SENSLESS then some (bitsOf 32 ((s.mbox 1).fixed 0 32))
  else none

/-- What the monitor has at a boundary: T_h in N·m, and id² + iq² in mA². -/
structure MonView where
  torque : Frac
  sq : Frac

/-- Hall currents in mA. -/
def State.hallMa (s : State) (n : Nat) : Frac := Frac.ofInt (s.ri (PCV_HALLR_VALUE n))
def State.hallValid (s : State) : Bool := s.hallFresh && (List.range 3).all (fun n => s.b (PCV_HALLR_VALID n))

/-- T_h of R378, with the model of the safety parameter block; currents in A, inductances in H. -/
def State.monView (s : State) (theta : Nat) : MonView :=
  let d := (parkD theta (s.hallMa 0) (s.hallMa 1) (s.hallMa 2)).norm
  let q := (parkQ theta (s.hallMa 0) (s.hallMa 1) (s.hallMa 2)).norm
  let dl := (s.pMonLd.sub s.pMonLq).mul ⟨1, 1000⟩
  let flux := s.pMonPsi.add (dl.mul (d.mul ⟨1, 1000⟩))
  { torque := ((flux.mul (q.mul ⟨1, 1000⟩)).mul ⟨3 * (s.pMonP : Int), 2⟩).norm, sq := ((d.mul d).add (q.mul q)).norm }

end Sys2Proof.Machine
end

