-- ==== Sys2Proof/Machine/Sss.lean ====
section
/-!
DEFINITION. The safe-state sequencer (R368 to R377, R381 to R383, R390, R392, R393): commands to the drive, heartbeats,
the safe-state selection, SS1, the Ensign and the latent tests. Times count u of 5 ns.
-/
namespace Sys2Proof.Machine

open Reg

def State.modSss (s : State) (f : Sss → Sss) : State := { s with sss := f s.sss }
def State.modDrive (s : State) (f : Drive → Drive) : State := { s with drive := f s.drive }

/-! Heartbeats (R372). -/

def Beats.get {α : Type} (b : Beats α) (k : Nat) : α := if k = 0 then b.cores else if k = 1 then b.flt else b.saf
def Beats.set {α : Type} (b : Beats α) (k : Nat) (x : α) : Beats α :=
  if k = 0 then { b with cores := x } else if k = 1 then { b with flt := x } else { b with saf := x }

/-- A heartbeat of source `k`: 0 the cores, 1 FLT, 2 SAF. -/
def State.beat (s : State) (k : Nat) : State :=
  s.modSss (fun x => { x with alive := x.alive.set k true, beatAt := x.beatAt.set k s.nowU })

/-- All three heartbeats are in time. -/
def State.beatsOk (s : State) : Bool := s.sss.alive.cores && s.sss.alive.flt && s.sss.alive.saf

/-- HBTO in u; 0 acts as 1. -/
def State.hbtoU (s : State) : Nat := 6400 * max 1 (s.r SSS_CFG_HBTO)
def State.beatLimit (s : State) (k : Nat) : Nat := if k = 2 then msU 3 else s.hbtoU

/-- The kernel's value of HBTO: twice the outer cycle, rounded up to 32 µs, saturated at the field. -/
def State.setHbto (s : State) : State := s.rws SSS_CFG_HBTO (min 4095 (ceilDiv (2 * s.outerU) 6400))

/-! Entering OFF and ARMED. -/

/-- The drive enters OFF: the SSS holds FREEWHEEL with both enables inactive (R33, R236), the drive service is IDLE. -/
def State.enterOff (s : State) : State :=
  let s := ((s.holdSafe .freewheel).stageOverridden).w SSS_STS_DSTATE 0
  let s := (s.w SSS_STS_SS1RUN 0).modSss (fun x => { x with keepAscL := false, relarmMove := false, ss1Wait := false })
  let s := s.modDrive (fun d => { d with svc := .idle, runAtO := false, relarmed := false })
  s.disWake

/-- What leaving OFF or SAFE for ARMED does beside the enables: DIS returns to IDLE (R121), from OFF the drive service
reads its parameters (R240), and the device is in RUN (R7) (DEDUCED, assumption 143). -/
def State.armedFrom (s : State) : State :=
  ((s.readFieldParams.leaveTest.w SSS_STS_DSTATE 1).disLeave).idleEnd

/-- The override lifts. -/
def State.liftOverride (s : State) : State :=
  ((s.w SSS_STS_OVR 0).w SSS_STS_SAFEST 0).modSss (fun x => { x with ascOn := false })

/-! Refusals (R369, R370). -/

/-- A pair whose reaction includes STO or SS1 demands; the odd pair of a two-hand group has no reaction of its own. -/
def State.stopDemand (s : State) : Bool :=
  (List.range 5).any (fun p => bit (s.r SAF_STS_DEMAND) p && s.r (SAF_PAIR_REACT p) % 4 != 0
    && !(s.r (SAF_PAIR_TYPE p) == 4 && p % 2 == 1))

/-- Each Hall input within HALL0 with the bridge off (R392), no sample stale (R21); the values are in mA. -/
def State.hallZeroOk (s : State) : Bool :=
  s.hallFresh && (List.range 3).all (fun n => (Frac.ofInt (s.ri (PCV_HALLR_VALUE n))).abs.le (s.pHall0.mul ⟨1000, 1⟩))

/-- The torque monitor's dry run with an offset of 2 × T_UT: the unintended-torque check, with the bands of ARMED, detects it
(R379, R392) (DEDUCED, assumption 169). -/
def State.dryRunOk (s : State) : Bool :=
  s.hallFresh && s.pTut.lt ((s.monView (s.monAngle.getD 0)).torque.add (s.pTut.mul ⟨2, 1⟩))

/-- LFT_INT hours of RUN have passed since the latent tests last passed (R393). -/
def State.testsDue (s : State) : Bool := s.sss.overdue || decide (s.pLftInt * 117964800 ≤ s.sss.runPeriods)

/-- The conditions of PWM-ready hold now (R73): the handover, the three domains, the release of the SSS's boot-held safe
state, and valid DC-link, current and angle samples; with SENSLESS set no angle is awaited (DEDUCED, assumption 144). -/
def State.readyNow (s : State) : Bool :=
  s.cpm.phase == .running && s.live .cle && s.live .sense && s.live .pwm && !(s.cpm.relOff && s.drv == .safe) && s.vdc.isSome
    && (s.hallValid || (List.range 3).all (fun n => s.b (SDX_RES_VALID n)))
    && (s.b POS_ELANG_VALID || s.b POS_CTRL_SENSLESS)

/-- PWM-ready has been reached since the handover (R73) (DEDUCED, assumption 144). -/
def State.pwmReady (s : State) : Bool := s.cpm.ready || s.readyNow

/-- PWM-ready, once reached, is kept. -/
def State.noteReady (s : State) : State := { s with cpm := { s.cpm with ready := s.pwmReady } }

/-- The first unmet condition of R369, by its REFCODE; 0 when all hold (DEDUCED, assumption 96). -/
def State.releaseRef (s : State) (arm : Bool) : Nat :=
  let dis := s.r DIS_STS_STATE
  if s.sss.goodOuter < 2 then 2
  else if s.holdsClass .A || s.holdsClass .B then 3
  else if s.stopDemand then 4
  else if s.testsDue || (!arm && s.sss.bootTest) then 5
  else if s.b DBG_CTRL_OPEN then 6
  else if !s.kern.blockOk || s.hasFault Fid.paramInvalid || !s.settingsOk then 7
  else if arm && ((dis != 0 && dis != 5 && dis != 6) || s.hasFault Fid.contactorNotOpen) then 9
  else if arm && decide (400 * s.r SSS_CFG_ASCDLY < s.r PWM_DTMAX_DTMAX) then 7
  else if !arm && s.safest != .freewheel then 8
  else 0

/-- A refused command changes nothing but CMDREF and REFCODE (R370) (DEDUCED, assumption 94). -/
def State.refuseCmd (s : State) (code : Nat) : State := (s.w SSS_STS_CMDREF 1).w SSS_STS_REFCODE code

/-- A command to the SSS: the first unmet condition, and the effect when all are met. -/
def State.sssCmd (s : State) (ref : Nat) (f : State → State) : State := if ref = 0 then f s else s.refuseCmd ref

/-- Block `k` is under test: running, or waiting for its rejoin (R437). -/
def State.underTest (s : State) (k : Nat) : Bool :=
  match s.bst.blocks[k]? with
  | some b => b.phase == .running || b.phase == .rejoin
  | none => false

/-- Self-test holds ARM off: a test of CLE, SDX, PCV, FCV, POS or PWM (R437). -/
def State.armHeld (s : State) : Bool := [4, 5, 6, 7, 8, 9].any s.underTest

/-! The commands (R368 to R371, R377). -/

def State.cmdArm (s : State) : State :=
  let ref := if s.drv ≠ .off ∨ s.armHeld ∨ !s.pwmReady then 1 else
    match s.releaseRef true with
    | 0 => if s.hallZeroOk && s.dryRunOk then 0 else 5
    | r => r
  s.sssCmd ref fun s => (s.liftOverride).armedFrom

def State.cmdDisarm (s : State) : State := s.sssCmd (if s.drv = .armed then 0 else 1) State.enterOff

/-- The drive enters STOPPING, and SS1 starts with its timer, unless a pair's demand has started it (R382). -/
def State.enterStopping (s : State) : State :=
  let began := if s.sss.ss1Wait then s.ss1.timerAt else s.nowU
  let s := ((s.w SSS_STS_DSTATE 3).w SSS_STS_SS1RUN 1).modSss (fun x => { x with ss1Wait := false })
  { s with ss1 := { f0 := (s.ri POS_SPDM_SPEED).natAbs, at0 := s.nowU, timerAt := began, slow := 0 } }

def State.cmdStop (s : State) : State :=
  s.sssCmd (if s.offOrSafe then 1 else 0) fun s => if s.drv = .stopping then s else s.enterStopping

def State.cmdSto (s : State) : State := s.enterSafe

/-- DEDUCED, assumption 96. -/
def State.cmdReloff (s : State) : State :=
  s.sssCmd (if s.drv ≠ .safe ∨ s.underTest 9 then 1 else s.releaseRef false) State.enterOff

/-- RELARM: from FREEWHEEL the override lifts at once; from ASC-L it stays until the stage starts; ASC-H first moves to
ASC-L (R371) (DEDUCED, assumption 95). -/
def State.relarmDo (s : State) : State :=
  match s.safest with
  | .ascL => (s.armedFrom.modSss (fun x => { x with keepAscL := true })).modDrive (fun d => { d with relarmed := true })
  | .ascH =>
    let s := (s.holdSafe .ascL).armedFrom
    (s.modSss (fun x => { x with keepAscL := true, relarmMove := !x.ascOn })).modDrive (fun d => { d with relarmed := true })
  | _ => (s.liftOverride).armedFrom

/-- The refusal of a RELARM, or 0. -/
def State.relarmRef (s : State) : Nat := if s.drv ≠ .safe ∨ s.underTest 9 ∨ !s.pwmReady then 1 else s.releaseRef true

def State.cmdRelarm (s : State) : State := s.sssCmd s.relarmRef State.relarmDo

/-- The motor STILL bit as POS publishes it. -/
def State.motorStill (s : State) : Bool := bit (s.r POS_SPDFLG_FM) 3

/-- The refusal of WINDREL in the order of R377, or 0. -/
def State.windrelRef (s : State) : Nat :=
  if !s.offOrSafe || s.underTest 9 then 1 else if s.r DIS_STS_STATE ≠ 4 then 0xA else if !s.sss.motorStill then 0xB else 0

/-- The discharge release: both enables active, the override lifted, the drive where it was (R236, R377). -/
def State.windrelDo (s : State) : State := (s.liftOverride).w SSS_STS_WINDREL 1

def State.cmdWindrel (s : State) : State := s.sssCmd s.windrelRef State.windrelDo

/-! The threshold table and the selection (R373, R374). -/

/-- A frequency in Hz as quarter hertz, rounded down or up, saturated at 16 bits. -/
def quarterHz (f : Frac) (up : Bool) : Nat :=
  let x := (f.mul ⟨4, 1⟩)
  let n := if up then -(x.neg.floor) else x.floor
  (clampI n 0 65535).toNat

/-- f and its freshness. -/
def State.sssSpeed (s : State) : State :=
  if s.sss.posValid then (s.w SSS_SPD_SPEED s.sss.posSpeed).modSss (fun x => { x with fresh := true })
  else if !s.b SSS_STS_NOTBL && !s.b SSS_STS_TBLSTALE && decide (s.nowU < s.sss.portAt + s.hbtoU) && s.sss.obsSpeed != 0 then
    (s.w SSS_SPD_SPEED s.sss.obsSpeed).modSss (fun x => { x with fresh := true })
  else s.modSss (fun x => { x with fresh := false })

/-- The inputs of an O boundary: POS's |speed| with its VALID bit, and what port 20 released since the last one. -/
def State.sssInputs (s : State) : State :=
  let v := s.ri POS_SPDM_SPEED
  let s := s.modSss (fun x => { x with posValid := s.posFresh && bit (s.r POS_SPDFLG_FM) 0, posSpeed := min 65535 (ceilDiv v.natAbs 256) })
  if s.sss.port20 then
    let p := s.cle.port20
    let s := ((s.w SSS_SPD_THR (quarterHz (p.frac 0) false)).w SSS_STS_NOTBL 0).w SSS_STS_TBLSTALE 0
    s.modSss (fun x => { x with port20 := false, obsSpeed := quarterHz (p.frac 1).abs true })
  else s

/-- The reselection at a 1 ms tick in SAFE (R374): none while the speed is not fresh, under the discharge release, without
a table, or without VIO (R376). -/
def State.sssReselect (s : State) : State :=
  if s.drv == .safe && s.sss.fresh && !s.b SSS_STS_WINDREL && !s.b SSS_STS_NOTBL && s.cpm.vio then
    let f := s.r SSS_SPD_SPEED
    let thr := s.r SSS_SPD_THR
    match s.safest with
    | .freewheel => if thr ≤ f then s.holdSafe s.ascSide else s
    | .ascL => if f + s.r SSS_HYS_HYST < thr then s.holdSafe .freewheel else s
    | .ascH => if f + s.r SSS_HYS_HYST < thr then s.holdSafe .freewheel else s
    | .none => s
  else s

/-- In recovery the drive is in OFF whenever the SSS holds FREEWHEEL (R31, R81) (DEDUCED, assumption 62). -/
def State.recoverOff (s : State) : State :=
  if s.cpm.phase == .recovery && s.drv == .safe && s.safest == .freewheel then s.enterOff else s

/-- The SSS's part of a 1 ms tick: selection, RUN time of the latent tests (R393); `periods` ARC periods have passed
(DEDUCED, assumption 99). -/
def State.sssTick (s : State) (periods : Nat) : State :=
  let s := ((s.sssSpeed).sssReselect).recoverOff
  if s.drv = .run then s.modSss (fun x => { x with runPeriods := x.runPeriods + periods }) else s

/-! SS1 (R382, R383). -/

/-- SP1 as the kernel writes it at each O boundary of STOPPING. -/
def State.ss1SetPoint (s : State) : State :=
  s.putSp 1 (stageOf [⟨0, 1⟩, ⟨1, 1⟩, s.pSs1Rate])

/-- The envelope at a time since entry, in Hz. -/
def State.ss1Envelope (s : State) : Frac :=
  let t : Frac := secondsOf (s.nowU - s.ss1.at0)
  let f0 : Frac := ⟨s.ss1.f0, 1024⟩
  (Frac.max ⟨0, 1⟩ (f0.sub (s.pSs1Decmin.mul t))).add s.pSs1Margin

/-- SS1 at an O boundary (DEDUCED, assumption 132). -/
def State.ss1Outer (s : State) : State :=
  let s := s.ss1SetPoint
  let f : Frac := ⟨(s.ri POS_SPDM_SPEED).natAbs, 1024⟩
  let slow := if f.le s.pSs1Fstill then s.ss1.slow + 1 else 0
  let s := { s with ss1 := { s.ss1 with slow := slow } }
  if s.ss1Envelope.lt f then (s.kernelWrote.enterSafe).raise Fid.ss1Ramp
  else if 2 ≤ slow || s.motorStill then s.kernelWrote.enterSafe
  else s

/-! The Ensign (R390). -/

/-- Every registered Halyard safety producer is fresh. -/
def State.hlyFresh (s : State) : Bool := s.hly.producers.all (fun p => decide (p.age < max 1 (s.r HLY_SAFE_SWD)))

def boolBit (b : Bool) (k : Nat) : Nat := if b then 2 ^ k else 0

/-- The Ensign of an O boundary. -/
def State.ensignOf (s : State) : Nat :=
  s.r SSS_STS_DSTATE + 8 * s.r SSS_STS_SAFEST + 32 * s.r SAF_STS_DEMAND
    + 1024 * (s.r SAF_STS_LOCK ||| s.r SAF_STS_RSTREQ) + boolBit (s.sfoDriven 0) 15 + boolBit (s.sfoDriven 1) 16
    + boolBit s.tmon.ok 17 + boolBit (s.b SDX_STS_FBACT) 18 + boolBit (s.b GDN_STS_POSVAL) 19
    + boolBit s.beatsOk 20 + boolBit (s.holdsClass .A) 21 + boolBit (s.holdsClass .B) 22
    + boolBit s.hlyFresh 23 + 268435456 * ((s.r SSS_ENSIGN_ENSIGN / 268435456 + 1) % 16)

/-- The SSS's part of an L boundary: the STILL bit as published, and the end of a release without standstill (R377). -/
def State.sssLoop (s : State) : State :=
  let still := s.motorStill
  let s := s.modSss (fun x => { x with motorStill := still })
  if s.b SSS_STS_WINDREL && !still then s.endWindrel else s

/-- The SSS's part of an O boundary: FLT's heartbeat, the run of good outer cycles, the table, and the Ensign last. -/
def State.sssOuter (s : State) : State :=
  let s := if s.live .sys && !s.flt.selfBad then s.beat 1 else s
  let s := s.modSss (fun x => { x with goodOuter := if s.beatsOk then min 2 (x.goodOuter + 1) else 0 })
  let s := ((s.sssInputs).sssSpeed).noteReady
  (s.fresh 0x080).w SSS_ENSIGN_ENSIGN s.ensignOf

/-- The kernel's own RELOFF after a cold boot, once R369 holds and the SSS holds FREEWHEEL (R368). -/
def State.relOffKernel (s : State) : State :=
  if !s.cpm.relOff then s
  else if s.drv ≠ .safe then { s with cpm := { s.cpm with relOff := false } }
  else if s.kernelPasses && !s.underTest 9 && s.releaseRef false == 0 then
    let s := s.kernelWrote.cmdReloff
    { s with cpm := { s.cpm with relOff := false } }
  else s

/-- The kernel's SS1 work in the frame entry of an O boundary: a pair's demand puts the drive in STOPPING, and a stop in
progress is checked against its envelope (R382). -/
def State.ss1Kernel (s : State) : State :=
  let s := if s.sss.ss1Wait && s.kernelPasses then
      (if s.drv == .armed || s.drv == .run then s.enterStopping else s.modSss (fun x => { x with ss1Wait := false })) else s
  if s.drv = .stopping && s.kernelPasses then s.ss1Outer else s

/-- A pair's SS1 demand starts the SSS timer and the wait for STOPPING; in OFF, SAFE and STOPPING it changes nothing (R382, R383). -/
def State.demandSs1 (s : State) : State :=
  if (s.drv == .armed || s.drv == .run) && !s.sss.ss1Wait then
    let s := (s.w SSS_STS_SS1RUN 1).modSss (fun x => { x with ss1Wait := true, ss1WaitAt := s.nowU })
    { s with ss1 := { s.ss1 with timerAt := s.nowU } }
  else s

/-! The latent tests (R392, R393). -/

/-- A latent test passes: with all five passed since they became due, none is overdue, those of the boot are done, and the
count starts afresh. -/
def State.latentPass (s : State) (k : Nat) : State :=
  let s := (s.autoClear Fid.latentTest).modSss (fun x => { x with passed := bitSet x.passed k })
  if s.sss.passed = 31 then s.modSss (fun x => { x with passed := 0, overdue := false, bootTest := false, runPeriods := 0 }) else s

/-- A latent test's verdict (DEDUCED, assumption 98). -/
def State.latentResult (s : State) (k : Nat) (ok : Bool) : State :=
  if ok then s.latentPass k else (s.w SSS_STS_TFAIL 1).raise Fid.latentTest

/-! The meanings. -/

/-- A write of SSS_CMD reaches the SSS: guarded, the host at Operator. -/
def sssWrite (who : Agent) (s : State) (f : State → State) : Host.Outcome State Fault Refusal :=
  act s fun s => s.when (s.mayWrite who SSS_CMD_CODE) fun s => f (s.fresh 0x080)

/-- ARM (R368, R369). -/
def execArm (who : Agent) (s : State) : Host.Outcome State Fault Refusal := sssWrite who s State.cmdArm
/-- DISARM (R368). -/
def execDisarm (who : Agent) (s : State) : Host.Outcome State Fault Refusal := sssWrite who s State.cmdDisarm
/-- STOP (R368, R382, R383). -/
def execStop (t : Nat) (who : Agent) (s : State) : Host.Outcome State Fault Refusal :=
  sssWrite who s fun s => (s.at t).cmdStop
/-- STO (R368, R381). -/
def execSto (who : Agent) (s : State) : Host.Outcome State Fault Refusal := sssWrite who s State.cmdSto
/-- RELOFF (R368, R369). -/
def execReloff (who : Agent) (s : State) : Host.Outcome State Fault Refusal := sssWrite who s State.cmdReloff
/-- RELARM (R369, R371). -/
def execRelarm (t : Nat) (who : Agent) (s : State) : Host.Outcome State Fault Refusal :=
  sssWrite who s fun s => (s.at t).cmdRelarm
/-- WINDREL (R377). -/
def execWindrel (who : Agent) (s : State) : Host.Outcome State Fault Refusal := sssWrite who s State.cmdWindrel

/-- HEARTBEAT_LOSS (R372): a source's count has run out; the SSS acts on its own. -/
def execHeartbeatLoss (t : Nat) (src : Fin 3) (s : State) : Host.Outcome State Fault Refusal :=
  act s fun s =>
    let s := s.at t
    s.when ((src == 2 || !s.sss.stopped) && decide (s.sss.beatAt.get src.val + s.beatLimit src.val ≤ s.nowU)) fun s =>
      let s := s.modSss (fun x => { x with alive := x.alive.set src.val false, goodOuter := 0 })
      let s := (s.w SSS_STS_HBLOSS 1).setBit SSS_STS_HBSRC src.val
      (s.enterSafe).raise Fid.heartbeatLost src.val

/-- ASC_TURN_ON (R375): ASCDLY after an ASC state was entered, its conducting side turns on. -/
def execAscTurnOn (t : Nat) (s : State) : Host.Outcome State Fault Refusal :=
  act s fun s =>
    let s := s.atF t
    s.when ((s.safest == .ascL || s.safest == .ascH) && s.b SSS_STS_OVR
        && decide (s.sss.ascAt + 400 * s.r SSS_CFG_ASCDLY ≤ s.nowF)) fun s =>
      s.modSss (fun x => { x with ascOn := true, relarmMove := false })

/-- TABLE_STALE (R373): HBTO has passed since port 20 was released. -/
def execTableStale (t : Nat) (s : State) : Host.Outcome State Fault Refusal :=
  act s fun s =>
    let s := s.at t
    s.when (!s.b SSS_STS_NOTBL && decide (s.sss.portAt + s.hbtoU ≤ s.nowU)) fun s => s.w SSS_STS_TBLSTALE 1

/-- SS1_TIME_LIMIT (R382): SS1TMAX has passed since the SSS timer started. -/
def execSs1TimeLimit (t : Nat) (s : State) : Host.Outcome State Fault Refusal :=
  act s fun s =>
    let s := s.at t
    s.when (s.b SSS_STS_SS1RUN && decide (s.ss1.timerAt + msU (s.r SSS_SS1_SS1TMAX) ≤ s.nowU)) fun s =>
      (s.enterSafe).raise Fid.ss1Limit

/-- SS1_NOT_STARTED (R382): SS1START has passed since a pair's SS1 demand and the drive has not entered STOPPING. -/
def execSs1NotStarted (t : Nat) (s : State) : Host.Outcome State Fault Refusal :=
  act s fun s =>
    let s := s.at t
    s.when (s.sss.ss1Wait && decide (s.sss.ss1WaitAt + msU (max 1 (s.r SSS_SS1_SS1START)) ≤ s.nowU)) fun s =>
      (s.enterSafe).raise Fid.ss1NotStarted

/-- The kernel drives SSS_TEST only with the drive in OFF (R393, R399), and before the RELOFF that follows a boot with
FREEWHEEL held (R392) (DEDUCED, assumption 169). -/
def State.mayTest (s : State) : Bool :=
  (s.drv == .off || (s.sss.bootTest && s.drv == .safe && s.safest == .freewheel)) && s.kernelPasses

/-- The pattern of a test: FREEWHEEL, ASC-L, ASC-H. -/
def testPattern (k : Nat) : SafeState := if k = 1 then .ascL else if k = 2 then .ascH else .freewheel

/-- The pads of a pattern, in the order of SSS_STS.PADS. -/
def patternPads (x : SafeState) : Nat :=
  match safeForce x with
  | .low => 0b101010
  | .high => 0b010101
  | _ => 0

/-- A pattern test drives its pattern for 2 µs (R392). -/
def State.drivePattern (s : State) (k : Nat) : State :=
  s.modSss (fun x => { x with pattern := testPattern k, patternEnd := s.nowU + 400 })

/-- A write of SSS_TEST.TEST (R399): a pattern test, or the wait for the SSS's own action on a heartbeat that is withheld. -/
def State.startTest (s : State) (code : Nat) : State :=
  if 1 ≤ code ∧ code ≤ 3 then s.drivePattern (code - 1) else if code = 4 then s.w SSS_STS_TBUSY 1 else s

/-- A pattern test (R392): the levels read back at the pads, in the order of SSS_STS.PADS, against the pattern. -/
def State.padTest (s : State) (k : Nat) (pads : BitVec 6) : State :=
  (s.startTest (k + 1)).latentResult k (pads.toNat == patternPads (testPattern k))

/-- TEST_FREEWHEEL (R392): the pattern for 2 µs, all six off, read back at the pads. -/
def execTestFreewheel (pads : BitVec 6) (s : State) : Host.Outcome State Fault Refusal :=
  act s fun s => s.when s.mayTest fun s => s.padTest 0 pads
/-- TEST_ASC_L (R392): the three low sides on. -/
def execTestAscL (pads : BitVec 6) (s : State) : Host.Outcome State Fault Refusal :=
  act s fun s => s.when s.mayTest fun s => s.padTest 1 pads
/-- TEST_ASC_H (R392): the three high sides on. -/
def execTestAscH (pads : BitVec 6) (s : State) : Host.Outcome State Fault Refusal :=
  act s fun s => s.when s.mayTest fun s => s.padTest 2 pads
/-- TEST_HEARTBEAT_WITHHOLD (R372, R392): the time in u from the last heartbeat to the SSS's own action, when it acted. -/
def execTestHeartbeatWithhold (acted : Option Nat) (s : State) : Host.Outcome State Fault Refusal :=
  act s fun s => s.when s.mayTest fun s =>
    (s.w SSS_STS_TBUSY 0).latentResult 3 (match acted with | some d => decide (d ≤ s.hbtoU + 50) | none => false)

/-- LATENT_TEST_DUE (R393): LFT_INT hours of RUN have passed since the tests last passed. -/
def execLatentTestDue (s : State) : Host.Outcome State Fault Refusal :=
  act s fun s => s.when (decide (s.pLftInt * 117964800 ≤ s.sss.runPeriods)) fun s =>
    s.modSss (fun x => { x with overdue := true, passed := 0 })

end Sys2Proof.Machine
end

