-- ==== Sys2Proof/Machine/Tmon.lean ====
section
/-!
DEFINITION. The torque monitor that both cores run in the frame entry (R378 to R380). Torques are in N·m, powers in mW,
currents in mA, each an exact fraction; angles count 2⁻³² turn.
-/
namespace Sys2Proof.Machine

open Reg

def State.modTmon (s : State) (f : Tmon → Tmon) : State := { s with tmon := f s.tmon }

/-- ω_m in rad/s, from port 4's motor speed. -/
def State.omegaM (s : State) : Frac := (Frac.mk (2 * s.ri POS_SPDM_SPEED) (1024 * max 1 s.pMonP)).timesPi

/-- I_dc in mA, from IDCSRC, when it is valid (R395). -/
def State.idc (s : State) : Option Int :=
  let n := s.pIdcSrc
  if n = 0 then none
  else if n ≤ 13 then (if s.b (PCV_RES_VALID (n + 2)) then some (s.ri (PCV_RES_VALUE (n + 2))) else none)
  else if n ≤ 15 then (if s.b (SDX_RES_VALID (n - 10)) then some (s.ri (SDX_RES_VALUE (n - 10))) else none)
  else none

/-- e_bal of R378 in mW: currents in mA, the DC link in mV, the carrier in kHz. -/
def State.eBal (s : State) (v : MonView) (vdc idc : Int) : Int :=
  let pdc : Frac := ⟨vdc * idc, 1000⟩
  -- 1.5 × R[mΩ] × (mA)² is 1.5 × 10⁻⁹ W
  let copper := (s.pMonRs.mul v.sq).mul ⟨3, 2000000⟩
  let sum := ((s.hallMa 0).abs.add (s.hallMa 1).abs).add (s.hallMa 2).abs
  -- KSW W/(A·kV·kHz) × 10⁻⁶ kV/mV × 10⁻³ A/mA × f kHz, in mW
  let switching := ((s.pKsw.mul sum).mul ⟨vdc, 1000000⟩).mul ⟨100000, max 1 s.tickU⟩
  let shaft := (s.omegaM.mul v.torque).mul ⟨1000, 1⟩
  (((pdc.sub copper).sub switching).sub shaft).floor

/-! The band (R379). -/

/-- T'MOT and T'GEN: the limits of SP7 times DERATE. -/
def State.tMot (s : State) : Frac := ((s.setPoint 7).frac 0).mul ((s.setPoint 7).frac 5)
def State.tGen (s : State) : Frac := ((s.setPoint 7).frac 1).mul ((s.setPoint 7).frac 5)

/-- The least and the greatest of a list of demands in 1/65,536 N·m, and 0. -/
def histMin (l : List Int) : Int := l.foldl min 0
def histMax (l : List Int) : Int := l.foldl max 0

/-- [T_lo, T_hi]. -/
def State.torqueBand (s : State) : Frac × Frac :=
  let fwd := decide (0 ≤ s.ri POS_SPDM_SPEED)
  let speed : Frac × Frac := if fwd then (s.tGen.neg, s.tMot) else (s.tMot.neg, s.tGen)
  match s.drv with
  | .run =>
    if ((s.setPoint 1).lane 1) = 0 then
      (speed.1.max ⟨histMin s.tmon.hist, 65536⟩, speed.2.min ⟨histMax s.tmon.hist, 65536⟩)
    else speed
  | .stopping => if fwd then (s.tGen.neg, ⟨0, 1⟩) else (⟨0, 1⟩, s.tGen)
  | _ => (⟨0, 1⟩, ⟨0, 1⟩)

/-! The checks. -/

/-- The monitor posts its verdict: a guarded STO, and the fault (R379). -/
def State.monStop (s : State) (id : Nat) : State := (s.kernelGsw State.cmdSto).raise id

/-- Unintended torque: violated at every L boundary for t_UT. -/
def State.checkUt (s : State) (v : MonView) : State × Bool :=
  let band := s.torqueBand
  let bad := v.torque.lt (band.1.sub s.pTut) || (band.2.add s.pTut).lt v.torque
  if bad then
    let t0 := s.tmon.utFrom.getD s.nowU
    let s := s.modTmon (fun x => { x with utFrom := some t0 })
    (if t0 + 200000 * s.pTutMs ≤ s.nowU && !s.hasFault Fid.unintendedTorque then s.monStop Fid.unintendedTorque else s, false)
  else (s.modTmon (fun x => { x with utFrom := none }), true)

/-- Path agreement: T_h against MBOX2.T_est. -/
def State.checkPath (s : State) (v : MonView) : State × Bool :=
  let bad := s.pTmonDev.lt (v.torque.sub ((s.mbox 2).frac 0)).abs
  let n := if bad then s.tmon.pathRun + 1 else 0
  let s := s.modTmon (fun x => { x with pathRun := n })
  (if bad && decide (s.pTmonN ≤ n) && !s.hasFault Fid.pathsDisagree then s.monStop Fid.pathsDisagree else s, !bad)

/-- The monitor at an L boundary (R378 to R380) (DEDUCED, assumption 100). -/
def State.monLoop (s : State) : State :=
  if !s.kernelPasses || !s.hallValid then s.modTmon (fun x => { x with utFrom := none, pathRun := 0, ok := true })
  else match s.monAngle with
    | none => s.modTmon (fun x => { x with utFrom := none, pathRun := 0, ok := true })
    | some theta =>
      let v := s.monView theta
      let s := match s.vdc, s.idc with
        | some vdc, some idc => s.modTmon (fun x => { x with balSum := x.balSum + s.eBal v vdc idc, balN := x.balN + 1 })
        | _, _ => s
      if s.b SDX_STS_FBACT then s.modTmon (fun x => { x with utFrom := none, pathRun := 0, ok := x.balRun == 0 })
      else
        let (s, okU) := s.checkUt v
        let (s, okP) := s.checkPath v
        s.modTmon (fun x => { x with ok := okU && okP && x.balRun == 0 })

/-- The energy balance at an O boundary, and the torque demand taken into the history. -/
def State.monOuter (s : State) : State :=
  if !s.kernelPasses then s
  else
    let x := s.tmon
    let dev : Frac := ⟨x.balSum.natAbs, max 1 x.balN⟩
    let bad := decide (0 < x.balN) && (s.pPbalDev.mul ⟨1000000, 1⟩).lt dev
    let n := if bad then x.balRun + 1 else 0
    let demand := (s.setPoint 1).fixed 0 16
    let s := s.modTmon (fun x => { x with balRun := n, balSum := 0, balN := 0, hist := (demand :: x.hist).take s.pTmonHist })
    if bad && decide (s.pPbalN ≤ n) && !s.hasFault Fid.energyBalance then s.monStop Fid.energyBalance else s

end Sys2Proof.Machine
end

