-- ==== Sys2Proof/Machine/Drive.lean ====
section
/-!
DEFINITION. The kernel's drive service (R216, R226 to R237, R239, R240): the state machine that starts the motor, catches
a turning rotor, recovers a lost one and discharges the windings. Times count u of 5 ns; lanes of SP5 count 1/64.
-/
namespace Sys2Proof.Machine

open Reg

/-! SP5 (R226). -/

def DriveSvc.mode : DriveSvc → Int
  | .meas => 1 | .short => 2 | .align => 3 | .ramp => 4 | .catch => 5 | .obs => 5 | .sens => 6 | .wind => 7
  | .idle => 0 | .lost => 0 | .retry => 0

/-- A write of SP5: the mode and lanes m1 to m5; m7 counts the writes, modulo 65,536 (DEDUCED, assumption 92). -/
def State.putMode (s : State) (mode m1 m2 m3 m4 m5 : Int) : State :=
  let seq := (s.drive.seq + 1) % 65536
  let l := [mode * 64, m1, m2, m3, m4, m5]
  (s.modDrive (fun d => { d with lanes := l, seq := seq })).putSp 5 (Stage.mk' (l ++ [0, ((64 * seq : Nat) : Int)]) 17)

/-- Enter a state of R227 from now on, with its mode and no further lanes. -/
def State.driveGo (s : State) (svc : DriveSvc) : State :=
  (s.modDrive (fun d => { d with svc := svc, since := some s.nowU, lock := 0, bad := 0 })).putMode svc.mode 0 0 0 0 0

/-! The PWM stage. -/

def State.stageOn (s : State) : Bool := s.stageState == .start || s.stageState == .run

/-- The drive service puts the PWM stage in RUN; after a RELARM from an ASC state it first writes PRECHW, and starts the
stage after the next O boundary (R371). -/
def State.askRun (s : State) : State :=
  if s.stageOn then s
  else if s.drive.relarmed then
    let s := s.modDrive (fun d => { d with relarmed := false, runAtO := true, prechOld := some (s.r PWM_START_PRECHW) })
    s.rws PWM_START_PRECHW (s.fcPrechAsc / 5)
  else s.w PWM_CTRL_RUN 1

/-- The PWM stage goes to IDLE at the next C boundary. -/
def State.askIdle (s : State) : State := (s.w PWM_CTRL_RUN 0).modDrive (fun d => { d with runAtO := false })

/-! The observer and the angle. -/

def State.angleValid (s : State) : Bool := s.b POS_ELANG_VALID
def State.obsSpeed (s : State) : Frac := (s.mbox 1).frac 1
def State.obsStatus (s : State) : Int := (s.mbox 1).fixed 5 0
/-- ε ≤ OBS_RBND. -/
def State.obsBound (s : State) : Bool := ((s.mbox 1).frac 2).le ⟨s.fcRbnd, 256⟩
def State.obsGood (s : State) : Bool := s.obsStatus == 1 && s.obsBound
def State.obsBad (s : State) : Bool := s.r (CLE_MBOX8_SEQ 1) == s.drive.lastSeq || s.obsStatus == 0 || !s.obsBound

/-- The sign of the demand: of the speed demand in speed mode, of T_d, which iq* carries, in torque mode (R221, R227). -/
def State.demandSign (s : State) : Int :=
  let x := if (s.setPoint 1).lane 1 = 0 then (s.setPoint 0).lane 1 else (s.setPoint 1).lane 0
  if 0 < x then 1 else if x < 0 then -1 else 0

/-! Entries. -/

/-- RAMP (R227, R230): m5 is the start frequency. -/
def State.goRamp (s : State) (m5 : Int) : State :=
  (s.modDrive (fun d => { d with svc := .ramp, since := some s.nowU, lock := 0, bad := 0 })).putMode 4
    (s.demandSign * 64 * s.fcOlF1) (64 * s.fcOlAcc) (64 * s.fcOlI) 0 m5

/-- The alignment current of the present try (R231), in 1/64 A. -/
def State.alignCurrent (s : State) : Int :=
  let k := s.drive.tries
  (Frac.min (Frac.mk (s.fcAlignI * 5 ^ k : Nat) (4 ^ k)) s.imax |>.mul ⟨64, 1⟩).floor

/-- ALIGN (R229). -/
def State.goAlign (s : State) : State :=
  ((s.modDrive (fun d => { d with svc := .align, since := some s.nowU, lock := 0, bad := 0 })).putMode 3 0 0 s.alignCurrent 0 0).askRun

/-- MEAS (R228): its time begins at the first L boundary after entry. -/
def State.goMeas (s : State) (fromLost : Bool) : State :=
  (s.driveGo .meas).modDrive (fun d => { d with since := none, fromLost := fromLost })

/-- CATCH (R227, R233): its time and mode OBSERVER begin when the stage is in RUN. -/
def State.goCatch (s : State) : State :=
  (s.modDrive (fun d => { d with svc := .catch, since := none, lock := 0, bad := 0 })).askRun

/-- OBS: the count of tries returns to 0 (R231). -/
def State.goObs (s : State) : State :=
  (s.driveGo .obs).modDrive (fun d => { d with tries := 0, fromLost := false, holdFrom := some s.nowU })

/-- OBS by a lock in CATCH, which clears "Observer rotor lost" (R230, R239). -/
def State.goLocked (s : State) : State := s.goObs.autoClear Fid.rotorLost

/-- LOST: the drive service's own request for the safe state (R232, R233) (DEDUCED, assumption 97). -/
def State.goLost (s : State) : State :=
  let s := (s.kernelGsw (fun s => s.enterSafe true)).driveGo .lost
  s.modDrive (fun d => { d with lostAt := s.nowU, fromLost := true, holdFrom := none })

/-- A failed try (R231). -/
def State.failTry (s : State) : State :=
  let s := s.askIdle.modDrive (fun d => { d with tries := d.tries + 1 })
  if s.fcStartN ≤ s.drive.tries then (s.driveGo .idle).raise Fid.startFailed else s.driveGo .retry

/-! The start command (R216, R227, R231, R240). -/

/-- An enabled program with the settings that R216 requires. -/
def State.hasProg (s : State) (curloop tsrc : Bool) (tlev prio : Nat) : Bool :=
  (List.range 8).any (fun p => bit (s.r CLE_CTRL_PEN) p && s.b (CLE_PCFG_CURLOOP p) == curloop && s.b (CLE_PCFG_TSRC p) == tsrc
    && s.r (CLE_PCFG_TLEV p) == tlev && s.r (CLE_PCFG_PRIO p) == prio && (tsrc || s.r (CLE_PTIM_DIV p) == 0))

/-- The current loop, the torque estimator with the observer beside it or within it, and the outer loop (R216). -/
def State.programsOk (s : State) : Bool :=
  s.hasProg true true (if s.b HOI_FRAME_LOOPT then 1 else 0) 0 && s.hasProg false false 2 1 && s.hasProg false false 3 2

/-- START: refused outside ARMED by the SSS, and by the drive service outside IDLE or when a check fails (DEDUCED, assumption
94). -/
def State.cmdStart (s : State) : State :=
  if s.drv ≠ .armed ∨ s.drive.svc ≠ .idle then s.refuseCmd 1
  else if !s.fieldParamsOk then (s.refuseCmd 7).raise Fid.fieldParams
  else if !s.programsOk then s.refuseCmd 7
  else
    let s' := s.modDrive (fun d => { d with tries := 0, fromLost := false })
    if s.angleValid then (s'.driveGo .sens).askRun
    else if s.b POS_CTRL_SENSLESS then s'.goMeas false
    else s.refuseCmd 1

/-! Winding discharge (R236, R237). -/

/-- Standstill is confirmed under R16. -/
def State.standstill (s : State) : Bool := !s.cpm.coasting

/-- The conditions of WIND. -/
def State.windOk (s : State) : Bool :=
  s.standstill && s.latched.isEmpty && (s.angleValid || s.b POS_CTRL_SENSLESS)
    && !([Fid.trip, Fid.oc, Fid.ov, Fid.readback, Fid.snLost, Fid.shuntLost, Fid.kirchhoff, Fid.prediction, Fid.singlePath,
      Fid.noPath, Fid.hallRange, Fid.dcLinkLost, Fid.refCheck].any s.hasFault)

/-- WIND: under the release, the stage runs with id = ID_WIND. -/
def State.goWind (s : State) : State :=
  ((s.modDrive (fun d => { d with svc := .wind, since := some s.nowU, lock := 0, bad := 0 })).putMode 7 0 0
    (64 * s.fcIdWind) 0 0).askRun

/-- The drive service sees WINDREQ. -/
def State.driveWind (s : State) : State :=
  let s := s.modDrive (fun d => { d with askedRel := true })
  if s.windOk && s.windrelRef == 0 && s.kernelPasses then (s.kernelWrote.windrelDo).goWind else s.raise Fid.windNotRun

/-! The loop task (R226, R230, R232). -/

def State.lockCount (s : State) : State :=
  let inLock := s.drive.svc == .ramp || (s.drive.svc == .catch && s.drive.since.isSome) || s.drive.svc == .obs
  s.modDrive (fun d => { d with lock := if inLock && s.obsGood then d.lock + 1 else 0 })

/-- What the drive service's state does at an L boundary. -/
def State.driveState (s : State) : State :=
  let locked := decide (s.fcLockn ≤ s.drive.lock)
  match s.drive.svc with
  | .meas => if s.drive.since.isNone then s.modDrive (fun d => { d with since := some s.nowU }) else s
  | .short => if (s.obsSpeed.abs).lt (Frac.ofInt s.fcStopThr) then s.goAlign else s
  | .ramp => if locked then s.goObs else s
  | .catch =>
    if s.drive.since.isNone && s.stageState == .run then s.driveGo .catch else if locked then s.goLocked else s
  | .obs =>
    let bad := if s.obsBad then s.drive.bad + 1 else 0
    let s := s.modDrive (fun d => { d with bad := bad })
    let s := if locked then s.autoClear Fid.rotorLost else s
    if bad < 3 ∧ s.obsStatus = 2 ∧ s.obsBound then s.goRamp ((s.obsSpeed.mul ⟨64, 1⟩).floor) else s
  | .sens =>
    if s.angleValid then s
    else if s.b POS_CTRL_SENSLESS && s.obsStatus == 1 then s.goObs
    else s.goLost
  | .wind => if s.b SSS_STS_WINDREL then s else (s.askIdle).driveGo .idle
  | .idle => if s.drive.lanes.headD 0 ≠ 0 then s.putMode 0 0 0 0 0 0 else s
  | .align => s
  | .lost => s
  | .retry => s

/-- PRECHW as found is written back after the start (R371). -/
def State.prechBack (s : State) : State :=
  match s.drive.prechOld with
  | some v => if s.stageOn && !s.drive.runAtO then
      (s.rws PWM_START_PRECHW v).modDrive (fun d => { d with prechOld := none }) else s
  | none => s

/-- The loop task at an L boundary. -/
def State.driveLoop (s : State) : State :=
  if s.cpm.phase ≠ .running then s
  else
    let s := ((s.lockCount).driveState).prechBack
    s.modDrive (fun d => { d with lastSeq := s.r (CLE_MBOX8_SEQ 1) })

/-- The drive service at an O boundary: a start that waited for PRECHW to be in force, and a request of DIS for the windings. -/
def State.driveOuter (s : State) : State :=
  if s.cpm.phase ≠ .running then s
  else
    let inForce := s.shadowOf PWM_START_PRECHW == s.r PWM_START_PRECHW
    let s := if s.drive.runAtO && inForce then (s.modDrive (fun d => { d with runAtO := false })).w PWM_CTRL_RUN 1 else s
    if s.b DIS_STS_WINDREQ && !s.drive.askedRel && s.r DIS_STS_STATE == 4 then s.driveWind else s

/-! The meanings. -/

/-- The drive service runs: the cores have a clock, or the drive service's timer gives them one (R7, R50) (DEDUCED, assumption
97). -/
def State.driveAwake (s : State) : Bool := s.cpm.dev == .run || s.cpm.dev == .idle

/-- A timer of the drive service has run out: the state has lasted at least so long. -/
def State.lasted (s : State) (svc : DriveSvc) (u : Nat) : Bool :=
  s.driveAwake && s.drive.svc == svc && (match s.drive.since with | some a => decide (a + u ≤ s.nowU) | none => false)

/-- START (R227, R368). -/
def execStart (t : Nat) (who : Agent) (s : State) : Host.Outcome State Fault Refusal :=
  sssWrite who s fun s => (s.at t).cmdStart

/-- The signal that the bridge allows is valid (R228). -/
def State.measValid (s : State) : Bool :=
  match s.safest with
  | .ascL => !s.shuntFailed
  | .ascH => !s.hallFailed
  | _ => s.b (SDX_RES_VALID 4) && s.b (SDX_RES_VALID 5)

/-- Three quarters of the square of the amplitude of the line voltages on SDI4 and SDI5, v_ab and v_bc in mV, by the vα and vβ
of R225: v_ab² + v_ab v_bc + v_bc². -/
def State.lineSq (s : State) : Int :=
  let a := s.ri (SDX_RES_VALUE 4)
  let b := s.ri (SDX_RES_VALUE 5)
  a * a + a * b + b * b

/-- The measured speed: a line-voltage amplitude below 1.0 V gives 0 (R228). -/
def State.measSpeed (s : State) : Frac :=
  if s.safest ≠ .ascL ∧ s.safest ≠ .ascH ∧ 4 * s.lineSq < 3000000 then ⟨0, 1⟩ else s.obsSpeed

/-- What MEAS found, in LOST (R233). -/
def State.measLost (s : State) : State :=
  if (Frac.ofInt s.fcCatchThr).le s.measSpeed.abs then
    if s.relarmRef = 0 && s.kernelPasses then (s.kernelWrote.relarmDo).goCatch else (s.kernelGsw State.cmdRelarm).goLost
  else s.driveGo .idle

/-- What MEAS found, at a start (R228). -/
def State.measStart (s : State) : State :=
  let f := s.measSpeed.abs
  if (Frac.ofInt s.fcCatchThr).le f then s.goCatch
  else if (Frac.ofInt s.fcStopThr).le f then (s.driveGo .short).askRun
  else s.goAlign

/-- MEAS_END (R228, R233): at the first L boundary at or after the 2 ms window's end. -/
def execMeasEnd (t : Nat) (s : State) : Host.Outcome State Fault Refusal :=
  act s fun s =>
    let s := s.at t
    s.when (s.lasted .meas (msU 2)) fun s =>
      if s.measValid then
        let s := s.autoClear Fid.catchMeas
        if s.drive.fromLost then s.measLost else s.measStart
      else (s.driveGo .idle).raise Fid.catchMeas

/-- SHORT_TIMEOUT (R227). -/
def execShortTimeout (t : Nat) (s : State) : Host.Outcome State Fault Refusal :=
  act s fun s => let s := s.at t; s.when (s.lasted .short (msU s.fcShortTmax)) State.failTry

/-- ALIGN_END (R227, R229). -/
def execAlignEnd (t : Nat) (s : State) : Host.Outcome State Fault Refusal :=
  act s fun s => let s := s.at t; s.when (s.lasted .align (msU s.fcAlignT)) fun s => s.goRamp 0

/-- START_TIMEOUT (R227, R231). -/
def execStartTimeout (t : Nat) (s : State) : Host.Outcome State Fault Refusal :=
  act s fun s => let s := s.at t; s.when (s.lasted .ramp (msU s.fcStartT)) State.failTry

/-- RETRY_WAIT_END (R231). -/
def execRetryWaitEnd (t : Nat) (s : State) : Host.Outcome State Fault Refusal :=
  act s fun s => let s := s.at t; s.when (s.lasted .retry (msU s.fcRetryWait)) fun s => s.goMeas false

/-- ROTOR_LOST (R232): the third consecutive bad boundary in OBS. -/
def execRotorLost (t : Nat) (s : State) : Host.Outcome State Fault Refusal :=
  act s fun s =>
    let s := s.at t
    s.when (s.driveAwake && s.drive.svc == .obs && decide (3 ≤ s.drive.bad)) fun s =>
      let s := s.raise Fid.rotorLost
      if s.angleValid then s.driveGo .sens else s.goLost

/-- RECATCH_DELAY_END (R233) (DEDUCED, assumption 97). -/
def execRecatchDelayEnd (t : Nat) (s : State) : Host.Outcome State Fault Refusal :=
  act s fun s =>
    let s := s.at t
    s.when (s.driveAwake && s.drive.svc == .lost && decide (s.drive.lostAt + msU s.fcRecatchDelay ≤ s.nowU)
        && decide (s.drive.attempts < s.fcRecatchN)) fun s => s.goMeas true

/-- A failed attempt (R233). -/
def State.failAttempt (s : State) : State :=
  let s := (s.goLost).modDrive (fun d => { d with attempts := d.attempts + 1 })
  if s.fcRecatchN ≤ s.drive.attempts then s.raise Fid.recatchFailed else s

/-- CATCH_TIMEOUT (R227, R233). -/
def execCatchTimeout (t : Nat) (s : State) : Host.Outcome State Fault Refusal :=
  act s fun s =>
    let s := s.at t
    s.when (s.lasted .catch (msU s.fcCatchT)) fun s => if s.drive.fromLost then s.failAttempt else s.failTry

/-- RECATCH_HOLD_END (R233). -/
def execRecatchHoldEnd (t : Nat) (s : State) : Host.Outcome State Fault Refusal :=
  act s fun s =>
    let s := s.at t
    let run := match s.drive.holdFrom with | some a => decide (a + secU s.fcRecatchHold ≤ s.nowU) | none => false
    s.when (s.driveAwake && s.drive.svc == .obs && run) fun s => s.modDrive (fun d => { d with attempts := 0 })

end Sys2Proof.Machine
end

