-- ==== Sys2Proof/Machine/Saf.lean ====
section
/-!
DEFINITION. The safety inputs and outputs (R384 to R389): channels, pairs, two-hand groups, Swallowtail, test pulses,
reactions, resets and the outputs with their off-pulses. Stamps count ARC periods on the AON time counter.
-/
namespace Sys2Proof.Machine

open Reg

def State.modSaf (s : State) (f : Saf → Saf) : State := { s with saf := f s.saf }

def State.pair (s : State) (p : Nat) : SafPair :=
  if p = 0 then s.saf.p0 else if p = 1 then s.saf.p1 else if p = 2 then s.saf.p2 else if p = 3 then s.saf.p3 else s.saf.p4
def State.setPair (s : State) (p : Nat) (x : SafPair) : State :=
  s.modSaf (fun f => if p = 0 then { f with p0 := x } else if p = 1 then { f with p1 := x } else if p = 2 then { f with p2 := x }
    else if p = 3 then { f with p3 := x } else { f with p4 := x })

/-- An interrupt event of SAF: 0 demand change, 1 discrepancy, 2 test pulse, 3 readback, 4 reset accepted. -/
def State.safIrq (s : State) (k : Nat) : State := s.setBit SAF_IRQ_EVT k

/-! Kinds and channel states (R384, R386). -/

/-- The kind of a pair: 0 unused, else its TYPE; a TWOHAND pair without its partner acts as unused (DEDUCED, assumption 133). -/
def State.safKind (s : State) (p : Nat) : Nat :=
  let t := s.r (SAF_PAIR_TYPE p)
  if t = 4 then (if p < 4 ∧ s.r (SAF_PAIR_TYPE (p ^^^ 1)) = 4 then 4 else 0)
  else if t ≤ 5 then t else 0

def State.safInUse (s : State) (p : Nat) : Bool := s.safKind p != 0

/-- The reactions of a pair; the odd pair of a two-hand group has none. -/
def State.safReact (s : State) (p : Nat) : Nat :=
  let k := s.safKind p
  if k = 0 ∨ (k = 4 ∧ p % 2 = 1) then 0 else s.r (SAF_PAIR_REACT p)

/-- A channel is in its safe state: low, but channel B of GUARD-ANT when high; a missed pulse, and a level still to be
accepted after a loss of VIO, count as safe. -/
def SafChan.isSafe (c : SafChan) (highSafe : Bool) : Bool := c.missed || c.wait || c.level == highSafe

def State.safeA (s : State) (p : Nat) : Bool := (s.pair p).a.isSafe false
def State.safeB (s : State) (p : Nat) : Bool := (s.pair p).b.isSafe (s.safKind p == 3)

/-- The states of a hand (R386). -/
inductive Hand where
  | actuated | released | discrepant
deriving DecidableEq, Repr

def State.hand (s : State) (p : Nat) : Hand :=
  let x := s.pair p
  if x.a.level && !x.b.level then .actuated else if !x.a.level && x.b.level then .released else .discrepant

/-- Swallowtail's disagreement (R388). -/
def State.disagree (s : State) (p : Nat) : Bool :=
  if s.safKind p = 4 then s.hand p == .discrepant else s.safeA p != s.safeB p

/-- What ends a lock: both channels safe, or the hand released (R388). -/
def State.bothSafe (s : State) (p : Nat) : Bool :=
  if s.safKind p = 4 then s.hand p == .released else s.safeA p && s.safeB p

/-! Outputs (R387, R389). -/

def State.setSafOut (s : State) (n : Nat) (x : SafOut) : State :=
  s.modSaf (fun f => if n = 0 then { f with out0 := x } else { f with out1 := x })

/-- A pair's demand holds output `n` low. -/
def State.outHeld (s : State) (n : Nat) : Bool :=
  (List.range 5).any (fun p => bit (s.r SAF_STS_DEMAND) p && bit (s.safReact p) (4 + n))

/-- The levels driven: ON, no pair holding it low, not latched off, SAF powered with VIO present (DEDUCED, assumption 99). -/
def State.safOutputs (s : State) : State :=
  (List.range 2).foldl (fun s n =>
    let high := bit (s.r SAF_OUT_ON) n && !s.outHeld n && !bit (s.r SAF_OUT_LATCHOFF) n && s.cpm.vio
    let o := s.safOut n
    (s.w SAF_OUT_LEVEL (bitPut (s.r SAF_OUT_LEVEL) n high)).setSafOut n
      { o with highAt := if high then some (o.highAt.getD s.nowU) else none }) s

/-- ON clears for the outputs of a reaction: they stay low until ON is written again (R387). -/
def State.outsOff (s : State) (react : Nat) : State :=
  s.w SAF_OUT_ON (bitPut (bitPut (s.r SAF_OUT_ON) 0 (bit (s.r SAF_OUT_ON) 0 && !bit react 4)) 1
    (bit (s.r SAF_OUT_ON) 1 && !bit react 5))

/-! Demand and reactions (R384, R387). -/

/-- The reactions of a pair that begins demanding; STO wins over SS1. -/
def State.safReactions (s : State) (r : Nat) : State :=
  let s := if bit r 0 then s.enterSafe else if bit r 1 then s.demandSs1 else s
  let s := if bit r 2 then { s with ax0 := { s.ax0 with stopReq := true } } else s
  let s := if bit r 3 then { s with ax1 := { s.ax1 with stopReq := true } } else s
  let s := if bit r 6 then s.w GDN_CTRL_MASTER 0 else s
  s.outsOff r

/-- A pair's demand as it now is: reactions when it begins; at its end the outputs it held stay low. -/
def State.setDemand (s : State) (p : Nat) (d : Bool) : State :=
  let was := bit (s.r SAF_STS_DEMAND) p
  if d == was then s
  else
    let s := (s.w SAF_STS_DEMAND (bitPut (s.r SAF_STS_DEMAND) p d)).safIrq 0
    if d then s.safReactions (s.safReact p) else s.outsOff (s.safReact p)

/-- Swallowtail's stamps follow the channels (R388); none without VIO. -/
def State.safStamp (s : State) (p stamp : Nat) : State :=
  let x := s.pair p
  if x.a.wait || x.b.wait then s
  else match s.disagree p, x.began with
    | true, none => s.setPair p { x with began := some stamp }
    | false, some b =>
      s.setPair p { x with began := none, ended := some (max (x.ended.getD 0) (stamp - b)) }
    | _, _ => s

/-- A pair that is no hand: its cause, its wait for a reset, its demand. -/
def State.safUpdatePlain (s : State) (p : Nat) : State :=
  let x := s.pair p
  let k := s.safKind p
  let cause := s.safeA p || s.safeB p || bit (s.r SAF_STS_LOCK) p
  let auto := k != 1 && s.b (SAF_PAIR_AUTORST p)
  let s := if x.cause && !cause && (x.force || !auto) then s.setBit SAF_STS_RSTREQ p else s
  let s := s.setPair p { x with cause := cause, force := x.force && cause }
  s.setDemand p (cause || bit (s.r SAF_STS_RSTREQ) p)

def State.twoHand (s : State) (g : Nat) : TwoHand := if g = 0 then s.saf.th01 else s.saf.th23
def State.setTwoHand (s : State) (g : Nat) (x : TwoHand) : State :=
  s.modSaf (fun f => if g = 0 then { f with th01 := x } else { f with th23 := x })

/-- A group cannot enable: a hand is locked, or a channel has missed a pulse or waits after a loss of VIO. -/
def State.groupBad (s : State) (e : Nat) : Bool :=
  bit (s.r SAF_STS_LOCK) e || bit (s.r SAF_STS_LOCK) (e + 1)
    || (let x := s.pair e; x.a.missed || x.b.missed || x.a.wait || x.b.wait)
    || (let x := s.pair (e + 1); x.a.missed || x.b.missed || x.a.wait || x.b.wait)

/-- A two-hand group (R386): 500 ms is 16,384 ARC periods. -/
def State.safGroup (s : State) (g stamp : Nat) : State :=
  let e := 2 * g
  let ha := s.hand e
  let hb := s.hand (e + 1)
  let bad := s.groupBad e
  let on := bit (s.r SAF_STS_THEN) g
  let x := s.twoHand g
  let both := ha == .actuated && hb == .actuated
  let s :=
    if on then
      if both && !bad then s else (s.clrBit SAF_STS_THEN g).setTwoHand g {}
    else if !bad && ha == .released && hb == .released then s.setTwoHand g { released := true, first := none }
    else if x.released && !bad then
      if both then
        let inTime := match x.first with | some t => decide (stamp - t ≤ 16384) | none => true
        (if inTime then s.setBit SAF_STS_THEN g else s).setTwoHand g {}
      else if (ha == .actuated || hb == .actuated) && x.first.isNone then
        s.setTwoHand g { x with first := some stamp }
      else s
    else s
  let d := !bit (s.r SAF_STS_THEN) g
  (s.setDemand e d).setDemand (e + 1) d

/-- A pair is evaluated afresh. -/
def State.safUpdate (s : State) (p stamp : Nat) : State :=
  match s.safKind p with
  | 0 => (s.w SAF_STS_DEMAND (bitPut (s.r SAF_STS_DEMAND) p false))
  | 4 => (s.safStamp p stamp).safGroup (p / 2) stamp
  | _ => (s.safStamp p stamp).safUpdatePlain p

/-- Every pair is evaluated, and the outputs follow. -/
def State.safAll (s : State) (stamp : Nat) : State := ((List.range 5).foldl (fun s p => s.safUpdate p stamp) s).safOutputs

/-! Channels. -/

/-- Change the channel of input `n`. -/
def State.setChan (s : State) (n : Nat) (f : SafChan → SafChan) : State :=
  let x := s.pair (n / 2)
  s.setPair (n / 2) (if n % 2 = 0 then { x with a := f x.a } else { x with b := f x.b })

def State.chan (s : State) (n : Nat) : SafChan := if n % 2 = 0 then (s.pair (n / 2)).a else (s.pair (n / 2)).b

/-- The pair's contacts are checked by test pulses: in use, TPEN set, no light curtain (R384, R385). -/
def State.pulsed (s : State) (p : Nat) : Bool :=
  let k := s.safKind p
  k != 0 && k != 5 && s.b (SAF_PAIR_TPEN p)

/-- Input `n` keeps its accepted level: its own test pulse is under way or ended less than 20 µs ago (R385). -/
def State.inputKept (s : State) (n : Nat) : Bool := s.pulsed (n / 2) && s.tpLow (n % 2) 4000

/-- A level has been stable for FILT × 0.25 ms, or for two samples when FILT is 0 (R384). -/
def State.inputStable (s : State) (n samples : Nat) : Bool :=
  let f := s.r (SAF_PAIR_FILT (n / 2))
  decide ((if f = 0 then 2 else 250 * f) ≤ samples) && !s.inputKept n

/-- A level of input `n` has been stable for its filter and is accepted (R384). -/
def State.safInput (s : State) (n stamp : Nat) (level : Bool) : State :=
  if s.cpm.vio then ((s.setChan n (fun c => { c with level := level, wait := false })).safUpdate (n / 2) stamp).safOutputs
  else s

/-- VIO is lost: every channel of every pair in use is in its safe state at once, and each needs a reset (R26, R384). -/
def State.safVioLost (s : State) : State :=
  let s := s.w SAF_STS_VIOLOST 1
  let s := (List.range 5).foldl (fun s p =>
    let x := s.pair p
    let force := s.safKind p != 4 && s.safInUse p
    s.setPair p { x with a := { x.a with wait := true }, b := { x.b with wait := true }, began := none, ended := none,
                         force := force || x.force }) s
  s.safAll s.cpm.aon

/-- OPEN of an output may have swapped. -/
def State.noteOpen (s : State) (n : Nat) : State :=
  let o := s.safOut n
  let now := bit (s.r SAF_OUT_OPEN) n
  if now == o.openNow then s else s.setSafOut n { o with openNow := now, openWas := o.openNow, openAt := s.nowU }

/-- Pair configurations swap at an H boundary: demands follow them, and the test-pulse outputs (R385). -/
def State.safConfig (s : State) : State :=
  let s := s.modSaf (fun f => { f with
    tpo := (List.range 5).any s.safInUse
    pulseFrom := if (List.range 5).any s.pulsed then some (f.pulseFrom.getD s.nowU) else none })
  ((s.noteOpen 0).noteOpen 1).safAll s.cpm.aon

/-! Swallowtail at a 1 ms tick (R388, R393). -/

def tda (td : Nat) : Nat := ceilDiv (max 1 td * 4096) 125

/-- A discrepancy of TDA or longer: DISC, and outside test mode LOCK and the fault. -/
def State.safFire (s : State) (p age stamp : Nat) : State :=
  let s := (((s.setBit SAF_STS_DISC p).w SAF_DISC_AGE (min 65535 age)).w SAF_DISC_PAIR p).safIrq 1
  let s := s.modSaf (fun f => { f with discSeen := bitSet f.discSeen p })
  if s.b SAF_TP_TEST then s
  else ((s.setBit SAF_STS_LOCK p).raise Fid.inputDiscrepancy p).safUpdate p stamp

/-- One pair at a tick: a lock that ends, then a discrepancy that fires, at every tick that it lasts (R388). -/
def State.safTickPair (s : State) (p stamp : Nat) : State :=
  let x := s.pair p
  if !s.safInUse p then s.setPair p { x with ended := none }
  else if x.a.wait || x.b.wait then s
  else
    let s := if bit (s.r SAF_STS_LOCK) p && s.bothSafe p then
        let s := s.clrBit SAF_STS_LOCK p
        if s.safKind p = 4 then (s.autoClear Fid.inputDiscrepancy p).safUpdate p stamp
        else ((s.setPair p { s.pair p with force := true }).setBit SAF_STS_RSTREQ p).safUpdate p stamp
      else s
    let x := s.pair p
    let now := match x.began with
      | some b => if tda (s.r (SAF_PAIR_TD p)) ≤ stamp - b then some (stamp - b) else none
      | none => none
    let past := match x.ended with
      | some a => if tda (s.r (SAF_PAIR_TD p)) ≤ a then some a else none
      | none => none
    let s := s.setPair p { x with ended := none }
    match now, past with
    | some a, some b => s.safFire p (max a b) stamp
    | some a, none => s.safFire p a stamp
    | none, some b => s.safFire p b stamp
    | none, none => s

/-! Readback (R389). -/

/-- A check of SFBn; SFBN failed ones in a row latch the output low. -/
def State.sfbCheck (s : State) (n : Nat) (ok : Bool) : State :=
  let fails := if ok then 0 else (s.safOut n).fails + 1
  let s := s.setSafOut n { s.safOut n with fails := fails }
  if ok || bit (s.r SAF_OUT_LATCHOFF) n then s
  else
    let s := (s.setBit SAF_OUT_RBERR n).safIrq 3
    if max 1 (s.r SAF_OPT_SFBN) ≤ fails then ((s.setBit SAF_OUT_LATCHOFF n).safOutputs).raise Fid.outputReadback n else s

/-- SAF's part of a 1 ms tick: its heartbeat, Swallowtail, and the readback of both outputs at the levels read. -/
def State.safTick (s : State) (stamp : Nat) (sfb0 sfb1 : Bool) : State :=
  let s := s.beat 2
  let s := ((List.range 5).foldl (fun s p => s.safTickPair p stamp) s).safOutputs
  let s := (s.setSafOut 0 { s.safOut 0 with sfb := sfb0 }).setSafOut 1 { s.safOut 1 with sfb := sfb1 }
  (s.sfbCheck 0 (sfb0 == s.sfoDriven 0)).sfbCheck 1 (sfb1 == s.sfoDriven 1)

/-! The meanings. -/

/-- A pulse that input `n` missed: it counts as in its safe state, with TPERR and the fault. -/
def State.pulseMissed (s : State) (n : Nat) : State :=
  let was := (s.chan n).missed
  let s := (s.setChan n (fun c => { c with missed := true, good := 0 })).setBit SAF_STS_TPERR (n / 2)
  if was then s else (s.safIrq 2).raise Fid.testPulse (n / 2)

/-- A pulse that input `n` followed: the second in a row ends a missed one, and the pair then awaits its reset; a two-hand
group uses none. -/
def State.pulseSeen (s : State) (n : Nat) : State :=
  let c := s.chan n
  if !c.missed then s
  else if c.good = 0 then s.setChan n (fun c => { c with good := 1 })
  else
    let s := s.setChan n (fun c => { c with missed := false, good := 0 })
    if s.safKind (n / 2) = 4 then
      (if (s.pair (n / 2)).a.missed || (s.pair (n / 2)).b.missed then s else s.autoClear Fid.testPulse (n / 2))
    else s.setPair (n / 2) { s.pair (n / 2) with force := true }

/-- Input `n` at the middle of its own test pulse (R385). -/
def State.safPulse (s : State) (n stamp : Nat) (seen : Bool) : State :=
  ((if seen then s.pulseSeen n else s.pulseMissed n).safUpdate (n / 2) stamp).safOutputs

/-- The pulse that closed input `n` is to be checked in now, by its start: its own, past its middle, and not checked yet. -/
def State.pulseToCheck (s : State) (n : Nat) : Option Nat :=
  let c := s.chan n
  if s.cpm.vio && s.saf.tpo && s.pulsed (n / 2) && c.level && !c.wait then
    (s.tpPulse (n % 2)).filter (fun b => decide (b + 100 * s.r SAF_TP_TPW ≤ s.nowU) && s.tpLow (n % 2) 0 && b != c.pulseAt)
  else none

/-- TEST_PULSE (R385): the level of a closed input is read in the middle of its own test pulse; `seen` says that it is low. -/
def execTestPulse (line : LineAt 10) (stamp : Nat) (seen : Bool) (s : State) : Host.Outcome State Fault Refusal :=
  act s fun s =>
    let s := s.at line.t
    match s.pulseToCheck line.n.val with
    | some b => (s.setChan line.n.val (fun c => { c with pulseAt := b })).safPulse line.n.val stamp seen
    | none => s

/-- The off-pulse of SFOn whose last 10 µs have begun and that has not been checked yet, by its start. -/
def State.offToCheck (s : State) (n : Nat) : Option Nat :=
  if bit (s.r SAF_OUT_LEVEL) n then
    (s.offPulse n).filter (fun b => decide (b + (s.opwU - 2000) ≤ s.nowU) && decide (s.nowU < b + s.opwU) && b != (s.safOut n).pulseAt)
  else none

/-- OFF_PULSE (R389): OPW − 10 µs into an off-pulse of SFOn, SFBn is read. -/
def execOffPulse (line : LineAt 2) (sfb : Bool) (s : State) : Host.Outcome State Fault Refusal :=
  act s fun s =>
    let s := s.at line.t
    match s.offToCheck line.n.val with
    | some b => (s.setSafOut line.n.val { s.safOut line.n.val with pulseAt := b }).sfbCheck line.n.val (!sfb)
    | none => s

/-- A reset is accepted only for a pair whose cause has ended (R387). -/
def State.safReset (s : State) (mask stamp : Nat) : State :=
  (List.range 5).foldl (fun s p =>
    if bit mask p && bit (s.r SAF_STS_RSTREQ) p && !(s.pair p).cause then
      let s := (s.clrBit SAF_STS_RSTREQ p).safIrq 4
      let s := (s.autoClear Fid.inputDiscrepancy p).autoClear Fid.testPulse p
      (s.safUpdate p stamp).safOutputs
    else s) s

/-- SAF_RESET (R387): a guarded write of SAF_RESET. -/
def execSafReset (who : Agent) (mask : BitVec 5) (s : State) : Host.Outcome State Fault Refusal :=
  act s fun s => s.when (s.mayWrite who SAF_RESET_RST) fun s => s.safReset mask.toNat s.cpm.aon

/-- OUTPUT_ON (R389): a guarded write of SAF_OUT.ON. -/
def State.writeSafOn (s : State) (v : Nat) : State := (s.w SAF_OUT_ON v).safOutputs
/-- OUTPUT_ON (R389). -/
def execOutputOn (who : Agent) (value : BitVec 2) (s : State) : Host.Outcome State Fault Refusal :=
  act s fun s => s.when (s.mayWrite who SAF_OUT_ON) fun s => s.writeSafOn value.toNat

/-- TD + 2 ms of the pair in use with the longest TD. -/
def State.swallowtailMs (s : State) : Nat :=
  (List.range 5).foldl (fun a p => if s.safInUse p then max a (max 1 (s.r (SAF_PAIR_TD p)) + 2) else a) 0

/-- Test mode begins: TPO1 is held low, and DISC is watched from here on (R392, R393). -/
def State.swallowtailHold (s : State) : State :=
  (((s.w SAF_TP_TEST 1).w SAF_TP_HOLDB 1).w SSS_STS_TBUSY 1).modSaf (fun f => { f with testAt := s.cpm.msTick, discSeen := 0 })

/-- Test mode ends: the test passes when DISC came for every pair in use. -/
def State.swallowtailEnd (s : State) : State :=
  s.leaveTest.latentResult 4 ((List.range 5).all (fun p => !s.safInUse p || bit s.saf.discSeen p))

/-- SWALLOWTAIL_TEST (R392, R393): the kernel's writes of SAF_TP begin the test, and `ends` it after TD + 2 ms; meanwhile the
contacts that TPO1 feeds read open, and SAF finds the disagreement by itself (DEDUCED, assumption 98). -/
def execSwallowtailTest (ends : Bool) (s : State) : Host.Outcome State Fault Refusal :=
  act s fun s =>
    if ends then
      s.when (s.b SAF_TP_TEST && s.kernelPasses && decide (s.saf.testAt + s.swallowtailMs ≤ s.cpm.msTick)) State.swallowtailEnd
    else s.when s.mayTest State.swallowtailHold

end Sys2Proof.Machine
end

