-- ==== Sys2Proof/Machine/Flt.lean ====
section
/-!
DEFINITION. The fault manager's own part (R403, R405 to R411, R416, R420): the end of reactions, clears, escalations, its
checks at an O boundary, and its records on the way to the journal. Raises are in Protect.
-/
namespace Sys2Proof.Machine

open Reg

def State.modFlt (s : State) (f : Flt → Flt) : State := { s with flt := f s.flt }

/-! Reactions (R405, R406). -/

/-- The reaction in progress has done its last step; `outer` at an O boundary at which DERATE has been written
(DEDUCED, assumption 103). -/
def State.reactionDone (s : State) (x : Reaction) (outer : Bool) : Bool :=
  match x.cls with
  | .A => s.offOrSafe && (s.r DIS_STS_STATE == 5 || s.r DIS_STS_STATE == 6)
  | .B => s.offOrSafe
  | .C => outer
  | .D => true

/-- The reaction in progress ends when it is done, and waiting ones start in order (DEDUCED, assumption 103). -/
def State.endReaction (s : State) (outer : Bool) : State :=
  match s.flt.current with
  | some x => if s.reactionDone x outer then (s.modFlt (fun f => { f with current := none })).pumpReactions 20 else s
  | none => s.pumpReactions 20

/-- QUEUED_REACTION (R406). -/
def execQueuedReaction (s : State) : Host.Outcome State Fault Refusal := act s fun s => s.endReaction false

/-! What clears a fault (R410). -/

def State.offNow (s : State) : Bool := s.drv == .off
def State.safeNow (s : State) : Bool := s.drv == .safe

/-- The "Cleared by" condition of an id for one raised instance, for the faults that an FLT clear clears
(DEDUCED, assumption 105). -/
def State.clearCond (s : State) (id inst : Nat) : Bool :=
  if id = Fid.mpllUnlock then bit (s.r CPM_CLKSTAT_CLKOK) 1 && s.offOrSafe
  else if id = Fid.trip then !bit (s.r PWM_TRIPSTS_LATCH) inst
  else if id = Fid.oc then !bit (s.r PWM_TRIPSTS_LATCH) 4
  else if id = Fid.ov then !bit (s.r PWM_TRIPSTS_LATCH) 5
  else if id = Fid.dischargeIncomplete then s.flt.discharged
  else if id = Fid.shuntLost then s.offNow && !bit s.sense.lostNow inst
  else if id = Fid.kirchhoff then s.offNow && s.sense.lostNow % 8 == 0
  else if id = Fid.dcLinkLost then !bit s.sense.lostNow 3
  else if id = Fid.codeCheck then true
  else if id = Fid.arithCheck then s.offNow && !s.cle.arithBad
  else if id = Fid.axFollowing ∨ id = Fid.axOvercurrent ∨ id = Fid.axOpenLoad then true
  else if id = Fid.axDriver then (if inst = 0 then s.ax0.drvLow.isNone else s.ax1.drvLow.isNone)
  else if id = Fid.hlyConflict then decide (16 ≤ s.hly.clean)
  else if id = Fid.hlySafetyTimeout then s.hlyFresh
  else if id = Fid.unintendedTorque ∨ id = Fid.pathsDisagree ∨ id = Fid.energyBalance then s.safeNow
  else if id = Fid.ss1Ramp ∨ id = Fid.ss1Limit ∨ id = Fid.ss1NotStarted then s.safeNow
  else if id = Fid.heartbeatLost then s.offOrSafe && s.beatsOk
  else if id = Fid.outputReadback then !(s.safOut inst).sfb
  else if id = Fid.thmImplausible then
    (if inst = 0 then decide (s.pln ≤ s.thm.pGood) else decide (s.pln ≤ s.thm.dGood))
  else if id = Fid.flashUncorrectable then true
  else s.offNow

/-- The fault is queued, pre-empted or in its reaction. -/
def State.inReaction (s : State) (id : Nat) : Bool :=
  (match s.flt.current with | some x => x.id == id | none => false)
    || s.flt.queue.any (fun x => x.id == id) || s.flt.preempted.any (fun x => x.id == id)

/-- A clear would pass R410 (DEDUCED, assumption 105). -/
def State.clearable (s : State) (a : ActiveFault) : Bool :=
  (match faultRow? a.id with | some r => r.clearBy == .flt | none => false)
    && a.insts.all (fun i => s.clearCond a.id i) && !s.inReaction a.id

/-- The cause that an axis fault sets in FCAUSE (R256). -/
def axCause (id : Nat) : Nat :=
  if id = Fid.axFollowing then 0 else if id = Fid.axOvercurrent then 1 else if id = Fid.axOpenLoad then 2 else 3

/-- What a cleared fault lets go in its block (R136, R255, R372, R389). -/
def State.clearEffect (s : State) (a : ActiveFault) : State :=
  if a.id = Fid.shuntLost then s.modSense (fun x => { x with cause := { x.cause with lost := false } })
  else if a.id = Fid.kirchhoff then s.modSense (fun x => { x with kresRun := 0, cause := { x.cause with kres := false } })
  else if a.id = Fid.axFollowing ∨ a.id = Fid.axOvercurrent ∨ a.id = Fid.axOpenLoad ∨ a.id = Fid.axDriver then
    a.insts.foldl (fun s n => s.axCleared n (axCause a.id)) s
  else if a.id = Fid.heartbeatLost then (s.w SSS_STS_HBLOSS 0).w SSS_STS_HBSRC 0
  else if a.id = Fid.outputReadback then
    (a.insts.foldl (fun s n => (s.clrBit SAF_OUT_LATCHOFF n).clrBit SAF_OUT_ON n) s).safOutputs
  else s

def State.clearFault (s : State) (a : ActiveFault) (who : Role) : State := (s.clearEffect a).dropFault a.id who

/-- The rights a writer clears with (R409, R323). -/
def clearRole : Agent → Role
  | .host r => r
  | _ => .installer

/-- The class of a fault that the role may clear. -/
def mayClear (r : Role) (c : FaultClass) : Bool := c == .D || decide (2 ≤ roleRank r)

/-- A clear of one id by a writer: withheld for want of role, refused with CLRREF, or done. -/
def State.faultClear (s : State) (who : Agent) (id : Nat) : State :=
  match s.flt.active.find? (fun a => a.id == id) with
  | none => s
  | some a =>
    if !mayClear (clearRole who) a.cls then s
    else if s.clearable a then s.clearFault a (clearRole who)
    else s.w FLT_STS_CLRREF 1

/-- A clear of every active fault. -/
def State.clearAll (s : State) (who : Agent) : State :=
  let s := s.flt.active.foldl (fun s a =>
    if mayClear (clearRole who) a.cls && s.clearable a then s.clearFault a (clearRole who) else s) s
  if s.flt.active.isEmpty then s else s.w FLT_STS_CLRREF 1

/-! Escalations, derating and the self-check (R403, R405, R420). -/

/-- The most severe class a row can carry under any setting. -/
def rowWorst (r : FaultRow) : FaultClass := if r.byFben || r.byHaly then .B else r.cls

/-- Escalation entries after a swap: one that names no id in use, or a class less severe than its row's, is refused. -/
def State.escCheck (s : State) : State :=
  (List.range 8).foldl (fun s n =>
    let bad := match faultRow? (s.r (FLT_ESC_ID n)) with
      | some r => decide ((faultClassOf (s.r (FLT_ESC_CLASS n))).rank < (rowWorst r).rank)
      | none => true
    if s.b (FLT_ESC_EN n) && bad then (s.w (FLT_ESC_EN n) 0).w FLT_STS_ESCERR 1 else s) s

/-- An active fault derates (R405). -/
def activeDerates (a : ActiveFault) : Bool :=
  a.cls == .C && (match faultRow? a.id with | some r => r.derate || r.cls == .D | none => false)

/-- The smallest of the factors that thermal management and the fault manager require, in 1/256 of FLT's and 2⁻³² of the
models'; 1 when none applies (R217). -/
def State.derateFactor (s : State) : Frac :=
  let f : Frac := if s.flt.active.any activeDerates then ⟨s.r FLT_CFG_CDER, 256⟩ else ⟨1, 1⟩
  (f.min ⟨s.thm.pFactor, 4294967296⟩).min ⟨s.thm.dFactor, 4294967296⟩

/-- A factor as a mantissa of SP7 at its exponent field. -/
def derateMant (v : Frac) (e : Nat) : Int :=
  let e := signedOf 6 e - 23
  clampI (if 0 ≤ e then (v.divNat (2 ^ e.toNat)).round else (v.mul ⟨2 ^ (-e).toNat, 1⟩).round) (-mantMax) mantMax

/-- DERATE goes into SP7.m5, at the exponent that SP7's shadow holds (R217). -/
def State.writeDerate (s : State) : State :=
  s.rws (spFld 7 5) (bitsOf 24 (derateMant s.derateFactor (s.shadowOf (spFld 7 8))))

/-- The kernel's guarded write of DERATE for the coming O boundary, in time for its cut-off (R217, R405) (DEDUCED, assumption
103). -/
def State.derateKernel (s : State) : State :=
  if s.live .cm && s.live .ck && s.r DBG_STS_STATE != 3 then s.kernelGsw State.writeDerate else s

/-- The DERATE in force is no larger than FLT's own factor: a class C reaction that derates has taken effect (R405). -/
def State.derated (s : State) : Bool :=
  decide (signedOf 24 (s.r (spFld 7 5)) ≤ derateMant ⟨s.r FLT_CFG_CDER, 256⟩ (s.r (spFld 7 8)))

/-- FLT at an O boundary: a reaction whose end has come, and its checks (R405, R420). -/
def State.fltOuter (s : State) : State :=
  let s := s.endReaction (s.kernelPasses && s.derated)
  let held := s.holdsClass .A || s.holdsClass .B
  if held && s.energised && !s.flt.selfBad then
    (s.modFlt (fun f => { f with selfBad := true })).raise Fid.selfCheck
  else s

/-! Records (R416). -/

/-- The oldest record of the FIFO goes into the kernel's journal buffer. -/
def State.bufferRecord (s : State) : State :=
  match s.flt.fifo with
  | x :: l => s.modFlt (fun f => { f with fifo := l, buffer := f.buffer ++ [x] })
  | [] => s

/-- The oldest record of the buffer goes into the journal. -/
def State.journalBuffer (s : State) : State :=
  match s.flt.buffer with
  | x :: l => (s.modFlt (fun f => { f with buffer := l })).journalFault x
  | [] => s

/-- The whole buffer goes into the journal (R418). -/
def State.emptyBuffer (s : State) : State :=
  s.flt.buffer.foldl State.journalFault (s.modFlt (fun f => { f with buffer := [] }))

/-- FAULT_RECORD_MOVE (R416): the kernel moves the oldest record of the FIFO into its buffer, and the buffer's oldest into the
journal, unless other work in flash is under way (DEDUCED, assumption 104). -/
def execFaultRecordMove (s : State) : Host.Outcome State Fault Refusal :=
  act s fun s => s.when (s.cpm.phase == .running && s.driveAwake) fun s =>
    let s := s.bufferRecord
    if s.kern.flash.isEmpty then s.journalBuffer else s

end Sys2Proof.Machine
end

