-- ==== Sys2Proof/Machine/Resets.lean ====
section
/-!
DEFINITION. What a reset brings to its reset state: one block (R69, R439), one domain (R47, R48), every switched domain
(R69 to R71). Memory that a block or a domain loses reads 0 again (R49).
-/
namespace Sys2Proof.Machine

open Reg

/-! Blocks. -/

/-- Forget the indexed entries of one kind, both banks (R203, R267, R269). -/
def State.dropIndexed (s : State) (base : Nat) : State :=
  let keep := fun (k : Nat) => !(decide (32 * base ≤ k) && decide (k < 32 * (base + 0x01000000)))
  { s with regs := s.regs.filter (fun e => keep e.1), shadow := s.shadow.filter (fun e => keep e.1)
           hoi := { s.hoi with late := s.hoi.late.filter (fun e => keep e.key) } }

/-- The boundary scan's cells and its EXTEST stay (DESIGN CHOICE, assumption 171). -/
def State.resetPwm (s : State) : State :=
  let s := s.resetTable pwmTable
  { s with pwm := { extest := s.pwm.extest, cells := s.pwm.cells, pinCells := s.pwm.pinCells
                    captured := s.pwm.captured } }

def State.resetDis (s : State) : State := { s.resetTable disTable with dis := {} }

def State.resetSdx (s : State) : State :=
  let s := s.resetTable sdxTable
  { s with sense := { hallBad := s.sense.hallBad, refBad := s.sense.refBad, krefTemp := s.sense.krefTemp,
                      fcv0 := s.sense.fcv0, fcv1 := s.sense.fcv1 } }.disSuspend

def State.resetPcv (s : State) : State :=
  let s := s.resetTable pcvTable
  { s with sense := { s.sense with hallBad := 0 }, cores := { s.cores with hall := [] } }

def State.resetFcv (s : State) : State :=
  let s := s.resetTable fcvTable
  { s with sense := { s.sense with refBad := false, krefTemp := 0, fcv0 := {}, fcv1 := {} } }

def State.resetPos (s : State) : State := { s.resetTable posTable with pos := {} }

def State.resetCle (s : State) : State := { (s.resetTable cleTable).dropIndexed 0x52000000 with cle := {} }

def State.resetAxs (s : State) : State := { s.resetTable axsTable with ax0 := {}, ax1 := {} }

def State.resetGdn (s : State) : State :=
  { ((s.resetTable gdnTable).dropIndexed 0x50000000).dropIndexed 0x51000000 with gdn := {} }

def State.resetHly (s : State) : State := { s.resetTable hlyTable with hly := {} }

def State.resetHsp (s : State) : State := { s.resetTable hspTable with hsp := {} }

/-- The message buffers are memory of the controllers, at their bus addresses (R452). -/
def State.dropBuffers (s : State) : State := (s.clearRange 0x40012100 1728).clearRange 0x40012900 1728

def State.resetCan (s : State) : State := { (s.resetTable canTable).dropBuffers with can0 := {}, can1 := {} }

def State.resetThm (s : State) : State := { s.resetTable thmTable with thm := {} }

/-! Domains. -/

/-- The logic of SYS. It keeps the time base, the faults with their queue, their records and their occurrences (R404, R410), and
of the CPM what AON holds (R70): LASTSLP, WAKESRC, TIMEREV and HDLN among it, and not SLEEPCFG, DOMREQ, REFUSED and UNCONF (DESIGN
CHOICE, assumption 163). -/
def State.resetSys (s : State) : State :=
  let s := ((((s.resetTable hoiTable).resetTable bstTable).resetTable rolTable).resetTable cmpTable).resetTable dbgTable
  let s := (s.resetTable fltTable).resetThm
  let s := s.resetTable [CPM_STATE_REFUSED, CPM_STATE_UNCONF, CPM_DOMREQ_REQ, CPM_SLEEPCFG_SLPCAP,
    CPM_SLEEPCFG_STOPMAX, CPM_SLEEPCFG_MARGIN, CPM_SLEEPCFG_IMPLNAP, CPM_SLEEPCFG_HLYNAP, CPM_SLEEPCFG_HLYLEAD,
    CPM_BOOTSTAT_SLOT, CPM_BOOTSTAT_TRIAL, CPM_BOOTSTAT_RECOV, CPM_BOOTSTAT_PARBAD,
    CPM_BOOTSTAT_ROLLBACK, CPM_BOOTSTAT_SECVER]
  { s with hoi := { base := s.nowU, fine := s.hoi.fine, cycleAt := s.nowU, cyclePrev := s.nowU }, bst := {} }

/-- The logic of one switched domain (R47, R312). -/
def State.resetLogic (s : State) (d : Domain) : State :=
  match d with
  | .pwm => s.resetPwm.resetDis
  | .sense => s.resetSdx.resetPcv.resetFcv.resetPos
  | .cle => s.resetCle
  | .impl => s.resetAxs.resetGdn
  | .hly => s.resetHly
  | .host => s.resetHsp.resetCan
  | .cm => { s with cores := { s.cores with main := {}, log := [], replay := [], inReplay := false, stepping := false,
                                            mute := false } }
  | .ck => { s with cores := { s.cores with chk := {} } }
  | .sys => s.resetSys

/-- A reset of one domain: its logic, and the crossings that end in it (R67). -/
def State.resetDomain (s : State) (d : Domain) : State := (s.resetLogic d).markStale (crossingsOf d)

/-- The domain is reset, and the faults whose flags that takes to 0 clear (R411). -/
def State.resetClear (s : State) (d : Domain) : State := (s.flagsReset (s.resetDomain d)).resetDomain d

/-- Every switched domain, in the bit order of R68. -/
def allDomains : List Domain := [.sys, .cm, .ck, .cle, .sense, .pwm, .impl, .hly, .host]

/-- The memory a domain loses when it is off: the CLE its local memory (R49). -/
def State.loseMemory (s : State) (d : Domain) : State :=
  match d with
  | .cle => { s.clearRange 0x30000000 65536 with cle := { s.cle with badWords := [], softWords := [] } }
  | _ => s

/-- A domain goes off: it loses its state, its nap, and its bit of DOMON (R34, R48, R52). CLKOK keeps what it shows of SPLL and, in
NAP, of MPLL (DESIGN CHOICE, assumption 173). -/
def State.domainOff (s : State) (d : Domain) : State :=
  let s := (s.resetClear d).loseMemory d
  let s := s.clrBit CPM_STATE_DOMON (domBit d)
  { s with cpm := { s.cpm with rising := bitClr s.cpm.rising (domBit d)
                               implNap := s.cpm.implNap && d != .impl, hlyNap := s.cpm.hlyNap && d != .hly
                               ready := s.cpm.ready && !(d == .cle || d == .sense || d == .pwm) } }

/-- A domain's switch closes; its rail settles (R48). -/
def State.domainRise (s : State) (d : Domain) : State :=
  if s.on d then s else { s with cpm := { s.cpm with rising := bitSet s.cpm.rising (domBit d) } }

/-! When a domain may go off (R16, R35, R47, R120). -/

/-- R16 holds SENSE on: the bridge is in a safe state and standstill is neither confirmed nor recorded unconfirmed. -/
def State.senseHeld (s : State) : Bool := s.cpm.coasting && !s.cpm.unconf

/-- R35: each axis disabled, or at standstill with a standstill current fraction of zero. -/
def State.axesRest (s : State) : Bool :=
  [0, 1].all (fun n => s.r (AXS_STS_STATE n) == 0 || (s.b (AXS_STS_STILL n) && s.r (AXS_CUR_IHOLD n) == 0))

/-- A discharge is in progress: DIS is in CONFIRM, PROBE, DISCH or WIND. -/
def State.disBusy (s : State) : Bool :=
  let st := s.r DIS_STS_STATE
  decide (1 ≤ st) && decide (st ≤ 4)

/-- The condition of R47 for switching a domain off. A discharge in progress holds PWM, which holds DIS (R120). -/
def State.mayOff (s : State) (d : Domain) : Bool :=
  match d with
  | .cle => s.offOrSafe
  | .sense => s.offOrSafe && !s.senseHeld
  | .pwm => s.offOrSafe && !s.disBusy
  | .impl => s.axesRest && s.gdn.queue.isEmpty && s.gdn.acting.isEmpty && s.hly.held.isEmpty
  | .hly => s.r HLY_CTRL_PORTEN == 0 || s.r HLY_STS_RSTATE == 0
  | .host => true
  | _ => false

/-! The switched-domain reset (R69 to R71). -/

/-- Faults that any reset of FLT's causes clears, and those only a cold reset clears (R410, R411, R419). -/
def resetCleared : List Nat :=
  [Fid.compareMismatch, Fid.pennantMismatch, Fid.compareTimeout, Fid.frameEntryLate, Fid.selfCheck, Fid.coreLockup]
def coldCleared : List Nat := [Fid.wrcRange, Fid.bstFailedB, Fid.bstFailedC]

/-- The kernel's working state in the cores and in SRAM: sessions, nonces, staged items, queued work and tickets end
(R455, R460); the stores in flash, the failure counts and their delays stay (R458) (DEDUCED, assumption 52). -/
def Kernel.restart (k : Kernel) : Kernel :=
  { k with staged := [], sessions := [], nonces := [], queue := [], flash := [], tickets := [], folds := [] }

/-- The causes of CPM_RSTCAUSE. -/
inductive ResetCause where
  | supply | nrst | soft | bootWatchdog | flt | parkWake | dormWake | trialWatchdog
deriving DecidableEq, Repr

def ResetCause.fld : ResetCause → Fld
  | .supply => CPM_RSTCAUSE_SUPPLY | .nrst => CPM_RSTCAUSE_NRSTPIN | .soft => CPM_RSTCAUSE_SOFT
  | .bootWatchdog => CPM_RSTCAUSE_BWDOG | .flt => CPM_RSTCAUSE_FLTRST | .parkWake => CPM_RSTCAUSE_PARKWAKE
  | .dormWake => CPM_RSTCAUSE_DORMWAKE | .trialWatchdog => CPM_RSTCAUSE_TRIALWD

/-- The faults that a reset's causes clear. -/
def clearedBy (cold : Bool) : List Nat := if cold then resetCleared ++ coldCleared else resetCleared

/-- What the CPM records of a reset: DOMON, in which HLY keeps its bit where the reset leaves it alone, the cause, and XO, MPLL
and SPLL to be confirmed again (R68, R69). -/
def State.markReset (s : State) (cause : ResetCause) (keepHly : Bool) : State :=
  let on := if keepHly && s.on .hly then bitSet CPM_STATE_DOMON.reset (domBit .hly) else CPM_STATE_DOMON.reset
  let s := (s.w CPM_STATE_DOMON on).w cause.fld 1
  s.w CPM_CLKSTAT_CLKOK (s.r CPM_CLKSTAT_CLKOK / 8 * 8)

/-- What the cores and the kernel work with outside the registers begins afresh: the boot starts from its first step, and the
counts of the cores and of FLT stand still until the handover (R71, R372). -/
def State.restart (s : State) : State :=
  { s with
    cpm := { s.cpm with dev := .run, phase := .inReset, codeReload := false, trialRun := false, ready := false, relOff := false }
    sss := { s.sss with stopped := true }
    drive := {}
    tmon := {}
    ss1 := {}
    kern := s.kern.restart }

/-- The switched domains held in reset, HLY where the reset reaches it; `retained` when SRAM bank 0 was in retention (R70). -/
def State.holdReset (s : State) (retained keepHly : Bool) : State :=
  let hly := 2 ^ domBit .hly
  { s with
    cpm := { s.cpm with inReset := if keepHly then 0x1FF - hly + (s.cpm.inReset &&& hly) else 0x1FF
                        rising := if keepHly then s.cpm.rising &&& hly else 0
                        sysOnWrc := false, cleReload := false, implNap := false
                        hlyNap := keepHly && s.cpm.hlyNap, bank0Held := retained }
    flt := { s.flt with selfBad := false } }.restart

/-- The domains of a reset in their reset state; the CLE, which is off afterwards, loses its memories (R49). -/
def State.resetDomains (s : State) (keepHly : Bool) : State :=
  ((allDomains.filter (fun d => !(keepHly && d == .hly))).foldl State.resetDomain s).loseMemory .cle

/-- A reset of the switched domains, all or all but HLY: the SSS takes its safe state first (R31, R70); the domains are then
in their reset state and held there. -/
def State.switchedReset (s : State) (cause : ResetCause) (cold : Bool := true) (keepHly : Bool := false) : State :=
  let s := s.enterSafe.resetFaults (clearedBy cold)
  (((s.flagsReset (s.resetDomains keepHly)).tearFlash.resetDomains keepHly).markReset cause keepHly).holdReset
    (s.cpm.bank0Held || s.cpm.dev == .nap || s.cpm.dev == .dormant) keepHly

end Sys2Proof.Machine
end

