-- ==== Sys2Proof/Machine/Bst.lean ====
section
/-!
DEFINITION. Built-in self-test (R435 to R443): requests, admission under the power limit, isolation, the result and the
rejoin. The block numbers are the bits of R437; result codes are those of R443.
-/
namespace Sys2Proof.Machine

open Reg

def State.bstBlock (s : State) (k : Nat) : BstBlock := s.bst.blocks.getD k {}
def State.setBst (s : State) (k : Nat) (b : BstBlock) : State :=
  { s with bst := { s.bst with blocks := setAt s.bst.blocks k b } }

def State.anyBst (s : State) : Bool := s.bst.blocks.any (fun b => b.phase != .none)
def State.bstBusy (s : State) : State := s.wb BST_STS_BUSY s.anyBst

/-- Put code `c` in the three bits of block `k`. -/
def State.bstRes (s : State) (k c : Nat) : State :=
  let put := fun (w n : Nat) => w - w / 8 ^ n % 8 * 8 ^ n + c * 8 ^ n
  if k < 10 then s.w BST_RES0_RES (put (s.r BST_RES0_RES) k) else s.w BST_RES1_RES (put (s.r BST_RES1_RES) (k - 10))

/-- The result code of block `k`. -/
def State.bstCode (s : State) (k : Nat) : Nat :=
  if k < 10 then s.r BST_RES0_RES / 8 ^ k % 8 else s.r BST_RES1_RES / 8 ^ (k - 10) % 8

def State.bstIrq (s : State) (k : Nat) : State := s.setBit BST_IRQ_EVT k

/-! The table of R437. -/

/-- A block's domain. -/
def bstDomain (k : Nat) : Domain :=
  if k = 4 then .cle else if 5 ≤ k ∧ k ≤ 8 then .sense else if k = 9 ∨ k = 10 then .pwm
  else if k = 11 ∨ k = 12 then .impl else if k = 13 then .hly else if k = 14 ∨ k = 15 then .host else .sys

/-- Power increments in mW. -/
def bstIncrement (k : Nat) : Nat := [50, 20, 160, 30, 220, 80, 120, 40, 60, 100, 20, 30, 20, 20, 10, 10, 10].getD k 0

/-- DIS in IDLE, DONE or FAIL. -/
def State.disQuiet (s : State) : Bool := s.r DIS_STS_STATE == 0 || s.r DIS_STS_STATE == 5 || s.r DIS_STS_STATE == 6

/-- The DC-link sample is valid and at most 60 V. -/
def State.linkLow (s : State) : Bool :=
  match s.vdc with
  | some v => decide (v ≤ 60000)
  | none => false

/-- Axis DISABLED, STOPPED or FAULT. -/
def State.axQuiet (s : State) (n : Nat) : Bool :=
  let st := s.r (AXS_STS_STATE n)
  st == 0 || st == 5 || st == 6

/-- The "Allowed when" conditions. -/
def State.bstAllowed (s : State) (k : Nat) : Bool :=
  match k with
  | 1 => s.flt.current.isNone && s.flt.queue.isEmpty && s.flt.preempted.isEmpty
  | 4 => s.offOrSafe
  | 5 => s.offOrSafe && !s.cpm.coasting && s.disQuiet
  | 6 => s.offOrSafe && !s.cpm.coasting && s.disQuiet
  | 7 => s.offOrSafe
  | 8 => s.offOrSafe && !s.cpm.coasting && !s.b GDN_CTRL_MASTER
  | 9 => s.b SSS_STS_OVR && s.safest == .freewheel && s.linkLow
  | 10 => s.disQuiet && s.linkLow
  | 11 => s.axQuiet 0 && s.axQuiet 1
  | 12 => !s.b GDN_CTRL_MASTER && s.gdn.queue.isEmpty
  | 13 => s.r HLY_STS_RSTATE == 0
  | 14 => !(s.bstBlock 14).byHost
  | 15 => !s.b (CAN_CTRL_EN 0) && !s.b (CAN_CTRL_EN 1) && s.gdn.iso == .stopped
  | 16 => s.offOrSafe
  | _ => true

/-! Saving, resetting and restoring a block (R439). -/

/-- A block's register table. -/
def bstTableOf (k : Nat) : List Fld :=
  if k = 4 then cleTable else if k = 5 then sdxTable else if k = 6 then pcvTable else if k = 7 then fcvTable
  else if k = 8 then posTable else if k = 9 then pwmTable else if k = 10 then disTable else if k = 11 then axsTable
  else if k = 12 then gdnTable else if k = 13 then hlyTable else if k = 14 then hspTable else if k = 15 then canTable
  else if k = 16 then thmTable else []

/-- A block saves a key: an RW or RWS field of its table, an entry of its indexed memories, and the levels and FACTOR
that THM holds during its test (DEDUCED, assumption 110). -/
def bstSaves (k key : Nat) : Bool :=
  (bstTableOf k).any (fun f => f.key == key && (f.acc == .rw || f.acc == .rws))
    || (k == 12 && decide (32 * 0x50000000 ≤ key) && decide (key < 32 * 0x52000000))
    || (k == 4 && decide (32 * 0x52000000 ≤ key))
    || (k == 16 && (key == THM_STS_PLEVEL.key || key == THM_STS_DLEVEL.key || key == THM_STS_FACTOR.key))

/-- The block's reset state; the memories a march has gone over keep their contents. -/
def State.bstReset (s : State) (k : Nat) : State :=
  match k with
  | 4 => let s' := s.resetCle
         { s' with cle := { s'.cle with badWords := s.cle.badWords, softWords := s.cle.softWords } }
  | 5 => s.resetSdx
  | 6 => s.resetPcv
  | 7 => s.resetFcv
  | 8 => s.resetPos
  | 9 => s.resetPwm.markStale 0x003
  | 10 => let s' := s.resetDis.markStale 0x003
          { s' with dis := { s'.dis with reqHeld := s.dis.reqHeld } }
  | 11 => let s' := s.resetAxs
          { s' with ax0 := { s'.ax0 with segs := s.ax0.segs }, ax1 := { s'.ax1 with segs := s.ax1.segs } }
  | 12 => s.resetGdn
  | 13 => s.resetHly.markStale 0x00C
  | 14 => s.resetHsp
  | 15 => { s.resetCan.markStale 0x030 with mem := s.mem }
  | 16 => s.resetThm
  | _ => s

/-- Isolation: the block's fields are saved, unless it still stands isolated with the fields of an earlier test, and it
takes its reset state; THM keeps its levels and FACTOR in view (R437) (DEDUCED, assumption 110). -/
def State.bstIsolate (s : State) (k : Nat) : State :=
  if k < 4 then s
  else
    let b := s.bstBlock k
    let iso := bit (s.r BST_STS_ISO) k
    let b := if iso then b else
      { b with savedRegs := s.regs.filter (fun e => bstSaves k e.1), savedShadow := s.shadow.filter (fun e => bstSaves k e.1) }
    let s := (s.setBst k b).bstReset k
    let s := if k = 16 then b.savedRegs.foldl (fun s e =>
        if e.1 = THM_STS_PLEVEL.key ∨ e.1 = THM_STS_DLEVEL.key ∨ e.1 = THM_STS_FACTOR.key then
          { s with regs := sparseInsert (sparseErase s.regs e.1) e.1 e.2 } else s) s
      else s
    s.setBit BST_STS_ISO k

/-- The saved fields come back, both banks. -/
def State.bstRestore (s : State) (k : Nat) : State :=
  let b := s.bstBlock k
  { s with regs := b.savedRegs.foldl (fun l e => sparseInsert (sparseErase l e.1) e.1 e.2) s.regs
           shadow := b.savedShadow.foldl (fun l e => sparseInsert (sparseErase l e.1) e.1 e.2) s.shadow }

/-- Block `k` has failed a test and no later one has passed (R440). -/
def State.bstFailed (s : State) (k : Nat) : Bool :=
  s.flt.active.any (fun a => (a.id == Fid.bstFailedB || a.id == Fid.bstFailedC) && a.insts.contains k)

/-- The results of a conversion or position block that rejoins are STALE until its first fresh one (R67) (DEDUCED, assumption 72). -/
def State.heldResults (s : State) (k : Nat) : State :=
  if k = 5 then (List.range 6).foldl (fun s n => s.w (SDX_RES_STALE n) 1) s
  else if k = 6 then (List.range 16).foldl (fun s n => s.w (PCV_RES_STALE n) 1) s
  else if k = 8 then s.w POS_ELANG_STALE 1
  else s

/-- The block rejoins (R439): reset, fields restored, isolation lifted; for the CLE the kernel rewrites PEN. A domain that
BST switched on goes back to its requested state, and a discharge request that waited acts (R437). -/
def State.bstRejoin (s : State) (k : Nat) : State :=
  let b := s.bstBlock k
  let s := if k < 4 || s.bstFailed k then s else
    let s := ((s.bstReset k).bstRestore k).clrBit BST_STS_ISO k
    if k = 4 then
      let pen := s.r CLE_CTRL_PEN
      (s.w CLE_CTRL_PEN 0).kernelGsw (fun s => s.writePen pen)
    else s.heldResults k
  let s := s.setBst k (if s.bstFailed k then { b with phase := .none } else {})
  let d := bstDomain k
  let s := if b.turnedOn && !bit (8 * s.r CPM_DOMREQ_REQ) (domBit d) && s.mayOff d then s.domainOff d else s
  if k = 5 ∨ k = 6 ∨ k = 10 then s.disWake else s

/-! Requests (R435, R436). -/

/-- A request for the blocks of a mask; a block already pending or under test is not queued again. -/
def State.bstAsk (s : State) (mask : Nat) (host : Bool) : State :=
  let s := (List.range 17).foldl (fun s k =>
    if bit mask k && (s.bstBlock k).phase == .none then
      let b := s.bstBlock k
      (s.setBst k { b with phase := .pending, since := s.nowU, allowed := false, byHost := host }).bstRes k 7
    else s) s
  s.bstBusy

/-- The last of the requested blocks has finished: the event of a complete request. -/
def State.bstEnded (s : State) : State := (if s.anyBst then s else s.bstIrq 0).bstBusy

/-- BST_REQUEST (R435): a write of BST_REQ.MASK (DEDUCED, assumption 109). -/
def execBstRequest (t : Nat) (who : Agent) (mask : BitVec 17) (s : State) : Host.Outcome State Fault Refusal :=
  act s fun s =>
    let s := s.at t
    s.when (s.live .sys && s.mayWrite who BST_REQ_MASK) fun s =>
      s.bstAsk mask.toNat (match who with | .host _ => true | _ => false)

/-! Admission (R438). -/

/-- PLIM; above 2,100 mW it acts as 2,100. -/
def State.plim (s : State) : Nat := min 2100 (s.r BST_CFG_PLIM)

/-- A test whose conditions have stopped holding is aborted (R441). -/
def State.bstWatch (s : State) : State :=
  (List.range 17).foldl (fun s k => if (s.bstBlock k).phase = .running && !s.bstAllowed k then s.bstAbort k else s) s

/-- A block is admitted: isolated, its domain switched on when it is off, its result RUNNING. -/
def State.bstAdmit (s : State) (k : Nat) : State :=
  let d := bstDomain k
  let off := !s.on d
  let s := s.bstIsolate k
  let b := s.bstBlock k
  let s := (s.setBst k { b with phase := .running, turnedOn := off }).bstRes k 6
  if off then s.domainRise d else s

/-- Note which waiting blocks meet their conditions now. -/
def State.bstNote (s : State) : State :=
  (List.range 17).foldl (fun s k =>
    let b := s.bstBlock k
    if b.phase = .pending && s.bstAllowed k then s.setBst k { b with allowed := true } else s) s

/-- ADMISSION_SCAN (R438), every 20 µs: `mw` is the rail power of the last 10 µs. -/
def execAdmissionScan (t : Nat) (mw : BitVec 12) (s : State) : Host.Outcome State Fault Refusal :=
  act s fun s =>
    let s := s.at t
    s.when (s.live .sys) fun s =>
      let s := s.w BST_PWR_P mw.toNat
      let testing := (List.range 17).any s.underTest
      let s := if testing && decide (s.r BST_PWR_PEAK < mw.toNat) then s.w BST_PWR_PEAK mw.toNat else s
      let s := (s.bstWatch).bstNote
      match (List.range 17).find? (fun k => (s.bstBlock k).phase == .pending && s.bstAllowed k
          && decide (mw.toNat + bstIncrement k ≤ s.plim)) with
      | some k => s.bstAdmit k
      | none => s

/-- ADMISSION_TIMEOUT (R438): a block not admitted within TWAIT completes as NOTRUN, IFC or PWR. -/
def execAdmissionTimeout (t : Nat) (k : Fin 17) (s : State) : Host.Outcome State Fault Refusal :=
  act s fun s =>
    let s := s.at t
    let b := s.bstBlock k.val
    s.when (b.phase == .pending && decide (b.since + msU (max 1 (s.r BST_CFG_TWAIT)) ≤ s.nowU)) fun s =>
      ((s.setBst k.val { b with phase := .none }).bstRes k.val (if b.allowed then 4 else 3)).bstEnded

/-! Completion (R439 to R442). -/

/-- The fault of a block's row (R442). -/
def bstFault (k : Nat) : Nat := if k < 7 ∨ (8 ≤ k ∧ k ≤ 10) then Fid.bstFailedB else Fid.bstFailedC

/-- The verdict of a finished test: a block that passes rejoins at the next O boundary; one that fails stays isolated. -/
def State.bstVerdict (s : State) (k : Nat) (ok : Bool) : State :=
  let b := s.bstBlock k
  if ok then
    ((s.setBst k { b with phase := .rejoin }).bstRes k 1).autoClear (bstFault k) k
  else
    let s := ((s.setBst k { b with phase := .none }).bstRes k 2).setBit BST_STS_ISO k
    ((s.bstIrq 1).bstEnded).raise (bstFault k) k

/-- TEST_COMPLETE (R440): the self-test of a running block ends with its verdict, unless a condition no longer holds. -/
def execTestComplete (k : Fin 17) (ok : Bool) (s : State) : Host.Outcome State Fault Refusal :=
  act s fun s =>
    let s := s.bstWatch
    s.when ((s.bstBlock k.val).phase == .running && s.on (bstDomain k.val)) fun s => s.bstVerdict k.val ok

/-- The rejoin at an O boundary of every block whose test has passed or was aborted (R439, R441). -/
def State.bstOuter (s : State) : State :=
  let s := s.bstWatch
  let ends := (List.range 17).filter (fun k => (s.bstBlock k).phase == .rejoin)
  if ends.isEmpty then s
  else (ends.foldl (fun s k => if k < 4 && !s.bstFailed k then (s.bstRejoin k).clrBit BST_STS_ISO k else s.bstRejoin k) s).bstEnded

end Sys2Proof.Machine
end

