-- ==== Sys2Proof/Machine/Can.lean ====
section
/-!
DEFINITION. The two CAN FD controllers (R450 to R453, R469): message buffers, filters, the order of transmission, the
error counters and states. The steps of the error counters are those of ISO 11898-1 (PRESUMED).
-/
namespace Sys2Proof.Machine

open Reg

def State.can (s : State) (c : Nat) : Can := if c = 0 then s.can0 else s.can1
def State.setCan (s : State) (c : Nat) (x : Can) : State := if c = 0 then { s with can0 := x } else { s with can1 := x }

/-- The controller that the ISO 11783 client runs on, from its parameter group (R278, R459). -/
def State.isoCan (s : State) : Nat := s.param 0x0603 0 % 2

/-- The kernel owns the controller for its ISO 11783 client (R453). -/
def State.isoOwns (s : State) (c : Nat) : Bool := (s.gdn.iso == .claiming || s.gdn.iso == .running) && s.isoCan == c

/-- The address of message buffer `k` (R452). -/
def canBuf (c k : Nat) : Nat := 0x40012100 + 0x800 * c + 72 * k

/-- An interrupt event: 0 TXDONE, 1 RXNEW, 2 state change, 3 RXOVF, 4 OWNERR. -/
def State.canIrq (s : State) (c k : Nat) : State := s.setBit (CAN_IRQ_EVT c) k

/-- On the bus: enabled, error active or passive. -/
def State.canOnBus (s : State) (c : Nat) : Bool :=
  s.canLive && s.b (CAN_CTRL_EN c) && decide (s.r (CAN_STS_STATE c) < 2)

/-- A write dropped because the kernel owns what it names (R453). -/
def State.ownErr (s : State) (c : Nat) : State := (s.w (CAN_STS_OWNERR c) 1).canIrq c 4

/-! Error states (R450, R466). -/

def State.canGo (s : State) (c st : Nat) : State :=
  if s.r (CAN_STS_STATE c) = st then s else (s.w (CAN_STS_STATE c) st).canIrq c 2

/-- The counters after a change, and the state they give (PRESUMED, assumption 134). -/
def State.canCount (s : State) (c tec rcv : Nat) : State :=
  let s := ((s.setCan c { s.can c with recv := rcv }).w (CAN_STS_TEC c) (min 255 tec)).w (CAN_STS_REC c) (min 127 rcv)
  if 256 ≤ tec then
    let s := s.setCan c { s.can c with sending := none, recover := false }
    (s.canGo c 2).raise Fid.canBusOff c
  else if 128 ≤ tec ∨ 128 ≤ rcv then
    if s.r (CAN_STS_STATE c) = 1 then s else (s.canGo c 1).raise Fid.canPassive c
  else
    ((s.canGo c 0).autoClear Fid.canPassive c).autoClear Fid.canBusOff c

/-- Error active with both counters at 0: after an enable or a recovery. -/
def State.canFresh (s : State) (c : Nat) : State := (s.setCan c { s.can c with recover := false }).canCount c 0 0

/-- Bus monitoring or restricted operation: the controller sends no frame and its error counters stand still (R450)
(PRESUMED, assumption 134). -/
def State.canSilent (s : State) (c : Nat) : Bool := s.b (CAN_CTRL_MON c) || s.b (CAN_CTRL_ROM c)

/-- CAN_BUS_ERROR (R450): an error of the frame being sent, or of one being received, where `dominant` says that a
dominant bit followed the receiver's error flag (PRESUMED, assumption 134). -/
def execCanBusError (c : Fin 2) (sending dominant : Bool) (s : State) : Host.Outcome State Fault Refusal :=
  act s fun s => s.when (s.canOnBus c.val) fun s =>
    let s := s.fresh 0x010
    let tec := s.r (CAN_STS_TEC c.val)
    let rec' := (s.can c.val).recv
    if s.canSilent c.val then s
    else if sending then s.canCount c.val (tec + 8) rec'
    else s.canCount c.val tec (min 255 (rec' + if dominant then 8 else 1))

/-- BUS_OFF_RECOVERY (R450): 128 occurrences of 11 recessive bits, with AUTOREC. -/
def execBusOffRecovery (c : Fin 2) (s : State) : Host.Outcome State Fault Refusal :=
  act s fun s => s.when (s.canLive && s.b (CAN_CTRL_EN c.val) && s.r (CAN_STS_STATE c.val) == 2
    && s.b (CAN_CTRL_AUTOREC c.val)) fun s => s.canFresh c.val

/-- A write of EN to a controller that is off the bus without AUTOREC asks for its recovery (R450). -/
def State.canEnWritten (s : State) (c : Nat) : State :=
  if s.r (CAN_STS_STATE c) = 2 && !s.b (CAN_CTRL_AUTOREC c) then s.setCan c { s.can c with recover := true } else s

/-- An O boundary after its swap: EN takes effect, and a recovery that a write of EN asked for; `enWas` is EN before. -/
def State.canOuterOne (s : State) (c : Nat) (enWas : Bool) : State :=
  let en := s.b (CAN_CTRL_EN c)
  if en && (!enWas || (s.can c).recover) then s.canFresh c
  else if !en && enWas then (s.setCan c { s.can c with sending := none, recover := false }).canGo c 3
  else s

def State.canOuter (s : State) (en0 en1 : Bool) : State :=
  if s.canLive then (s.canOuterOne 0 en0).canOuterOne 1 en1 else s

/-! Transmission (R452). -/

/-- The arbitration order of a buffer's identifier: the base identifier, then a standard frame ahead of an extended one. -/
def State.canOrder (s : State) (c k : Nat) : Nat :=
  let w := s.readLE (canBuf c k) 4
  if bit w 29 then w / 2 ^ 18 % 2048 * 2 ^ 19 + 2 ^ 18 + w % 2 ^ 18 else w % 2048 * 2 ^ 19

/-- The pending buffer that goes first: the lowest identifier, then the lowest number. -/
def State.canFirst (s : State) (c : Nat) : Option Nat :=
  let l := (List.range 24).filter (bit (s.can c).req)
  match l with
  | [] => none
  | k :: rest => some (rest.foldl (fun b j => if s.canOrder c j < s.canOrder c b then j else b) k)

/-- A controller with nothing under way takes up the pending buffer that goes first (DEDUCED, assumption 135). -/
def State.canNext (s : State) (c : Nat) : State :=
  match (s.can c).sending with
  | some _ => s
  | none => s.setCan c { s.can c with sending := s.canFirst c }

/-- Buffers become pending: transmit buffers only, and none that the kernel owns (R452, R453). -/
def State.writeTxreq (s : State) (who : Agent) (c mask : Nat) : State :=
  let s := s.fresh 0x020
  let owned := s.isoOwns c && who != .kernel
  let take := (List.range 24).filter (fun k => bit mask k && bit (s.r (CAN_BUFCFG_TX c)) k && !(owned && k < 8))
  let s := s.setCan c { s.can c with req := take.foldl bitSet (s.can c).req }
  let s := if owned && mask % 256 != 0 then s.ownErr c else s
  if s.canOnBus c then s.canNext c else s

/-- TRANSMISSION_REQUEST (R452): a write of CAN_TXREQ. -/
def execTransmissionRequest (c : Fin 2) (who : Agent) (mask : BitVec 24) (s : State) : Host.Outcome State Fault Refusal :=
  act s fun s => s.when (s.canLive && s.mayWrite who (CAN_TXREQ_REQ c.val)) fun s => s.writeTxreq who c.val mask.toNat

/-- CAN_TRANSMIT_DONE (R452): a pending buffer that was under way, or that now goes first, has been transmitted. -/
def execCanTransmitDone (c : Fin 2) (k : Fin 24) (s : State) : Host.Outcome State Fault Refusal :=
  act s fun s =>
    let x := s.can c.val
    s.when (s.canOnBus c.val && bit x.req k.val && !s.canSilent c.val
        && (x.sending == some k.val || s.canFirst c.val == some k.val)) fun s =>
      let s := (s.fresh 0x010).setCan c.val { x with req := bitClr x.req k.val, sending := none }
      let s := s.writeLE (canBuf c.val k.val + 6) (s.r HOI_TICKCNT_TICKCNT) 2
      let s := (s.setBit (CAN_TXDONE_DONE c.val) k.val).canIrq c.val 0
      let s := s.canCount c.val (s.r (CAN_STS_TEC c.val) - 1) (s.can c.val).recv
      s.canNext c.val

/-! Reception (R452). -/

/-- Data bytes of a DLC. -/
def dlcBytes (dlc : Nat) (fd : Bool) : Nat :=
  if dlc ≤ 8 then dlc else if fd then [12, 16, 20, 24, 32, 48, 64].getD (dlc - 9) 64 else 8

/-- The lowest enabled filter that a frame passes. -/
def State.canFilter (s : State) (c id : Nat) (xtd : Bool) : Option Nat :=
  (List.range 16).find? (fun n => s.b (CAN_FLTID_EN c n) && (s.b (CAN_FLTID_XTD c n) == xtd)
    && (id ^^^ s.r (CAN_FLTID_ID c n)) &&& s.r (CAN_FLTM_MASK c n) == 0)

/-- A frame in a receive buffer. -/
def State.canStore (s : State) (c k filter id dlc : Nat) (xtd rtr esi fdf brs : Bool) (data : List Byte) : State :=
  let a := canBuf c k
  let flag := fun (b : Bool) (n : Nat) => if b then 2 ^ n else 0
  let s := s.writeLE a (id + flag xtd 29 + flag rtr 30 + flag esi 31) 4
  let s := s.writeLE (a + 4) (dlc + flag fdf 4 + flag brs 5 + 256 * filter + 65536 * (s.r HOI_TICKCNT_TICKCNT % 65536)) 4
  let s := s.writeBytes (a + 8) (if rtr then [] else data.take (dlcBytes dlc fdf))
  (s.setBit (CAN_RXNEW_NEW c) k).canIrq c 1

/-- An address claim of another node for the client's own address, under a NAME of higher priority, a smaller number: the
client cannot claim and stops (R278). -/
def State.isoContend (s : State) (c id : Nat) (xtd : Bool) (data : List Byte) : State :=
  let num := fun (l : List Byte) => l.reverse.foldl (fun n (b : Byte) => 256 * n + b.toNat) 0
  let name := s.param 0x0600 0 + 2 ^ 32 * s.param 0x0601 0
  if s.isoOwns c && xtd && id / 65536 % 256 == 0xEE && id % 256 == s.gdn.isoAddr && data.length == 8 && decide (num data < name) then
    { s with gdn := { s.gdn with iso := .cannotClaim } }
  else s

/-- CAN_FRAME_RECEIVED (R452): a good frame has been received; its counters step as the standard gives.
An FD frame has no RTR bit. -/
def execCanFrameReceived (c : Fin 2) (id : BitVec 29) (xtd rtr esi fdf brs : Bool) (dlc : BitVec 4) (data : List Byte)
    (s : State) : Host.Outcome State Fault Refusal :=
  act s fun s => s.when (s.canOnBus c.val && (!fdf || s.b (CAN_CTRL_FDEN c.val))) fun s =>
    let c := c.val
    let s := s.fresh 0x010
    let rec' := (s.can c).recv
    let (back, s) := if 127 < rec' && !s.canSilent c then (let (v, s) := s.freeNat; (119 + v % 9, s)) else (rec' - 1, s)
    let s := (if s.canSilent c then s else s.canCount c (s.r (CAN_STS_TEC c)) back).isoContend c id.toNat xtd data
    match s.canFilter c id.toNat xtd with
    | none => s
    | some n =>
      match (List.range 24).find? (fun k => !bit (s.r (CAN_BUFCFG_TX c)) k && !bit (s.r (CAN_RXNEW_NEW c)) k) with
      | some k => s.canStore c k n id.toNat dlc.toNat xtd (rtr && !fdf) esi fdf brs data
      | none => (s.w (CAN_STS_RXOVF c) 1).canIrq c 3

/-! Writes (R452, R453). -/

/-- A write to a word of the message buffers; a pending buffer's is dropped, and one that the kernel owns is dropped
with OWNERR. -/
def State.writeCanBuf (s : State) (who : Agent) (c off v : Nat) : State :=
  let k := off / 72
  if s.isoOwns c && who != .kernel && k < 8 then s.ownErr c
  else if bit (s.can c).req k then s
  else (s.fresh 0x020).writeLE (canBuf c 0 + off) v 4

/-- The kernel owns this register of a controller: CAN_CTRL, CAN_NBT, CAN_DBT, filters 0 to 7 (R453). -/
def canOwned (off : Nat) : Bool := off == 0 || off == 4 || off == 8 || (decide (0x40 ≤ off) && decide (off < 0x80))

end Sys2Proof.Machine
end

