-- ==== Sys2Proof/Machine/Hly.lean ====
section
/-!
DEFINITION. Halyard (R282 to R303): links, the slot table, cycle frames and their copies, events, the safety envelope,
acyclic frames, and the meanings of Halyard's commands.
-/
namespace Sys2Proof.Machine

open Reg

/-! Bytes. -/

/-- Put bytes into a list at an offset, its length unchanged. -/
def putAt (l : List Byte) (o : Nat) (x : List Byte) : List Byte := (l.take o ++ x ++ l.drop (o + x.length)).take l.length

/-! The lock state of ring discipline (R100). -/

def State.modHoi (s : State) (f : Hoi → Hoi) : State := { s with hoi := f s.hoi }

def State.lock (s : State) : LockState :=
  match s.r HOI_STS_LOCK with
  | 0 => .free | 1 => .acquire | 2 => .locked | _ => .holdover

def lockCode : LockState → Nat
  | .free => 0 | .acquire => 1 | .locked => 2 | .holdover => 3

/-- A change of the lock state; LOCKED regained clears "Frame lock lost" (R419). -/
def State.lockGo (s : State) (l : LockState) : State :=
  if s.lock = l then s
  else
    let s := (s.w HOI_STS_LOCK (lockCode l)).w HOI_IRQ_LOCKCHG 1
    let s := s.modHoi (fun h => { h with inWin := 0 })
    if l = .locked then s.autoClear Fid.frameLockLost else s

/-- A cycle frame is received: FREE begins to acquire, and HOLDOVER ends (R100). -/
def State.frameSeen (s : State) : State :=
  if !s.b HOI_DISC_ENA then s
  else
    let s := s.modHoi (fun h => { h with missing := 0 })
    if s.lock = .free then s.lockGo .acquire else if s.lock = .holdover then s.lockGo s.hoi.before else s

/-! Ports and interrupts. -/

def State.port (s : State) (n : Nat) : HlyPort := if n = 0 then s.hly.port0 else s.hly.port1

def State.setPort (s : State) (n : Nat) (p : HlyPort) : State :=
  { s with hly := if n = 0 then { s.hly with port0 := p } else { s.hly with port1 := p } }

/-- Change Halyard's state outside its registers. -/
def State.modHly (s : State) (f : Hly → Hly) : State := { s with hly := f s.hly }

/-- An interrupt event: 0 link, 1 ring state, 2 image, 3 response, 4 UNREACH, 5 CONFLICT or STMIS, 6 RETLATE, 7 SAFETO. -/
def State.hlyIrq (s : State) (k : Nat) : State := s.setBit HLY_IRQ_EVT k

def State.portUp (s : State) (n : Nat) : Bool := s.r (HLY_PORT_LSTATE n) == 2

/-- A LOOP bit stays only while its port is UP and the other is not (R291). -/
def State.loops (s : State) : State :=
  (s.wb (HLY_PORT_LOOP 0) (s.b (HLY_PORT_LOOP 0) && s.portUp 0 && !s.portUp 1)).wb (HLY_PORT_LOOP 1)
    (s.b (HLY_PORT_LOOP 1) && s.portUp 1 && !s.portUp 0)

/-- A copy arrives at a port of a member: LOOP says whether it turns back there (R291, R308). -/
def State.noteLoop (s : State) (port : Nat) : State := s.wb (HLY_PORT_LOOP port) (!s.portUp (1 - port))

/-- HLY is powered and not under test: its lanes, clock recovery and forwarding path work (R52). -/
def State.hlyPath (s : State) : Bool := s.live .hly && !s.tested 13

/-- The protocol engine works too: HLY does not nap (R52). -/
def State.hlyLive (s : State) : Bool := s.hlyPath && !s.cpm.hlyNap

/-- A port changes its link state (R283). -/
def State.linkTo (s : State) (n st : Nat) : State :=
  if s.r (HLY_PORT_LSTATE n) = st then s else ((s.w (HLY_PORT_LSTATE n) st).hlyIrq 0).loops

/-- A port goes DOWN: an UP link that is enabled and lost raises "Halyard link down" (DEDUCED, assumption 118). -/
def State.linkLost (s : State) (n : Nat) : State :=
  let was := s.r (HLY_PORT_LSTATE n)
  let s := s.linkTo n 0
  if was = 2 ∧ bit (s.r HLY_CTRL_PORTEN) n then s.raise Fid.hlyLinkDown n else s

/-! The slot table (R295). -/

/-- The entries of a table in memory. -/
def State.slotEntries (s : State) (base : Nat) (n : Nat) : List SlotEntry :=
  (List.range n).map (fun k =>
    let w0 := s.readLE (base + 16 + 8 * k) 4
    let w1 := s.readLE (base + 20 + 8 * k) 4
    ⟨w0 % 4096, w0 / 4096 % 4096, w0 / 2 ^ 24, w1 % 16, w1.testBit 4⟩)

/-- The bytes of an area: its header, its cyclic data and its event entries. -/
def SlotEntry.size (e : SlotEntry) : Nat := 4 + e.clen + 8 * e.evn

/-- LEN of a table's frame (R288). -/
def SlotTable.len (t : SlotTable) : Nat := 36 + (t.entries.map SlotEntry.size).sum

/-- t_frame in units of 0.1 ns (R304). -/
def SlotTable.frame01 (t : SlotTable) : Nat := 32 * (t.len + 2)

/-- No number stands twice in a list. -/
def noTwice : List Nat → Bool
  | [] => true
  | a :: l => !l.contains a && noTwice l

/-- The ring cycle of R99 in u, without adjustment. -/
def State.ringNomU (s : State) : Nat := s.outersH * s.loopsO * s.ticksL * s.r HOI_FRAME_CARP / 2

/-- The table at HLY_STBASE when it passes every check of R295. -/
def State.readTable (s : State) : Option SlotTable :=
  let base := s.r HLY_STBASE_BASE / 16 * 16
  let stid := s.readLE base 2
  let nent := s.readLE (base + 2) 2
  let flags := s.readLE (base + 4) 1
  let th := s.readLE (base + 8) 4
  if stid = 0 ∨ nent = 0 ∨ 4095 < nent then none
  else
    let es := s.slotEntries base nent
    let t : SlotTable := ⟨stid, crc32 (s.bytes base (16 + 8 * nent)), flags.testBit 0, flags / 2 % 4, th, es⟩
    let addrs := es.map (fun e => e.addr)
    let ok := noTwice addrs && addrs.head? == some 0 && addrs.contains (s.r HLY_NODE_ADDR)
      && es.all (fun e => e.clen % 4 == 0 && decide (e.clen ≤ 4092) && (!e.safe || decide (12 ≤ e.clen)))
      && decide (t.len ≤ 131072) && th == s.ringNomU && decide (t.frame01 + 20000 ≤ 50 * th)
    if ok then some t else none

/-- The offset of an address's area in a table's frame, with its entry. -/
def SlotTable.area (t : SlotTable) (addr : Nat) : Option (Nat × SlotEntry) :=
  let rec go : List SlotEntry → Nat → Option (Nat × SlotEntry)
    | [], _ => none
    | e :: l, o => if e.addr = addr then some (o, e) else go l (o + e.size)
  go t.entries 32

/-! Events (R296, R297). -/

/-- The eight bytes of an event entry with its offset within the ring cycle that begins at `cyc`. -/
def eventBytes (e : GdnEvent) (cyc : Nat) : List Byte :=
  leBytes (e.ep + 2 ^ 20 * e.countM1 + (if e.on then 2 ^ 28 else 0) + 2 ^ 29) 4
    ++ leBytes ((e.inst - cyc) / 200) 2 ++ leBytes 0 2

/-- The entry of a broadcast all-off. -/
def allOffBytes : List Byte := leBytes (0xFFF00 + 2 ^ 20 * 255 + 2 ^ 29 + 2 ^ 30) 4 ++ leBytes 0 4

/-- Insert by instant. -/
def insertEvent (e : GdnEvent) : List GdnEvent → List GdnEvent
  | [] => [e]
  | x :: l => if e.inst < x.inst then e :: x :: l else x :: insertEvent e l

/-- Off-events first, each group in instant order. -/
def orderEvents (l : List GdnEvent) : List GdnEvent :=
  (l.filter (fun e => !e.on)).foldl (fun a e => insertEvent e a) []
    ++ (l.filter (fun e => e.on)).foldl (fun a e => insertEvent e a) []

/-- The entry of this node in its active table. -/
def State.ownEntry (s : State) : Option SlotEntry :=
  match s.hly.table with
  | some t => t.entries.find? (fun e => e.addr == s.r HLY_NODE_ADDR)
  | none => none

/-- Place the waiting events in this node's entries for the coming ring cycle: an on-event without one is refused back
to Guidon, an off-event without one rides the next frame with EVDEFER (DEDUCED, assumption 116). -/
def State.placeEvents (s : State) : State :=
  let evn := match s.ownEntry with | some e => e.evn | none => 0
  let all := s.hly.nextAllOff
  let room := if all && decide (0 < evn) then evn - 1 else evn
  let evs := orderEvents s.hly.nextEvents
  let now := evs.take room
  let rest := evs.drop room
  let s := if rest.any (fun e => !e.on) then s.w HLY_STS_EVDEFER 1 else s
  let s := (rest.filter (fun e => e.on)).foldl (fun s e =>
    let s := { s with gdn := { s.gdn with acting := s.gdn.acting.filter (fun x => !(x.sec == e.sec && x.on && x.inst == e.inst))
                                          sent := s.gdn.sent.filter (· != e) } }
    (((s.noteSched e.sec false).w GDN_STS_ONREF 1).bumpSat GDN_CNT_ONREF).gdnIrq 1) s
  s.modHly fun h => { h with nowEvents := now, nextEvents := rest.filter (fun e => !e.on), nowAllOff := all, nextAllOff := false }

/-- A received event acts on the local endpoints; the endpoints it leaves on are remembered (R294, R297). -/
def State.recvAct (s : State) (e : RxEvent) : State :=
  let s := s.epRange e.ep e.countM1 e.on (s.ringOfs e.inst)
  let eps := (List.range (e.countM1 + 1)).map (fun k => e.ep + k)
  let rest := s.hly.recvOn.filter (fun x => !eps.contains x)
  { s with hly := { s.hly with recvOn := if e.on then rest ++ eps else rest } }

/-- A node's broadcast all-off in frame cycle `cyc` acts at its arrival, once: every local endpoint takes its off action. An
event that is held keeps its instant (DEDUCED, assumption 183). -/
def State.recvAllOff (s : State) (cyc src : Nat) : State :=
  if s.hly.allOffIn.contains (cyc, src) then s
  else
    let s := s.epRange 0 255 false (s.ringOfs s.nowU)
    { s with hly := { s.hly with allOffIn := (cyc, src) :: s.hly.allOffIn.filter (fun e => e.1 == cyc), recvOn := [] } }

/-- The ALLOFF word of a frame: its broadcast acts (R296, R297). -/
def State.takeAllOff (s : State) (f : List Byte) : State :=
  let w := leAt f 0x18 4
  if w.testBit 12 then s.recvAllOff (leAt f 4 4) (w % 4096) else s

/-- A VALID event of node `src`'s area in frame cycle `cyc`, whose own H boundary is `bound`: held to its instant, or applied at once
and counted when that is past (R297). -/
def State.takeEvent (s : State) (cyc bound src w0 ofs : Nat) : State :=
  let node := w0 / 256 % 4096
  let on := w0.testBit 28
  if !w0.testBit 29 then s
  else if w0.testBit 30 then s.recvAllOff cyc src
  else if node ≠ s.r HLY_NODE_ADDR then s
  else
    let lag := match s.hly.table with | some t => if t.dlag then s.ringU else 0 | none => 0
    let inst := bound + 200 * ofs + lag
    let e : RxEvent := ⟨w0 % 256, w0 / 2 ^ 20 % 256, on, inst⟩
    if s.nowU < inst then { s with hly := { s.hly with held := s.hly.held ++ [e] } }
    else
      let s := s.bumpSat HLY_CNT_EVLATE
      if on ∧ inst + 200 * s.r HLY_CFG_LATEMAX < s.nowU then s else s.recvAct e

/-! Safety envelopes (R303). -/

/-- The check value of an envelope: CRC-32C over INST, SEQ, SRC and data (DEDUCED, assumption 102). -/
def envelopeCrc (inst : Nat) (body : List Byte) : Nat := crc32c (leBytes inst 2 ++ body)

/-- ENVELOPE_ACCEPT: CRC, registered producer, and SEQ 1 to SEQWIN ahead of the last accepted (DEDUCED, assumption 102). -/
def State.takeEnvelope (s : State) (env : List Byte) : State :=
  let n := env.length
  if n < 12 then s
  else
    let seq := leAt env 0 2
    let src := leAt env 2 2 % 4096
    let ok := envelopeCrc (s.r HLY_NODE_INST) (env.take (n - 4)) == leAt env (n - 4) 4
    match s.hly.producers.find? (fun p => p.src == src) with
    | some p =>
      let ahead := (seq + 65536 - p.seq) % 65536
      if ok ∧ 1 ≤ ahead ∧ ahead ≤ max 1 (s.r HLY_SAFE_SEQWIN) then
        { s with hly := { s.hly with producers := s.hly.producers.map (fun x => if x.src == src then ⟨src, seq, 0⟩ else x) } }
      else s
    | none => s

/-- This node's own cyclic bytes: TXBUF as latched, formed into an envelope when its entry is a safety area. -/
def State.latchTx (s : State) : State :=
  let s := s.fresh 0x008
  match s.ownEntry with
  | none => { s with hly := { s.hly with txData := [] } }
  | some e =>
    let raw := s.bytes (s.r HLY_TXBUF_BASE) e.clen
    if e.safe && decide (12 ≤ e.clen) then
      let data := (raw.drop 4).take (e.clen - 8)
      let data := if s.b HLY_CTRL_ENSEN then putAt data 0 (leBytes (s.r SSS_ENSIGN_ENSIGN) 4) else data
      let seq := (s.hly.envSeq + 1) % 65536
      let body := leBytes seq 2 ++ leBytes (s.r HLY_NODE_ADDR) 2 ++ data
      { s with hly := { s.hly with envSeq := seq, txData := body ++ leBytes (envelopeCrc (s.r HLY_NODE_INST) body) 4 } }
    else { s with hly := { s.hly with txData := raw } }

/-! Cycle frames (R288 to R293). -/

/-- This node's area as it is written into a copy of frame cycle `cyc` (R288, R292). -/
def State.ownArea (s : State) (e : SlotEntry) (cyc : Nat) : List Byte :=
  let head := leBytes (e.addr + 4096 + 65536 * (cyc % 65536)) 4
  let evs := (if s.hly.nowAllOff && decide (0 < e.evn) then [allOffBytes] else [])
    ++ s.hly.nowEvents.map (fun x => eventBytes x s.hoi.cycleAt)
  let ev := (evs.take e.evn).flatten
  head ++ (s.hly.txData ++ List.replicate e.clen 0).take e.clen ++ (ev ++ List.replicate (8 * e.evn) 0).take (8 * e.evn)

/-- A fresh CRC at the end of a frame. -/
def sealFrame (f : List Byte) : List Byte := putAt f (f.length - 4) (leBytes (crc32 (f.take (f.length - 4))) 4)

/-- The ALLOFF word of R296: set with this node as SRC when its area has no event entry, unless it is set already. -/
def State.allOffWord (s : State) (f : List Byte) (evn : Nat) : List Byte :=
  if s.hly.nowAllOff && evn == 0 && !(leAt f 0x18 4).testBit 12 then
    putAt f 0x18 (leBytes (s.r HLY_NODE_ADDR + 4096) 4) else f

/-- The frame that the owner launches by a port (R288, R290, R291). -/
def State.launchFrame (s : State) (t : SlotTable) (port : Nat) : List Byte :=
  let head := leBytes 1 1 ++ leBytes port 1 ++ leBytes (s.r HLY_NODE_INST) 2 ++ leBytes s.hly.cycle 4 ++ leBytes 128 4
    ++ leBytes 0 2 ++ leBytes t.stid 2 ++ leBytes t.crc 4 ++ leBytes t.len 4 ++ leBytes 0 8
  let areas := (t.entries.map (fun e =>
    if e.addr = 0 then s.ownArea e s.hly.cycle
    else leBytes (e.addr + 65536 * (s.hly.cycle % 65536)) 4 ++ List.replicate (e.size - 4) 0)).flatten
  let evn := match t.entries.head? with | some e => e.evn | none => 0
  sealFrame (s.allOffWord (head ++ areas ++ leBytes 0 4) evn)

/-- CYCLE_LAUNCH: the owner launches one copy on each UP port (R291). -/
def State.launch (s : State) : State :=
  match s.hly.table with
  | none => s
  | some t =>
    let s := { s with hly := { s.hly with cycle := (s.hly.cycle + 1) % 2 ^ 32 } }
    [0, 1].foldl (fun s n => if s.portUp n then
      s.setPort n { s.port n with lastOut := s.launchFrame t n, lastGood := true } else s) s

/-- A received frame is good: it ended in EOF, without a code-group error, with the length LEN and a good CRC (R289). -/
def frameGood (f : List Byte) (eof codeErr : Bool) : Bool :=
  eof && !codeErr && decide (36 ≤ f.length) && leAt f 0x14 4 == f.length
    && crc32 (f.take (f.length - 4)) == leAt f (f.length - 4) 4

/-- Take one area that has not been taken from this cycle's copies and has been written, the owner's in any case: its
envelope and its events (R292). -/
def State.takeArea (s : State) (f : List Byte) (bound o : Nat) (e : SlotEntry) : State :=
  let h := leAt f o 4
  if e.addr = s.r HLY_NODE_ADDR ∨ s.hly.taken.contains e.addr ∨ !(h.testBit 12 || e.addr == 0) then s
  else
    let s := { s with hly := { s.hly with taken := s.hly.taken ++ [e.addr] } }
    let s := if e.safe then s.takeEnvelope ((f.drop (o + 4)).take e.clen) else s
    (List.range e.evn).foldl (fun s k =>
      s.takeEvent (leAt f 4 4) bound e.addr (leAt f (o + 4 + e.clen + 8 * k) 4) (leAt f (o + 8 + e.clen + 8 * k) 2)) s

/-- Take every area of a frame in table order, and a broadcast all-off (R292, R297). -/
def State.takeAreas (s : State) (t : SlotTable) (f : List Byte) (bound : Nat) : State :=
  (t.entries.foldl (fun (a : State × Nat) e => (a.1.takeArea f bound a.2 e, a.2 + e.size)) (s.takeAllOff f, 32)).1

/-- The broadcasts alone of a frame: its ALLOFF word, and each written area's entry with BCAST (R297). -/
def State.takeBroadcasts (s : State) (t : SlotTable) (f : List Byte) : State :=
  let one := fun (s : State) (o : Nat) (e : SlotEntry) => (List.range e.evn).foldl (fun s k =>
    let w := leAt f (o + 4 + e.clen + 8 * k) 4
    if w.testBit 29 && w.testBit 30 then s.recvAllOff (leAt f 4 4) e.addr else s) s
  (t.entries.foldl (fun (a : State × Nat) e =>
    (if (leAt f a.2 4).testBit 12 then one a.1 a.2 e else a.1, a.2 + e.size)) (s.takeAllOff f, 32)).1

/-- Whether a frame carries a table: its STID and STCRC. -/
def SlotTable.carried (t : SlotTable) (f : List Byte) : Bool := leAt f 0x0E 2 == t.stid && leAt f 0x10 4 == t.crc

/-- The ring state changes (R294); a member that leaves MEMBER acts the off action of what received events left on. -/
def State.ringTo (s : State) (st : Nat) : State :=
  let was := s.r HLY_STS_RSTATE
  if was = st then s
  else
    let s := (s.w HLY_STS_RSTATE st).hlyIrq 1
    let s := if st = 0 ∨ st = 3 then (s.w (HLY_PORT_LOOP 0) 0).w (HLY_PORT_LOOP 1) 0 else s
    if was = 2 then
      let s := s.hly.recvOn.foldl (fun s e => s.epAct e false 0) s
      { s with hly := { s.hly with recvOn := [], held := [], takenIn := none } }
    else s

/-- This node writes its area into a copy (R292, R295): a member, on the copy's first pass, of a frame that carries its
table. -/
def State.writesCopy (s : State) (f : List Byte) : Bool :=
  s.r HLY_STS_RSTATE == 2 && !s.hly.wrote.contains (leAt f 4 4, leAt f 1 1 % 2)
    && (match s.hly.table with | some t => t.carried f | none => false)

/-- The frame as this node forwards it (R289, R290, R291, R292, R296). -/
def State.forwardFrame (s : State) (port : Nat) (f : List Byte) (looped mine : Bool) : List Byte :=
  let acc := leAt f 8 4 + s.r (HLY_PORT_LDLY port) + s.r (HLY_PORT_RES port)
  let f := putAt (putAt f 8 (leBytes acc 4)) 0x0C (leBytes (leAt f 0x0C 2 + 1) 2)
  let f := if looped then putAt f 1 (leBytes (leAt f 1 1 ||| 2) 1) else f
  let f := match s.hly.table with
    | some t =>
      let f := match t.area (s.r HLY_NODE_ADDR), mine with
        | some (o, e), true => putAt f o (s.ownArea e (leAt f 4 4))
        | _, _ => f
      (match s.ownEntry with | some e => if s.r HLY_STS_RSTATE = 2 then s.allOffWord f e.evn else f | none => f)
    | none => f
  sealFrame f

/-- A core's view still shows the image that HLY writes next as the front one (R353). -/
def State.backShown (s : State) : Bool :=
  [s.cores.main.view, s.cores.chk.view].any (fun v => match v with | some v => v.imgUpper != s.hly.imgUpper | none => false)

/-- HLY's DMA writes bytes; whole words replace what held an error. -/
def State.dmaWrite (s : State) (a : Nat) (l : List Byte) : State :=
  let stays := fun (x : Nat) => !(decide (a ≤ x) && decide (x + 4 ≤ a + l.length))
  { s.writeBytes a l with cores := { s.cores with badWords := s.cores.badWords.filter stays, softWords := s.cores.softWords.filter stays } }

/-- Frame data go into the back image, or wait in the receive FIFO while a view still shows it (R292, R353). -/
def State.rxWrite (s : State) (a : Nat) (l : List Byte) : State :=
  if s.backShown then s.modHly fun h => { h with rxWait := h.rxWait ++ [(a, l)] } else s.dmaWrite a l

/-- The areas of a frame that were not in `had` and have been written go into an image. -/
def State.rxAreas (s : State) (t : SlotTable) (f : List Byte) (had : List Nat) (base : Nat) : State :=
  (t.entries.foldl (fun (a : State × Nat) e =>
    (if (leAt f a.2 4).testBit 12 && !had.contains e.addr then a.1.rxWrite (base + a.2) ((f.drop a.2).take e.size) else a.1,
      a.2 + e.size)) (s, 32)).1

/-- The first address of the back image of HLY_RXBUF. -/
def State.rxBack (s : State) : Nat := s.r HLY_RXBUF_BASE / 16 * 16 + (if s.hly.imgUpper then 0 else 0x20000)

/-- A frame goes into the back image: the cycle's first whole, of a later one the areas not yet taken (R292). -/
def State.rxFrame (s : State) (t : SlotTable) (f : List Byte) (first : Bool) (had : List Nat) : State :=
  (if first then s.rxWrite s.rxBack f else s.rxAreas t f had s.rxBack).modHly fun h => { h with imgReady := true }

/-- What has waited is written, in order, once no view shows its image. -/
def State.rxFlush (s : State) : State :=
  if s.backShown then s
  else s.hly.rxWait.foldl (fun s x => s.dmaWrite x.1 x.2) (s.modHly fun h => { h with rxWait := [] })

/-- At an H boundary the images swap: what waits still, because a view has shown its image all through the cycle, never enters
it, and the image is incomplete (DEDUCED, assumption 183). -/
def State.rxEnd (s : State) : State :=
  let s := s.rxFlush
  if s.hly.rxWait.isEmpty then s
  else ((s.w HLY_STS_RXOVF 1).raise Fid.hlyRxOverrun).modHly fun h => { h with rxWait := [], imgBad := true }

/-- Whether a copy is the first of its cycle, and whether it is a later one of the cycle being taken; one of the cycle
before is neither (DEDUCED, assumption 166). -/
def Hly.firstCopy (h : Hly) (cyc : Nat) : Bool := match h.takenIn with
  | some c => !((c + 2 ^ 32 - cyc) % 2 ^ 32 < 2)
  | none => true

/-- The own H boundary of the frame's cycle: the one nearest to the owner's launch (R98, R297) (DEDUCED, assumption 166). -/
def State.boundOf (s : State) (launch : Frac) : Nat :=
  let d := 2 * (launch.round - s.hoi.cycleAt)
  if (s.ringU : Int) < d then s.hoi.cycleAt + s.ringU
  else if d < -(s.ringU : Int) then s.hoi.cycleAt - s.ringU else s.hoi.cycleAt

/-- A member accepts a good copy (R98, R292, R297): its path and launch instant, its areas, and the frame image by DMA
into the back image of HLY_RXBUF unless the receive FIFO overflows. From a later copy of the cycle it adds the areas not
yet taken. -/
def State.acceptCopy (s : State) (t : SlotTable) (port sofUi : Nat) (f : List Byte) (ovf : Bool) : State :=
  let cyc := leAt f 4 4
  let path := leAt f 8 4 + s.r (HLY_PORT_LDLY port)
  let launch := (Frac.ofInt s.hoi.base).add ⟨((sofUi : Int) - path) * 8, 125⟩
  let first := s.hly.firstCopy cyc
  if !first && s.hly.takenIn != some cyc then s
  else
  let s := if first then
      let s := ((s.w HLY_PATH_PATH path).w HLY_PATH_COPY (leAt f 1 1 % 2)).w HLY_PATH_VALID 1
      { s.frameSeen with
               hoi := { s.frameSeen.hoi with launch := some launch.norm }
               hly := { s.hly with got := true, missed := 0, cycle := cyc, imgBad := false, takenIn := some cyc, taken := [] } }
    else s
  let had := s.hly.taken
  let s := s.takeAreas t f (s.boundOf launch)
  if !s.hly.got then s
  else if ovf then ((s.w HLY_STS_RXOVF 1).raise Fid.hlyRxOverrun).modHly fun h => { h with imgReady := true, imgBad := true }
  else s.rxFrame t f first had

/-- A member's handling of a good copy of its own installation (R292, R294, R295). -/
def State.memberCopy (s : State) (port sofUi : Nat) (f : List Byte) (ovf : Bool) : State :=
  let tab := match s.hly.pending with
    | some t => if t.carried f then some t else s.hly.table
    | none => s.hly.table
  match tab with
  | some t =>
    if t.carried f then
      let s := { s with hly := { s.hly with table := some t,
                                            pending := match s.hly.pending with | some p => if p.carried f then none else some p | none => none } }
      let s := s.autoClear Fid.hlySlotMismatch
      if s.r HLY_NODE_ADDR = 0 then (s.ringTo 1).w HLY_STS_CFGERR 1
      else ((s.ringTo 2).autoClear Fid.hlyIsolated).acceptCopy t port sofUi f ovf
    else (((s.w HLY_STS_STMIS 1).hlyIrq 5).raise Fid.hlySlotMismatch).ringTo 1
  | none => (((s.w HLY_STS_STMIS 1).hlyIrq 5).raise Fid.hlySlotMismatch).ringTo 1

/-- A frame of another installation (R287): a member leaves the ring. -/
def State.foreignFrame (s : State) : State :=
  let s := ((s.w HLY_STS_CONFLICT 1).hlyIrq 5).modHly fun h => { h with clean := 0 }
  (s.raise Fid.hlyConflict).ringTo (if s.r HLY_STS_RSTATE = 2 then 1 else s.r HLY_STS_RSTATE)

/-- CYCLE_FRAME at a member: it forwards or loops the copy with its area written, and takes a good one. -/
def State.memberFrame (s : State) (port sofUi : Nat) (f : List Byte) (eof codeErr ovf : Bool) : State :=
  let good := frameGood f eof codeErr
  let other := 1 - port
  let looped := !s.portUp other
  let out := if looped then port else other
  if good && leAt f 2 2 != s.r HLY_NODE_INST then s.foreignFrame
  else if 8190 < leAt f 0x0C 2 then s
  else
    let s := s.noteLoop port
    let s := if leAt f 1 1 / 2 % 2 = 0 then s.modHly fun h => { h with upPort := port } else s
    let mine := s.writesCopy f
    let g := s.forwardFrame port f looped mine
    let s := if good then s.memberCopy port sofUi f ovf else s.bumpSat HLY_CNT_CRCERR
    let s := s.setPort out { s.port out with lastOut := g, lastGood := good }
    if mine then { s with hly := { s.hly with wrote := ((leAt f 4 4, leAt f 1 1 % 2) :: s.hly.wrote).take 4 } } else s

/-- A cycle frame while the engine naps: the cut-through path alone forwards it, without this node's area (R52). -/
def State.passFrame (s : State) (port : Nat) (f : List Byte) (eof codeErr : Bool) : State :=
  if 8190 < leAt f 0x0C 2 then s
  else
    let looped := !s.portUp (1 - port)
    let out := if looped then port else 1 - port
    (s.noteLoop port).setPort out
      { s.port out with lastOut := s.forwardFrame port f looped false, lastGood := frameGood f eof codeErr }

/-- RETURNING_COPY at the owner (R290, R293): in time for its cycle, its written areas are taken and stored as a member stores them
(DEDUCED, assumption 183); late, it is discarded with RETLATE; a broadcast in a good copy acts either way (R297). -/
def State.returnCopy (s : State) (f : List Byte) (eof codeErr : Bool) : State :=
  let good := frameGood f eof codeErr
  let behind := if good then (s.hly.cycle + 2 ^ 32 - leAt f 4 4) % 2 ^ 32 else 0
  if good && leAt f 2 2 != s.r HLY_NODE_INST then s.foreignFrame
  else if 8190 < leAt f 0x0C 2 then s
  else
  let s := s.w HLY_OWNSTS_RT ((s.nowU + behind * s.ringU - s.hoi.cycleAt) / 20)
  let inTime := decide (behind = 0) && decide (s.nowU + 2000 ≤ s.hoi.cycleAt + s.ringU)
  let s := if good then s else s.bumpSat HLY_CNT_CRCERR
  let s := if inTime then if good then (s.autoClear Fid.hlyRoundLate).modHly fun h => { h with late := 0 } else s
    else ((s.w HLY_STS_RETLATE 1).hlyIrq 6).modHly fun h => { h with late := h.late + 1 }
  match s.hly.table with
  | some t =>
    if !good then s
    else if inTime && t.carried f then
      ((s.takeAreas t f s.hoi.cycleAt).rxFrame t f (!s.hly.got) s.hly.taken).modHly fun h => { h with got := true }
    else if t.carried f then s.takeBroadcasts t f else s.takeAllOff f
  | none => s

/-! The H boundary (R292 to R296, R302, R303). -/

/-- CLEN of this node's entry, the larger of those in its active and its pending table. -/
def State.txLen (s : State) : Nat :=
  let len := fun (t : Option SlotTable) => match t with
    | some t => (match t.area (s.r HLY_NODE_ADDR) with | some (_, e) => e.clen | none => 0)
    | none => 0
  max (len s.hly.table) (len s.hly.pending)

/-- The bases in force are legal: SRAM at or above 0x2001_0000 and outside the duplicated region (R292). -/
def State.baseOk (s : State) (f : Fld) (v : Nat) : Bool :=
  let lo := if f = HLY_TXBUF_BASE then v else v / 16 * 16
  let size := if f = HLY_RXBUF_BASE then 0x40000
    else if f = HLY_TXBUF_BASE then s.txLen
    else 16 + 8 * s.readLE (lo + 2) 2
  let db := s.r CMP_DUPBASE_BASE / 4096 * 4096
  let dn := if s.b CMP_STS_DUPSET then s.r CMP_DUPSIZE_SIZE / 4096 * 4096 else 0
  decide (0x20010000 ≤ lo) && decide (lo + size ≤ 0x20100000) && (decide (lo + size ≤ db) || decide (db + dn ≤ lo))

/-- The checks of R302. A safety envelope travels acyclic when its producer has no safety area (DEDUCED, assumption 102). -/
def State.retryOk (s : State) : Bool :=
  let n := s.r HLY_ACFG_HRETRY + 1
  let ack := max 1 (s.r HLY_ACFG_ACKTO)
  let frame := match s.hly.table with | some t => t.frame01 | none => 0
  let safe := s.hly.producers.any (fun p => match s.hly.table with
    | some t => !t.entries.any (fun e => e.safe && e.addr == p.src)
    | none => true)
  decide (2 * n * ack < 1000 * max 1 (s.r HLY_ACFG_TXTO)) && decide (frame + 20000 ≤ 10000 * ack)
    && (!safe || decide (2 * n * ack * 200 < max 1 (s.r HLY_SAFE_SWD) * s.ringNomU))

/-- The states that the settings ask for (R283, R294, R295). -/
def State.hlyApply (s : State) : State :=
  let s := [0, 1].foldl (fun s n => if bit (s.r HLY_CTRL_PORTEN) n then s else s.linkTo n 0) s
  if !s.b HLY_CTRL_EN then s.ringTo 0
  else
    let t := s.readTable
    let same := match t, s.hly.table with | some a, some b => decide (a = b) | _, _ => false
    let s := match t with
      | some a => if same then s else { s with hly := { s.hly with pending := some a } }
      | none => s.w HLY_STS_CFGERR 1
    let basesOk := s.baseOk HLY_STBASE_BASE (s.r HLY_STBASE_BASE) && s.baseOk HLY_TXBUF_BASE (s.r HLY_TXBUF_BASE)
      && s.baseOk HLY_RXBUF_BASE (s.r HLY_RXBUF_BASE)
    if s.r HLY_STS_RSTATE ≠ 0 then
      if s.r HLY_STS_RSTATE ≠ 3 ∧ s.r HLY_NODE_ADDR = 0 then (s.ringTo 1).w HLY_STS_CFGERR 1 else s
    else if !basesOk then s.w HLY_STS_CFGERR 1
    else if s.b HLY_CTRL_OWNER then
      match s.hly.pending.or s.hly.table with
      | some a => (s.ringTo 3).modHly fun h => { h with table := some a, pending := none }
      | none => s
    else
      let s := s.ringTo 1
      if s.r HLY_NODE_ADDR = 0 then s.w HLY_STS_CFGERR 1 else s

/-- A producer one ring cycle later. -/
def Producer.older (p : Producer) : Producer := { p with age := p.age + 1 }

/-- What a ring cycle has gathered starts afresh. -/
def Hly.newCycle (h : Hly) : Hly :=
  { h with missed := if h.got then 0 else h.missed + 1, got := false, originated := 0, clean := h.clean + 1, producers := h.producers.map Producer.older }

/-- Received events in the order of their instants, an off after the ons of its instant, so that the off acts (R273, R297). -/
def rxOrder (l : List RxEvent) : List RxEvent :=
  let put := fun (m : List RxEvent) (e : RxEvent) => m.takeWhile (fun x => decide (x.inst ≤ e.inst)) ++ e :: m.dropWhile (fun x => decide (x.inst ≤ e.inst))
  (l.filter (fun e => e.on) ++ l.filter (fun e => !e.on)).foldl put []

/-- Held events whose instant has come act (R297). -/
def State.heldDue (s : State) : State :=
  let due := s.hly.held.filter (fun e => decide (e.inst ≤ s.nowU))
  let s := { s with hly := { s.hly with held := s.hly.held.filter (fun e => !decide (e.inst ≤ s.nowU)) } }
  (rxOrder due).foldl State.recvAct s

/-- Bases that swapped in against R292 do not: the ones before stay, with CFGERR. -/
def State.basesKept (s old : State) : State :=
  [HLY_STBASE_BASE, HLY_TXBUF_BASE, HLY_RXBUF_BASE].foldl (fun s f =>
    if s.r f ≠ old.r f ∧ !s.baseOk f (s.r f) then (s.w f (old.r f)).w HLY_STS_CFGERR 1 else s) s

/-- Halyard's part of an H boundary. -/
def State.hlyRing (s : State) : State :=
  if !s.hlyLive then s
  else
    let st := s.r HLY_STS_RSTATE
    let n := match s.hly.table with | some t => t.entries.length - 1 | none => 0
    let s := if st = 3 then (s.w HLY_OWNSTS_NMISS (n - s.hly.taken.length)).modHly fun h => { h with taken := [] } else s
    let s := if s.hly.got then s else s.w HLY_PATH_VALID 0
    let s := s.rxEnd
    let s := if s.hly.imgReady then
        (s.hlyIrq 2).modHly fun h => { h with imgUpper := !h.imgUpper, imgReady := false } else s
    let s := s.modHly Hly.newCycle
    let s := s.hlyApply
    let s := if s.retryOk then (s.w HLY_STS_RETRYCFG 0).autoClear Fid.hlyRetryCfg
      else (s.w HLY_STS_RETRYCFG 1).raise Fid.hlyRetryCfg
    let s := s.placeEvents
    if s.r HLY_STS_RSTATE = 3 then s.launch else s

/-! Acyclic frames (R298 to R301). -/

/-- Where a node sends a frame: the other port, or back out of the arrival port when the other is not UP. -/
def State.onward (s : State) (port : Nat) : Nat := if s.portUp (1 - port) then 1 - port else port

/-- Queue a frame on a port: forwarded frames go ahead of originations (R299). -/
def State.queueFrame (s : State) (port : Nat) (h : HeldFrame) : State :=
  let p := s.port port
  let (sent, rest) := (p.out.filter (fun x => x.sent), p.out.filter (fun x => !x.sent))
  let out := if h.origin = 2 then sent ++ rest ++ [h]
    else sent ++ rest.filter (fun x => x.origin != 2) ++ [h] ++ rest.filter (fun x => x.origin == 2)
  s.setPort port { p with out := out }

/-- The position of an address in the table. -/
def SlotTable.index (t : SlotTable) (addr : Nat) : Option Nat := t.entries.findIdx? (fun e => e.addr == addr)

/-- The port of the shorter direction by table position, ties to port 0, or the only UP port (R299). In a chain and in a segment of
a tree, a node after this one lies beyond the port that copies leave by on their first pass, and one before it beyond the
other (R291) (DEDUCED, assumption 183). -/
def State.routePort (s : State) (dst : Nat) : Nat :=
  if !s.portUp 0 then 1 else if !s.portUp 1 then 0
  else match s.hly.table with
    | some t =>
      match t.index (s.r HLY_NODE_ADDR), t.index dst with
      | some i, some j =>
        let n := t.entries.length
        if t.topo ≠ 0 then (if i < j then 1 - s.hly.upPort else s.hly.upPort)
        else if (j + n - i) % n ≤ (i + n - j) % n then 0 else 1
      | _, _ => 0
    | none => 0

/-- A transaction of this node completes with a status and data; its TID rests for TXTO (R301). -/
def State.transDone (s : State) (tid status : Nat) (data : List Byte) : State :=
  { s with hly := { s.hly with
      trans := s.hly.trans.map (fun x => if x.tid == tid && x.done.isNone then { x with done := some (status, s.nowU, data) } else x)
      tidFreed := s.hly.tidFreed ++ [(tid, s.nowU)] } }

/-- Requests outstanding. -/
def State.outstanding (s : State) : Nat := s.hly.trans.countP (fun x => x.done.isNone)

/-- A response for this node: to its transaction, or discarded and counted in LATE. -/
def State.takeResponse (s : State) (f : AcFrame) : State :=
  if s.hly.trans.any (fun x => x.tid == f.tid && x.done.isNone) then
    let s := (s.transDone f.tid f.code f.payload).hlyIrq 3
    let s := if f.code = 2 then s.hlyIrq 4 else s
    s.w HLY_ACQ_OUTST s.outstanding
  else s.bumpSat HLY_CNT_LATE

/-- Originate a response toward a frame's source. -/
def State.respond (s : State) (f : AcFrame) (code : Nat) (payload : List Byte) : State :=
  let r : AcFrame := ⟨true, 0, f.src, false, s.r HLY_NODE_ADDR, f.tid, code, 0, f.addr, payload⟩
  if f.src = s.r HLY_NODE_ADDR then s.takeResponse r else s.queueFrame (s.routePort f.src) { frame := r }

/-- Buffers of a port that hold a request, or a response, that came by it (R300). -/
def State.buffered (s : State) (port : Nat) (resp : Bool) : Nat :=
  (s.hly.port0.out ++ s.hly.port1.out).countP (fun h => h.origin == port && h.frame.resp == resp)

/-- A good acyclic frame at a hop (R299, R300). Past 8,190 hops it goes no further (R290), and a payload for this node that
is an envelope is judged as one (R303) (DEDUCED, assumption 102). -/
def State.acyclic (s : State) (port : Nat) (f : AcFrame) : State :=
  let p := s.port port
  if 8190 < f.hops then s.setPort port { p with rxSeq := some f.lseq, lastCtl := some (true, f.lseq) }
  else if p.rxSeq = some f.lseq then s.setPort port { p with lastCtl := some (true, f.lseq) }
  else
    let own := f.dst == s.r HLY_NODE_ADDR && !f.bcast
    if decide (4 ≤ s.buffered port f.resp) then s.setPort port { p with lastCtl := some (false, f.lseq) }
    else
      let s := s.setPort port { p with rxSeq := some f.lseq, lastCtl := some (true, f.lseq) }
      if own then
        let s := s.takeEnvelope f.payload
        if f.resp then s.takeResponse f
        else if s.hly.requests.length < 16 then { s with hly := { s.hly with requests := s.hly.requests ++ [f] } }
        else s.respond f 1 []
      else s.queueFrame (s.onward port) { frame := { f with hops := f.hops + 1 }, origin := port }

/-- The first frame a port may start to send: a forwarded one, or an origination within ACSLOT (R299). -/
def State.sendable (s : State) (port : Nat) : Option HeldFrame :=
  let slot := match s.ownEntry with | some e => e.acslot | none => 0
  (s.port port).out.find? (fun h => !h.sent && (h.origin != 2 || decide (s.hly.originated < slot)))

/-- The frame ends at least 1 µs before the next cycle copy is due to leave, and starts after the copy of this cycle has
left (R299): predicted from the last path, RES and LEN; with no table no copy is due (DEDUCED, assumption 167). -/
def State.gapFits (s : State) (port plen : Nat) : Bool :=
  match s.hly.table with
  | none => true
  | some t =>
    let lead := if s.r HLY_STS_RSTATE = 3 then 8 else ceilDiv ((s.r HLY_PATH_PATH + s.r (HLY_PORT_RES (1 - port))) * 8) 125
    let due := s.hoi.cycleAt + lead
    let gone := due + ceilDiv (t.frame01) 50
    let done := s.nowU + ceilDiv (32 * (22 + plen)) 50 + 200
    decide (done ≤ due) || (decide (gone ≤ s.nowU) && decide (done ≤ due + s.ringU))

/-- An acyclic frame from TYPE to its CRC (R298). -/
def AcFrame.body (f : AcFrame) : List Byte :=
  leBytes (if f.resp then 3 else 2) 1 ++ leBytes f.lseq 1 ++ leBytes (f.dst + if f.bcast then 4096 else 0) 2 ++ leBytes f.src 2
    ++ leBytes f.tid 1 ++ leBytes f.code 1 ++ leBytes f.hops 2 ++ leBytes f.payload.length 2 ++ leBytes f.addr 4 ++ f.payload

def AcFrame.crc (f : AcFrame) : Nat := crc32 f.body

def AcFrame.bytes (f : AcFrame) : List Byte := f.body ++ leBytes f.crc 4

/-- A frame starts to be sent with the port's next link sequence. -/
def State.sendFrame (s : State) (port : Nat) (h : HeldFrame) : State :=
  let p := s.port port
  let h' := { h with sent := true, sentAt := s.nowU, frame := { h.frame with lseq := p.txSeq } }
  let s := s.setPort port { p with txSeq := (p.txSeq + 1) % 256, lastAc := h'.frame.bytes, out := h' :: p.out.erase h }
  if h.origin = 2 then { s with hly := { s.hly with originated := s.hly.originated + 1 } } else s

/-- A hop gives a frame up: a request turns into an UNREACH response, a response is discarded (R300). -/
def State.giveUp (s : State) (port : Nat) (h : HeldFrame) : State :=
  let p := s.port port
  let s := s.setPort port { p with out := p.out.erase h }
  if h.frame.resp then s else s.respond h.frame 2 []

/-! The meanings. -/

/-- No signal for 1 µs, lock lost, or ERRN code errors within 10 µs (R283). -/
def State.linkFalls (s : State) : LinkCause → Bool
  | .noSignal u => decide (200 ≤ u)
  | .lockLost => true
  | .codeErrors l => l.any (fun a => decide (max 1 (s.r HLY_CFG_ERRN) ≤ l.countP (fun b => decide (a ≤ b) && decide (b ≤ a + 2000))))

/-- LINK_DOWN (R283). -/
def execLinkDown (loss : LinkLoss) (s : State) : Host.Outcome State Fault Refusal :=
  act s fun s => s.when (s.hlyPath && s.linkFalls loss.cause) fun s => s.linkLost loss.n.val

/-- LINK_TRAIN (R283): signal present for 100 µs. -/
def execLinkTrain (seen : LinkSeen) (s : State) : Host.Outcome State Fault Refusal :=
  act s fun s =>
    let n := seen.n.val
    s.when (s.hlyPath && bit (s.r HLY_CTRL_PORTEN) n && s.r (HLY_PORT_LSTATE n) == 0 && decide (20000 ≤ seen.signalU)
      && !s.hasFault Fid.spllUnlock) fun s =>
    (s.setPort n { s.port n with exchanges := 0, delaySum := 0, trainAt := s.nowU }).linkTo n 1

/-- DELAY_FRAME (R284): an exchange of a delay frame, with its send and return instants and the turnarounds in UI. The frame sent
carries its index, from 0, and this port's own turnaround. -/
def execDelayFrame (n : Fin 2) (sent returned : Nat) (turnaround : Turnaround) (s : State) : Host.Outcome State Fault Refusal :=
  act s fun s => s.when (s.hlyPath && s.r (HLY_PORT_LSTATE n.val) == 1 && decide ((s.port n.val).exchanges < 16)) fun s =>
    let p := s.port n.val
    let sum := p.delaySum + ((returned : Int) - sent - turnaround.peer)
    let p := { p with exchanges := p.exchanges + 1, delaySum := sum, delayOut := some (p.exchanges, turnaround.own) }
    let s := s.setPort n.val p
    if p.exchanges = 16 then s.wi (HLY_PORT_LDLY n.val) (roundDiv p.delaySum 32) else s

/-- LINK_UP (R283, R284): comma aligned, 1,024 valid code groups, and the 16 exchanges. RES lies in 192 to 320 ns, 600 to 1,000 UI, and the device fixes it, a free value
(DESIGN CHOICE, assumption 117). -/
def execLinkUp (seen : LinkSeen) (s : State) : Host.Outcome State Fault Refusal :=
  act s fun s =>
    let n := seen.n.val
    s.when (s.hlyPath && s.r (HLY_PORT_LSTATE n) == 1 && (s.port n).exchanges == 16 && seen.comma
      && decide (1024 ≤ seen.groups)) fun s =>
    let (x, s) := s.freeNat
    ((s.w (HLY_PORT_RES n) (600 + x % 401)).linkTo n 2).autoClear Fid.hlyLinkDown n

/-- TRAIN_TIMEOUT (R283): 10 ms in TRAIN. -/
def execTrainTimeout (n : Fin 2) (s : State) : Host.Outcome State Fault Refusal :=
  act s fun s => s.when (s.hlyPath && s.r (HLY_PORT_LSTATE n.val) == 1 && decide ((s.port n.val).trainAt + 2000000 ≤ s.nowU)) fun s => s.linkTo n.val 0

/-- CYCLE_FRAME (R292): the bytes between SOF and the end set, how it ended, the SOF's arrival in UI after the last tick
boundary, and whether the receive FIFO overflowed. -/
def execCycleFrame (t : Nat) (n : Fin 2) (sofUi : Nat) (frame : List Byte) (eof codeErr ovf : Bool) (s : State) :
    Host.Outcome State Fault Refusal :=
  act s fun s => (s.at t).when (s.hlyPath && s.portUp n.val && (s.r HLY_STS_RSTATE == 1 || s.r HLY_STS_RSTATE == 2)) fun s =>
    if s.hlyLive then (s.fresh 0x004).memberFrame n.val sofUi frame eof codeErr ovf else s.passFrame n.val frame eof codeErr

/-- RETURNING_COPY (R293): the copy's EOF arrives at instant `t`. -/
def execReturningCopy (t : Nat) (n : Fin 2) (frame : List Byte) (eof codeErr : Bool) (s : State) :
    Host.Outcome State Fault Refusal :=
  act s fun s => (s.at t).when (s.hlyLive && s.portUp n.val && s.r HLY_STS_RSTATE == 3) fun s =>
    (s.fresh 0x004).returnCopy frame eof codeErr

/-- EVENT_APPLY (R297): received events that are due act. -/
def execEventApply (t : Nat) (s : State) : Host.Outcome State Fault Refusal :=
  act s fun s => (s.at t).when s.hlyLive State.heldDue

/-- MEMBER_LOST (R294): MISSN ring cycles without a good copy. -/
def execMemberLost (s : State) : Host.Outcome State Fault Refusal :=
  act s fun s => s.when (s.hlyLive && s.r HLY_STS_RSTATE == 2 && decide (max 1 (s.r HLY_CFG_MISSN) ≤ s.hly.missed)) fun s =>
    (s.ringTo 1).raise Fid.hlyIsolated

/-- ROUND_LATE (R293): RLATEN late returns. -/
def execRoundLate (s : State) : Host.Outcome State Fault Refusal :=
  act s fun s => s.when (s.hlyLive && decide (max 1 (s.r HLY_CFG_RLATEN) ≤ s.hly.late)) fun s => s.raise Fid.hlyRoundLate

/-- SAFETY_TIMEOUT (R303, R397): SWD ring cycles without an envelope from a producer; in class C, MASTER goes to 0. -/
def execSafetyTimeout (s : State) : Host.Outcome State Fault Refusal :=
  act s fun s => s.when (s.hlyLive && s.hly.producers.any (fun p => decide (max 1 (s.r HLY_SAFE_SWD) ≤ p.age))) fun s =>
    let s := ((s.w HLY_STS_SAFETO 1).hlyIrq 7).raise Fid.hlySafetyTimeout
    if s.param 0x314 1 = 2 then s.writeMaster false else s

/-- ACYCLIC_FRAME (R298, R300): a frame arrives at this hop, with its CRC. -/
def execAcyclicFrame (t : Nat) (n : Fin 2) (frame : AcyclicFrame) (crc : BitVec 32) (s : State) :
    Host.Outcome State Fault Refusal :=
  act s fun s => (s.at t).when (s.hlyLive && s.portUp n.val) fun s =>
    let f : AcFrame := ⟨frame.resp, frame.lseq.toNat, frame.dst.toNat, frame.bcast, frame.src.toNat, frame.tid.toNat,
      frame.code.toNat, frame.hops.toNat, frame.addr.toNat, frame.payload⟩
    if f.crc == crc.toNat && decide (f.payload.length ≤ 256) then (s.fresh 0x004).acyclic n.val f else s.bumpSat HLY_CNT_CRCERR

/-- ACYCLIC_SEND (R299): the first frame that may go starts, where it fits before the next cycle copy. -/
def execAcyclicSend (t : Nat) (n : Fin 2) (s : State) : Host.Outcome State Fault Refusal :=
  act s fun s => (s.at t).when (s.hlyLive && s.portUp n.val) fun s =>
    match s.sendable n.val with
    | some h => if s.gapFits n.val h.frame.payload.length then s.sendFrame n.val h else s
    | none => s

/-- ACK (R300). -/
def execAck (n : Fin 2) (seq : BitVec 8) (s : State) : Host.Outcome State Fault Refusal :=
  act s fun s => s.when s.hlyLive fun s =>
    let p := s.port n.val
    s.setPort n.val { p with out := p.out.filter (fun h => !(h.sent && h.frame.lseq == seq.toNat)) }

/-- NAK (R300): counted; the frame stays held and is resent after ACKTO. -/
def execNak (n : Fin 2) (seq : BitVec 8) (s : State) : Host.Outcome State Fault Refusal :=
  act s fun s => s.when (s.hlyLive && (s.port n.val).out.any (fun h => h.sent && h.frame.lseq == seq.toNat)) fun s =>
    s.bumpSat HLY_CNT_NAKCNT

/-- ACK_TIMEOUT (R300): ACKTO after the frame was sent, a resend with the same link sequence where it fits, or the give-up
after HRETRY of them. -/
def execAckTimeout (t : Nat) (n : Fin 2) (seq : BitVec 8) (s : State) : Host.Outcome State Fault Refusal :=
  act s fun s => (s.at t).when s.hlyLive fun s =>
    let p := s.port n.val
    let retries := if s.b HLY_STS_RETRYCFG then 0 else s.r HLY_ACFG_HRETRY
    match p.out.find? (fun h => h.sent && h.frame.lseq == seq.toNat) with
    | some h =>
      if s.nowU < h.sentAt + 200 * max 1 (s.r HLY_ACFG_ACKTO) then s
      else if retries ≤ h.tries then s.giveUp n.val h
      else if s.gapFits n.val h.frame.payload.length then
        let out := p.out.map (fun x => if x = h then { h with tries := h.tries + 1, sentAt := s.nowU } else x)
        s.setPort n.val { p with out := out, lastAc := h.frame.bytes }
      else s
    | none => s

/-- The status of a transaction that TXTO ended (R301); 5 is this model's code beside the five of R298
(DESIGN CHOICE, assumption 119). -/
def statusTimeout : Nat := 5

/-- TRANSACTION_TIMEOUT (R301). -/
def execTransactionTimeout (t : Nat) (tid : BitVec 8) (s : State) : Host.Outcome State Fault Refusal :=
  act s fun s =>
    let s := s.at t
    s.when (s.hly.trans.any (fun x => x.tid == tid.toNat && x.done.isNone
        && decide (x.issued + 200000 * max 1 (s.r HLY_ACFG_TXTO) ≤ s.nowU))) fun s =>
    let s := s.transDone tid.toNat statusTimeout []
    s.w HLY_ACQ_OUTST s.outstanding

end Sys2Proof.Machine
end

