-- ==== Sys2Proof/Machine/Hoi.lean ====
section
/-!
DEFINITION. The frame timer's levels, the cut-offs, open sets and commits, and ring discipline (R86 to R100).
-/
namespace Sys2Proof.Machine

open Reg

/-! Levels. -/

def allLevels : List Level := [.T, .C, .L, .O, .H]

/-- The bit of a level in the level masks (R102). -/
def levelBit : Level → Nat
  | .T => 0 | .C => 1 | .L => 2 | .O => 3 | .H => 4

def levelsOf (mask : Nat) : List Level := allLevels.filter (fun l => bit mask (levelBit l))

def PerLevel.get {α : Type} (p : PerLevel α) : Level → α
  | .T => p.T | .C => p.C | .L => p.L | .O => p.O | .H => p.H

def PerLevel.set {α : Type} (p : PerLevel α) (l : Level) (x : α) : PerLevel α :=
  match l with
  | .T => { p with T := x }
  | .C => { p with C := x }
  | .L => { p with L := x }
  | .O => { p with O := x }
  | .H => { p with H := x }

/-- The levels of the coming boundary (R86, R87); after a stop of the frame timer it is an H boundary (R101). -/
def State.comingLevels (s : State) : List Level :=
  if s.hoi.wakeH then allLevels
  else
    let c := s.b HOI_POS_HALF
    let l := !s.b HOI_FRAME_LOOPT || c
    let o := l && s.r HOI_POS_LOOPIDX == s.r HOI_FRAME_OUTN
    let h := o && s.r HOI_POS_OUTIDX == s.r HOI_FRAME_RINGN
    [.T] ++ (if c then [.C] else []) ++ (if l then [.L] else []) ++ (if o then [.O] else []) ++ (if h then [.H] else [])

/-! Open sets (R95 to R97). -/

/-- The initiator a writer counts as (R95). -/
def initiatorOf : Agent → Initiator
  | .kernel => .cores | .program => .cores | .host _ => .host | .cle => .cle | .dma => .dma 0

/-- HOI_OPENMAX of a level; 0 acts as 1. -/
def State.openMax (s : State) (l : Level) : Nat :=
  max 1 (match l with
    | .T => s.r HOI_OPENMAX_TMAX | .C => s.r HOI_OPENMAX_CMAX | .L => s.r HOI_OPENMAX_LMAX
    | .O => s.r HOI_OPENMAX_OMAX | .H => s.r HOI_OPENMAX_HMAX)

def State.isOpen (s : State) (l : Level) : Bool := s.hoi.opened.any (fun e => e.2 == l)

/-- HOI_STS.OPENL (R102). -/
def State.openMask (s : State) : Nat := (allLevels.filter s.isOpen).foldl (fun m l => bitSet m (levelBit l)) 0

/-- What stands open at L at the cut-off of a segment boundary is settled before a set opens or commits (R250). -/
def State.axesFix (s : State) : State := if s.axsLive then (s.axFix 0).axFix 1 else s

/-- An open of a level; one already held has no effect. -/
def State.openSet (s : State) (i : Initiator) (mask : Nat) : State :=
  let s := s.axesFix
  (levelsOf mask).foldl (fun s l =>
    if s.hoi.opened.contains (i, l) then s else s.modHoi (fun h => { h with opened := h.opened ++ [(i, l)] })) s

/-- A commit of a level; one that is not held has no effect, and one at the cut-off or later sets LATE (R96). -/
def State.commitSet (s : State) (i : Initiator) (mask : Nat) : State :=
  let s := s.axesFix
  (levelsOf mask).foldl (fun s l =>
    if s.hoi.opened.contains (i, l) then
      let s := s.modHoi (fun h => { h with opened := h.opened.filter (· != (i, l)), forced := h.forced.filter (· != (i, l)) })
      if s.hoi.cut.contains l then s.w HOI_STS_LATE 1 else s
    else s) s

/-- An initiator reaches HOI_OPEN and HOI_COMMIT: the host while the program runs (R81, R448). -/
def State.mayOpen (s : State) (i : Initiator) : Bool := s.live .sys && (i != .host || s.cpm.phase == .running)

/-- HOI_OPEN (R95). -/
def execHoiOpen (i : Initiator) (mask : BitVec 5) (s : State) : Host.Outcome State Fault Refusal :=
  act s fun s => s.when (s.mayOpen i) fun s => s.openSet i mask.toNat

/-- HOI_COMMIT (R96). -/
def execHoiCommit (i : Initiator) (mask : BitVec 5) (s : State) : Host.Outcome State Fault Refusal :=
  act s fun s => s.when (s.mayOpen i) fun s => s.commitSet i mask.toNat

/-- A level's cut-off (R92, R96, R97): the swap's content is fixed, and the swap is withheld when a set is open there,
up to the level's OPENMAX boundaries in a row; after those, the sets open there are to be committed by force. -/
def State.cutLevel (s : State) (l : Level) : State :=
  if s.hoi.cut.contains l then s
  else
    let hold := decide (s.hoi.count.get l < s.openMax l)
    s.modHoi (fun h => { h with
      cut := h.cut ++ [l]
      withheld := if s.isOpen l && hold then h.withheld ++ [l] else h.withheld
      forced := if hold then h.forced else h.forced ++ h.opened.filter (fun e => e.2 == l) })

/-- What is taken at a level's cut-off: Halyard latches its cyclic data at that of H (R288), and the kernel's DERATE for the
coming O boundary is in place at that of O (R217). -/
def State.beforeCut (s : State) (l : Level) : State :=
  if s.hoi.cut.contains l then s
  else match l with
    | .H => if s.hlyLive then s.latchTx else s
    | .O => s.derateKernel
    | _ => s

/-- CUT_OFF (R92): the cut-off of one level, when the coming boundary is one of that level. -/
def execCutOff (l : Level) (s : State) : Host.Outcome State Fault Refusal :=
  act s fun s => s.when (s.live .sys && s.comingLevels.contains l) fun s =>
    (s.beforeCut l).cutLevel l

/-- The forced commit of a level (R97): the sets open at its cut-off are committed, FORCED set, and the fault raised. -/
def State.forceLevel (s : State) (l : Level) : State :=
  let s := s.modHoi (fun h => { h with opened := h.opened.filter (fun e => !(e.2 == l && h.forced.contains e)),
                                       forced := h.forced.filter (fun e => e.2 != l) })
  (s.w HOI_STS_FORCED 1).raise Fid.hoistOverrun (levelBit l)

/-- The forced commit is due: a set that was open at the cut-off after OPENMAX withheld boundaries is open still
(DEDUCED, assumption 66). -/
def State.forceDue (s : State) (l : Level) : Bool := s.hoi.forced.any (fun e => e.2 == l)

/-- FORCED_COMMIT (R97): at the coming boundary of the level. -/
def execForcedCommit (l : Level) (s : State) : Host.Outcome State Fault Refusal :=
  act s fun s => s.when (s.live .sys && s.comingLevels.contains l) fun s =>
    let s := (s.beforeCut l).cutLevel l
    if s.forceDue l then s.forceLevel l else s

/-! HOI_FRAME (R88). -/

/-- A value of HOI_FRAME that keeps R86 and R87. -/
def frameOk (v : Nat) : Bool :=
  let carp := v % 131072
  let loopt := v / 131072 % 2
  let outn := v / 262144 % 64
  carp % 2 == 0 && decide (2000 ≤ carp) && decide (carp ≤ 100000) && (loopt == 1 || outn % 2 == 1)

/-- A write of HOI_FRAME: ignored whole with CFGERR, or hoisted at H. -/
def State.writeFrame (s : State) (v : Nat) : State :=
  if frameOk v then
    (((s.rws HOI_FRAME_CARP (v % 131072)).rws HOI_FRAME_LOOPT (v / 131072 % 2)).rws HOI_FRAME_OUTN (v / 262144 % 64)).rws
      HOI_FRAME_RINGN (v / 16777216 % 256)
  else s.w HOI_STS_CFGERR 1

/-- HOI_FRAME_WRITE (R88). -/
def execHoiFrameWrite (who : Agent) (value : BitVec 32) (s : State) : Host.Outcome State Fault Refusal :=
  act s fun s => s.when (s.live .sys && s.mayWrite who HOI_FRAME_CARP) fun s => s.writeFrame value.toNat

/-! Ring discipline (R98 to R100). -/

/-- floor(CARP ÷ 400): the bound of the per-tick adjustment. -/
def State.slew (s : State) : Int := (s.r HOI_FRAME_CARP / 400 : Nat)

/-- The adjustment of the next ring cycle: a real number that R99 bounds, rounded to whole u (DEDUCED, assumption 68). -/
def State.setAdj (s : State) (x : Frac) : State :=
  s.wi HOI_PHERR_ADJ (x.clamp (Frac.ofInt (-s.slew)) (Frac.ofInt s.slew)).round

/-- Ticks in a ring cycle, and its nominal length in u (R99). -/
def State.ringTicks (s : State) : Nat := (s.r HOI_FRAME_RINGN + 1) * (s.r HOI_FRAME_OUTN + 1) * (s.r HOI_FRAME_LOOPT + 1)
def State.ringNominal (s : State) : Nat := s.ringTicks * s.r HOI_FRAME_CARP / 2

/-- The member's nominal ring cycle equals the owner's, as the slot table gives it, from 31.25 µs to 2 ms. -/
def State.ringEqual (s : State) : Bool :=
  match s.hly.table with
  | some t => t.th == s.ringNominal && decide (6250 ≤ s.ringNominal) && decide (s.ringNominal ≤ 400000)
  | none => false

/-- The correction of R99 for an error e in u; HOI_PHERR shows it rounded to nearest and saturated (DESIGN CHOICE, assumption
164). -/
def State.correct (s : State) (e : Frac) : State :=
  let n := s.ringTicks
  let f := (s.hoi.freq.sub (e.divNat (8 * n))).norm
  let s := s.wi HOI_PHERR_ERR (satI 16 e.round)
  (s.modHoi (fun h => { h with freq := f })).setAdj (f.sub (e.divNat n))

/-- The lock state after an error e (R100); LOCKWIN counts 20 ns. -/
def State.lockStep (s : State) (e : Frac) : State :=
  let win := 4 * s.r HOI_DISC_LOCKWIN
  let inside := e.abs.le (Frac.ofInt win)
  match s.lock with
  | .locked => if e.abs.le (Frac.ofInt (4 * win)) then s else s.lockGo .acquire
  | .acquire =>
    let n := if inside then s.hoi.inWin + 1 else 0
    let s := s.modHoi (fun h => { h with inWin := n })
    if 4 ≤ n && s.ringEqual then s.lockGo .locked else s
  | _ => s

/-- The error of R99 for a launch instant: of this H boundary or of the last one, whichever lies nearer to it
(DEDUCED, assumption 68). -/
def State.launchError (s : State) (launch : Frac) : Frac :=
  let now := (Frac.ofInt s.nowU).sub launch
  let last := (Frac.ofInt s.hoi.cyclePrev).sub launch
  (if now.abs.le last.abs then now else last).norm

/-- Ring discipline at an H boundary, after its swap (DEDUCED, assumption 68). -/
def State.discipline (s : State) : State :=
  let napped := s.hoi.napped
  let s := s.modHoi (fun h => { h with napped := false })
  if !s.b HOI_DISC_ENA then
    let s := (s.lockGo .free).w HOI_PHERR_ADJ 0
    s.modHoi (fun h => { h with launch := none, missing := 0 })
  else match s.hoi.launch with
    | some l =>
      let s := s.modHoi (fun h => { h with launch := none })
      (s.correct (s.launchError l)).lockStep (s.launchError l)
    | none =>
      if napped then s.setAdj (Frac.ofInt (s.ri HOI_PHERR_ADJ))
      else match s.lock with
        | .free => s.w HOI_PHERR_ADJ 0
        | .holdover => (s.setAdj s.hoi.freq).modHoi (fun h => { h with missing := h.missing + 1 })
        | l =>
          let s := (s.lockGo .holdover).setAdj s.hoi.freq
          s.modHoi (fun h => { h with before := l, missing := 1 })

/-- FRAME_LOCK_LOST (R100): HOLDN cycle frames in a row are missing. -/
def execFrameLockLost (s : State) : Host.Outcome State Fault Refusal :=
  act s fun s => s.when (s.lock == .holdover && decide (s.r HOI_DISC_HOLDN ≤ s.hoi.missing)) fun s =>
    (s.lockGo .free).raise Fid.frameLockLost

/-! The swap (R90, R91). -/

/-- A key holds a field of a level. -/
def State.keyAt (s : State) (l : Level) (k : Nat) : Bool :=
  match fieldOf k with
  | some f => s.levelOf f == some l
  | none => false

/-- A pending write moves to the active bank. -/
def State.takeShadow (s : State) (e : Nat × Word) : State :=
  match fieldOf e.1 with
  | some f => s.w f e.2.toNat
  | none => s

/-- Every pending write of a level moves to the active bank, and the level's count of withheld boundaries restarts. -/
def State.swapLevel (s : State) (l : Level) : State :=
  let mine := s.shadow.filter (fun e => s.keyAt l e.1)
  let u := mine.foldr (fun e u => u.takeShadow e) { s with shadow := s.shadow.filter (fun e => !s.keyAt l e.1) }
  u.modHoi (fun h => { h with count := h.count.set l 0 })

/-- A level at its boundary: withheld, or swapped, with the forced commit that is due and not made yet (DEDUCED, assumption 66). -/
def State.levelBoundary (s : State) (l : Level) : State :=
  let s := s.cutLevel l
  if s.hoi.withheld.contains l then s.modHoi (fun h => { h with count := h.count.set l (h.count.get l + 1) })
  else
    let s := if s.forceDue l then s.forceLevel l else s
    s.swapLevel l

/-- What was held past the cut-offs enters the shadow just after the boundary (R92) (DEDUCED, assumption 67). -/
def State.enterLate (s : State) : State :=
  let late := s.hoi.late
  let s := s.modHoi (fun h => { h with late := [], cut := [], withheld := [], forced := [] })
  late.foldl (fun s e => { s with shadow := sparseInsert (sparseErase s.shadow e.key) e.key e.value }) s

end Sys2Proof.Machine
end

