-- ==== Sys2Proof/Machine/Pos.lean ====
section
/-!
DEFINITION. Position and speed feedback, POS (R150 to R175), and the meanings of its commands. Times count u of 5 ns
since SYS was first clocked.
-/
namespace Sys2Proof.Machine

open Reg

def State.modPos (s : State) (f : Pos → Pos) : State := { s with pos := f s.pos }

def State.posLive (s : State) : Bool := s.live .sense && !s.tested 8

/-- POS_CTRL.EN: 0 resolver, 1 encoder, 2 serial word, 3 and 4 wheels, 5 PPS. -/
def State.posEn (s : State) (k : Nat) : Bool := bit (s.r POS_CTRL_EN) k

/-- An interrupt event of POS: 0 to 2 direction changes, 3 index, 4 PPS, 5 word, 6 give-up, 7 source, 8 any fault. -/
def State.posIrq (s : State) (k : Nat) : State := s.setBit POS_IRQ_EVT k

/-- POS raises one of its faults. -/
def State.posFault (s : State) (id : Nat) (detail : Nat := 0) : State := (s.posIrq 8).raise id detail

/-! Speed from edge timing (R169). -/

/-- SPAN = 2^SPANx, where 7 acts as 6. -/
def spanOf (n : Nat) : Nat := 2 ^ min 6 n

/-- A counted edge at `t` in direction `fwd`; `true` when the direction interrupt is due. -/
def EdgeTimer.edge (e : EdgeTimer) (span t : Nat) (fwd : Bool) : EdgeTimer × Bool :=
  if e.still || fwd != e.fwd then
    ({ e with hist := [t], fwd := fwd, vNum := 0, vDen := 1, lowconf := true, last := t, still := false }, fwd != e.fwd)
  else
    let h := (t :: e.hist).take (span + 1)
    let k := h.length - 1
    let dt := t - h.getLastD t
    ({ e with hist := h, vNum := if fwd then k else -(k : Int), vDen := max 1 dt, lowconf := false, last := t,
              still := false }, false)

/-- The source comes to standstill. -/
def EdgeTimer.stop (e : EdgeTimer) : EdgeTimer := { e with vNum := 0, vDen := 1, still := true, lowconf := false }

/-- What a source publishes at a boundary: the counts and the u they take, BOUND, and the timer after it. -/
def EdgeTimer.publish (e : EdgeTimer) (now timeout : Nat) : EdgeTimer × Frac × Bool :=
  let a := now - e.last
  if timeout ≤ a then (e.stop, {}, false)
  else if !e.lowconf && !e.still && decide (0 < a) && decide (e.vDen < e.vNum.natAbs * a) then
    (e, ⟨if e.fwd then 1 else -1, a⟩, true)
  else (e, ⟨e.vNum, e.vDen⟩, false)

/-- The flags of a source in the order of POS_SPDFLG. -/
def speedFlags (valid low rev still bound : Bool) : Nat :=
  (if valid then 1 else 0) + (if low then 2 else 0) + (if rev then 4 else 0) + (if still then 8 else 0) + (if bound then 16 else 0)

/-- A speed timeout in u; the motor's 0 acts as 1. -/
def State.speedTimeout (s : State) (src : Nat) : Nat :=
  200000 * (if src = 0 then max 1 (s.r POS_SPDTO_TOM) else if src = 1 then s.r POS_SPDTO_TOW0 else s.r POS_SPDTO_TOW1)

def State.spanAt (s : State) (src : Nat) : Nat :=
  spanOf (s.r (if src = 0 then POS_SPDCFG_SPANM else if src = 1 then POS_SPDCFG_SPANW0 else POS_SPDCFG_SPANW1))

def State.timer (s : State) (src : Nat) : EdgeTimer :=
  if src = 0 then s.pos.motor else if src = 1 then s.pos.wheel0 else s.pos.wheel1

def State.setTimer (s : State) (src : Nat) (e : EdgeTimer) : State :=
  s.modPos (fun p => if src = 0 then { p with motor := e } else if src = 1 then { p with wheel0 := e } else { p with wheel1 := e })

/-- A counted edge of source `src` at `t`. -/
def State.countEdge (s : State) (src t : Nat) (fwd : Bool) : State :=
  let (e, turned) := (s.timer src).edge (s.spanAt src) t fwd
  let s := s.setTimer src e
  if turned then s.posIrq src else s

/-! Filtered inputs (R155, R167). -/

/-- The levels that a filter of `need` equal samples has accepted after each sample, and whether it accepted a change there. -/
def filterLevels (need : Nat) : Bool → Nat → List Bool → List (Bool × Bool)
  | _, _, [] => []
  | v, run, x :: l =>
    if x = v then (v, false) :: filterLevels need v 0 l
    else if need ≤ run + 1 then (x, true) :: filterLevels need x 0 l
    else (v, false) :: filterLevels need v (run + 1) l

/-- An accepted change of a pair of inputs: which of A and B changed, their levels after it, and the samples listed from the
first sample of the new level to the last of all. -/
structure PairEdge where
  a : Bool
  b : Bool
  lvA : Bool
  lvB : Bool
  ago : Nat
deriving DecidableEq, Repr

/-- The accepted changes in a list of samples of A and B. -/
def pairEdges (need : Nat) (ab : Bool × Bool) (samples : List (Bool × Bool)) : List PairEdge :=
  let la := filterLevels need ab.1 0 (samples.map (·.1))
  let lb := filterLevels need ab.2 0 (samples.map (·.2))
  ((la.zip lb).mapIdx (fun i (x : (Bool × Bool) × (Bool × Bool)) =>
    (⟨x.1.2, x.2.2, x.1.1, x.2.1, samples.length + need - 2 - i⟩ : PairEdge))).filter (fun e => e.a || e.b)

/-- The levels that stand after them. -/
def pairAfter (ab : Bool × Bool) (l : List PairEdge) : Bool × Bool :=
  match l.getLast? with
  | some e => (e.lvA, e.lvB)
  | none => ab

/-- A change of one input counts up: A leads B (R155). -/
def PairEdge.up (e : PairEdge) : Bool := if e.a then e.lvA != e.lvB else e.lvA == e.lvB

/-! Encoder and Hall (R154 to R160). -/

/-- CPR; outside 16 to 1,048,575 the spec says nothing of what it acts as (DESIGN CHOICE, assumption 20). -/
def State.cpr (s : State) : Nat :=
  let c := s.r POS_ECPR_CPR
  if c < 16 then 16 + Config.outOfRange POS_ECPR_CPR.key c % 1048560 else c

/-- The count modulo CPR. -/
def State.encMod (s : State) : Int := s.pos.enc.toInt % s.cpr

/-- Put the count modulo CPR at a value, the whole turns kept (R158, R159). -/
def State.encSet (s : State) (v : Int) : State :=
  s.modPos (fun p => { p with enc := BitVec.ofInt 32 (p.enc.toInt - s.encMod + v) })

/-- IDXSEEN cleared: the next index event references the count again. -/
def State.idxForget (s : State) : State := (s.w POS_STS_IDXSEEN 0).modPos (fun p => { p with idxFirst := true })

/-- A and B wire faults that stand. -/
def State.wireAB (s : State) : Bool := s.r POS_STS_WIREFLT % 4 != 0

/-- The encoder angle is valid (R159), or the Hall source (R160). -/
def State.encValid (s : State) : Bool :=
  s.posEn 1 && (if s.b POS_ECFG_HALL then s.pos.sector.isSome && !s.pos.hallInvalid
    else s.b POS_STS_IDXSEEN && !s.wireAB && !s.pos.illFault && !s.pos.idxFault)

/-- Encoder speed needs only the absence of A and B wire faults (R159). -/
def State.encSpeedOk (s : State) : Bool :=
  s.posEn 1 && (if s.b POS_ECFG_HALL then s.pos.sector.isSome && !s.pos.hallInvalid else !s.wireAB)

/-- RATIO of a source, 0 acting as 1. -/
def State.ratio (s : State) (n : Nat) : Nat := max 1 (s.r (POS_MAP_RATIO n))

/-- The electrical angle of a source angle (R154). -/
def State.elec (s : State) (n : Nat) (angle : Int) (ratio : Nat) : Nat :=
  ((angle * ratio + s.r (POS_MAP_OFFSET n)) % 65536).toNat

/-- The secondary's electrical angle. -/
def State.encElec (s : State) : Nat :=
  if s.b POS_ECFG_HALL then
    s.elec 1 (roundDiv ((2 * (s.pos.sector.getD 0) + 1 : Nat) * 65536) 12) 1
  else s.elec 1 (s.encMod * 65536 / s.cpr) (s.ratio 1)

/-- An illegal transition (R156). -/
def State.encIllegal (s : State) : State :=
  let s := s.w POS_STS_ILL_ERR 1
  let s := s.bumpSat POS_EIDXERR_ILLCNT
  let n := s.pos.illInOuter + 1
  let s := s.modPos (fun p => { p with illInOuter := n })
  if n = max 1 (s.r POS_ECFG_ILLN) then (s.modPos (fun p => { p with illFault := true })).posFault Fid.encIllegal else s

/-- The faults that an accepted index or a preset ends. -/
def State.encReferenced (s : State) : State :=
  let s := if s.pos.illFault then (s.modPos (fun p => { p with illFault := false })).autoClear Fid.encIllegal else s
  s

/-- IDX_ERR of the count now (DEDUCED, assumption 84). -/
def State.idxErr (s : State) : Int :=
  let c : Int := s.cpr
  let e := (s.pos.enc.toInt - s.r POS_EIDX_IDXPOS) % c
  if e < c - c / 2 then e else e - c

/-- POS_EIDXERR.IDX_ERR takes an error; one that 16 bits do not hold is a value the spec does not state
(DESIGN CHOICE, assumption 83). -/
def State.publishIdxErr (s : State) (e : Int) : State :=
  if satI 16 e = e then s.wi POS_EIDXERR_IDX_ERR e
  else
    let (x, s) := s.freeNat
    s.w POS_EIDXERR_IDX_ERR x

/-- An index within the window, or a preset, ends the mismatch (R158). -/
def State.idxRegained (s : State) : State :=
  if s.pos.idxFault then (s.modPos (fun p => { p with idxFault := false })).autoClear Fid.encIndex else s

/-- An index event that POS evaluates (R158) (DEDUCED, assumption 84). -/
def State.indexEvent (s : State) : State :=
  let e := s.idxErr
  let s := (s.publishIdxErr e).posIrq 3
  if s.pos.idxFirst then
    let s := ((s.encSet (s.r POS_EIDX_IDXPOS % s.cpr)).w POS_STS_IDXSEEN 1).w POS_EIDXERR_MISSRUN 0
    let s := (s.modPos (fun p => { p with idxFirst := false })).encReferenced
    if e.natAbs ≤ s.r POS_ECFG_IDX_WIN then s.idxRegained else s
  else if e.natAbs ≤ s.r POS_ECFG_IDX_WIN then
    let s := if s.b POS_ECFG_RESYNC then s.encSet (s.r POS_EIDX_IDXPOS % s.cpr) else s
    let s := (s.w POS_EIDXERR_MISSRUN 0).encReferenced
    s.idxRegained
  else
    let n := s.r POS_EIDXERR_MISSRUN
    let s := (s.w POS_STS_IDX_FLT 1).w POS_EIDXERR_MISSRUN (min 3 (n + 1))
    if n = 2 then (s.modPos (fun p => { p with idxFault := true })).posFault Fid.encIndex else s

/-- The qualification of Z by A and B that ZQUAL selects (R177). -/
def State.zQualified (s : State) (a b : Bool) : Bool :=
  match s.r POS_ECFG_ZQUAL with
  | 0 => true
  | 1 => a
  | 2 => b
  | _ => a && b

/-- The effect of a write of POS_EPRE (R159). -/
def State.writePreset (s : State) (v : Nat) : State :=
  let s := ((s.encSet (v % s.cpr)).w POS_STS_IDXSEEN 1).w POS_EIDXERR_MISSRUN 0
  ((s.modPos (fun p => { p with idxFirst := true })).encReferenced).idxRegained

/-- The sector of a Hall state, when HALLSEQ holds it (R160). -/
def State.hallSector (s : State) (code : Nat) : Option Nat :=
  (List.range 6).find? (fun k => s.r POS_HALLSEQ_SEQ / 8 ^ k % 8 == code)

/-- The Hall inputs have changed to a state (R160). -/
def State.hallChange (s : State) (code : Nat) : State :=
  match s.hallSector code with
  | none => (s.w POS_STS_HALLILL 1).modPos (fun p => { p with hallIllNow := true })
  | some k =>
    let old := s.pos.sector
    let was := s.pos.hallInvalid
    let s := s.modPos (fun p => { p with sector := some k, hallIllNow := false, hallInvalid := false })
    let s := if was then s.autoClear Fid.hallIllegal else s
    match old with
    | none => s
    | some j =>
      if j = k then s
      else if (j + 1) % 6 = k then (s.modPos (fun p => { p with enc := p.enc + 1 })).countEdge 0 s.nowU true
      else if (k + 1) % 6 = j then (s.modPos (fun p => { p with enc := p.enc - 1 })).countEdge 0 s.nowU false
      else s.w POS_STS_HALLILL 1

/-! The resolver (R151 to R153, R170). -/

/-- EXCF as it acts, in units of 250 Hz (R177). -/
def State.excf (s : State) : Nat := let n := s.r POS_RCFG_EXCF; if 16 ≤ n ∧ n ≤ 80 then n else 40

/-- The excitation's frequency in Hz and its amplitude in 1/255 of 2.7 V (R151); none while POS drives none. -/
def State.excitation (s : State) : Option (Nat × Nat) :=
  if s.excPad = .signal then some (250 * s.excf, s.r POS_RCFG_EXCAMP) else none

/-- The delay of the demodulation reference in 2⁻³² of a period (R151). -/
def State.demodDelay (s : State) (sn cs : List Int) : Nat :=
  if s.b POS_RCFG_RPAUTO then Config.resolverDelay sn cs % 4294967296 else s.r POS_RCFG_RPHASE * 16777216

/-- The samples of one excitation period against the delayed excitation, in 1/4,096 of full scale (R151) (DEDUCED,
assumption 155): sample `i` lies i/16 of the period after the excitation's rising zero. -/
def demodulate (delay : Nat) (l : List Int) : Int :=
  let sum := (l.mapIdx (fun i x => x * sine ((i * 268435456 + 4294967296 - delay) % 4294967296))).foldl (· + ·) 0
  clampI (roundDiv sum 4294967296) (-4096) 4096

/-- The demodulated amplitude's square, in 1/4,096 of full scale squared. -/
def ampSq (sn cs : Int) : Nat := (sn * sn + cs * cs).toNat

/-- The fastest rotation that the tracking loop follows, in 1/65,536 turn per second: EXCF × 250 Hz × 0.32, and no more than at
10 kHz excitation (R152). -/
def State.trackLimit (s : State) : Int := min 40 s.excf * 5242880

/-- The resolver is the motor source: in use, or with none in use the first that is valid (R170) (DEDUCED, assumption 85). -/
def State.motorIsResolver (s : State) : Bool :=
  match s.r POS_STS_INUSE with
  | 1 => s.r POS_CTRL_PRI == 0
  | 2 => false
  | _ => s.posEn 0 && s.pos.resValid

/-- One demodulated pair whose peak lay at `now`: the loop, the amplitude, the tracking error, and the entry condition (DESIGN
CHOICE, assumption 19). -/
def State.resolverPair (s : State) (sn cs : Int) (now : Nat) : State :=
  let dt := now - s.pos.resPeak
  let key : List Int := [(s.pos.resAngle : Int), s.pos.resVel, sn, cs, ((max 1 (s.r POS_RCFG_RBW) : Nat) : Int), (dt : Int)]
  let ang := (Config.resolverTrack 0 key % 65536).toNat
  let vel := clampI (Config.resolverTrack 1 key) (-s.trackLimit) s.trackLimit
  let err := (Config.resolverTrack 2 key).natAbs
  let a2 := ampSq sn cs
  let inRange := decide (s.r POS_RLIM_AMIN ^ 2 ≤ a2) && decide (a2 ≤ s.r POS_RLIM_AMAX ^ 2)
  let ampBad := if inRange then 0 else s.pos.resAmpBad + 1
  let trkBad := if s.r POS_RTRK_TRKBND < err then s.pos.resTrkBad + 1 else 0
  let good := if inRange && decide (4 * err ≤ s.r POS_RTRK_TRKBND) then s.pos.resGood + 1 else 0
  let lim : Int := s.r POS_RTRK_RSTILL * 65536
  let slow := decide (((vel * 100).natAbs : Int) < lim)
  let slowAt := if slow then some (s.pos.resSlow.getD now) else none
  let still := match slowAt with
    | some t => s.pos.resStill || decide (s.speedTimeout 0 ≤ now - t)
    | none => false
  let lost := decide (max 1 (s.r POS_RLIM_RLOSN) ≤ ampBad)
  let rslos := lost && !s.pos.resLost
  let s := s.modPos (fun p => { p with resAngle := ang, resVel := vel, resPeak := now, resAmpBad := ampBad, resTrkBad := trkBad,
                                       resGood := min 64 good, resSlow := slowAt, resStill := still
                                       resLost := !inRange && (p.resLost || lost) })
  let s := s.w POS_RANG_AMP (Nat.sqrt a2)
  let fwd := if lim < vel * 100 then true else if vel * 100 < -lim then false else s.pos.resDirFwd
  let s := if fwd != s.pos.resDirFwd then
      let turned := s.modPos (fun p => { p with resDirFwd := fwd })
      if s.motorIsResolver then turned.posIrq 0 else turned
    else s
  let s := if rslos then
      ((s.w POS_STS_RSLOS 1).modPos (fun p => { p with resValid := false })).posFault Fid.resolverSignal else s
  let s := if trkBad = 16 then
      ((s.w POS_STS_RSTRK 1).modPos (fun p => { p with resValid := false })).posFault Fid.resolverTracking else s
  if 64 ≤ good ∧ !s.pos.resValid then
    ((s.modPos (fun p => { p with resValid := true })).autoClear Fid.resolverSignal).autoClear Fid.resolverTracking
  else s

/-- The resolver's angle at an instant (R152). -/
def State.resAt (s : State) (now : Nat) : Int :=
  s.pos.resAngle + roundDiv (s.pos.resVel * (now - s.pos.resPeak : Nat)) 200000000

/-! The serial word (R161 to R166). -/

/-- DBITS, CRCLEN and RETRY as they act (R178, R163). -/
def State.dataBits (s : State) : Nat := max 7 (s.r POS_SWCFG_DBITS) + 1
def State.crcLen (s : State) : Nat := let n := s.r POS_SWCFG_CRCLEN; if 3 ≤ n ∧ n ≤ 16 then n else 0
def State.swRetry (s : State) : Nat := if s.pos.swBad then 0 else s.r POS_SWTIM_RETRY
def State.stBits (s : State) : Nat :=
  let n := s.r POS_SWCFG_STBITS
  if 8 ≤ n ∧ n ≤ 24 then n else 8 + Config.outOfRange POS_SWCFG_STBITS.key n % 17

/-- t_word in u: one attempt (R161). -/
def State.wordU (s : State) : Nat :=
  (s.r POS_SWCFG_SKIP + s.dataBits + (if s.b POS_SWCFG_ERRB then 1 else 0) + s.crcLen + 1) * (max 19 (s.r POS_SWCFG_CLKDIV) + 1)
    + 200 * s.r POS_SWTIM_TMONO

/-- A number from bits, the first the most significant. -/
def natOfBits (l : List Bool) : Nat := l.foldl (fun a b => 2 * a + (if b then 1 else 0)) 0

/-- A CRC of `n` bits over bits in order (R162). -/
def bitCrc (n poly seed : Nat) (l : List Bool) : Nat :=
  l.foldl (fun c b =>
    let top := c.testBit (n - 1) != b
    let c := (c * 2) % 2 ^ n
    if top then c ^^^ (poly % 2 ^ n) else c) (seed % 2 ^ n)

/-- Gray decoding of bits, the most significant first. -/
def grayBits : Bool → List Bool → List Bool
  | _, [] => []
  | p, b :: l => (p != b) :: grayBits (p != b) l

/-- The checks of R162 on the bits after SKIP: the data, when the word is accepted. -/
def State.ssiCheck (s : State) (bits : List Bool) : Option Nat :=
  let nd := s.dataBits
  let ne := if s.b POS_SWCFG_ERRB then 1 else 0
  let body := bits.take (nd + ne)
  let n := s.crcLen
  let crc := bitCrc n (s.r POS_SWCRC_POLY) (s.r POS_SWCRC_SEED) body
  let crc := if s.b POS_SWCFG_CRCINV then 2 ^ n - 1 - crc else crc
  let crcOk := n == 0 || crc == natOfBits ((bits.drop (nd + ne)).take n)
  let errOk := ne == 0 || (body.getD nd false) != s.b POS_SWCFG_ERRPOL
  if bits.length = nd + ne + n ∧ crcOk ∧ errOk then
    some (natOfBits (if s.b POS_SWCFG_GRAY then grayBits false (bits.take nd) else bits.take nd))
  else none

/-- A break in the two-word rule of R166. -/
def Pos.swBreak (p : Pos) : Pos := { p with swRef := none, swPrev := none, swTimer := { p.swTimer with lowconf := true } }

/-- A word is accepted: its data, its single-turn position scaled to 16 bits, and its sample instant. It restarts the speed
after a break, standstill or a reversal, as an edge does (R166, R169). -/
def State.wordAccepted (s : State) (data pos16 at' : Nat) : State :=
  let e := s.pos.swTimer
  let prev := if e.still then none else s.pos.swRef
  let d : Int := match prev with
    | some (a, _) => signedOf 16 (bitsOf 16 ((pos16 : Int) - a))
    | none => 0
  let fwd := if 0 < d then true else if d < 0 then false else e.fwd
  let turned := fwd != e.fwd
  let prev := if turned then none else prev
  let tm : EdgeTimer := { e with last := at', still := false, lowconf := prev.isNone, fwd := fwd }
  let s := s.modPos (fun p => { p with swRef := some (pos16, at'), swPrev := prev, swAngle := pos16, swAt := at', swTimer := tm
                                       swValid := true, swAny := true, timedOut := false, sinceWord := 0, gaveUp := false })
  let s := ((s.w POS_SWDATA_DATA data).bump POS_SWSTS_SEQ).posIrq 5
  let s := if turned then s.posIrq 0 else s
  (s.autoClear Fid.posTimeout).autoClear Fid.giveUp

/-- The last retry of a request has failed (R163). -/
def State.giveUpWord (s : State) : State :=
  let s := s.modPos (fun p => { p.swBreak with req := none, gaveUp := true })
  ((s.w POS_STS_SWGIVEUP 1).posIrq 6).posFault Fid.giveUp

/-- An attempt has failed: it waits for its retry, or the request is given up. -/
def State.attemptFailed (s : State) (q : SerialReq) : State :=
  let s := s.bumpSat POS_SWSTS_ERRCNT
  if q.tries < s.swRetry then s.modPos (fun p => { p with req := some { q with failed := true } }) else s.giveUpWord

/-- The bits of a transaction after the SKIP first (R161): of each rising edge of SWCK, the sample of SWDA SWDLY × 5 ns after it. -/
def State.ssiBits (s : State) (rises : List (BitVec 256)) : List Bool :=
  (rises.map (fun w => w.getLsbD (s.r POS_SWTIM_SWDLY))).drop (s.r POS_SWCFG_SKIP)

/-- An attempt's words have been clocked in, or SWDA was low at its start; it lasts until TMONO has passed (R161). -/
def State.ssiWord (s : State) (q : SerialReq) (low : Bool) (bits : List Bool) : State :=
  let busy := q.sampledAt + (if low then 200 * s.r POS_SWTIM_TMONO else s.wordU)
  let s := s.modPos (fun p => { p with swBusy := busy })
  match (if low then none else s.ssiCheck bits) with
  | none => s.attemptFailed q
  | some data =>
    let s := s.modPos (fun p => { p with req := none })
    if q.epoch ≠ s.pos.epoch then s.bumpSat POS_SWSTS_LATE
    else
      let n := s.stBits
      s.wordAccepted data (data % 2 ^ n * 65536 / 2 ^ n) q.sampledAt

/-- CRC-4 of SENT: the remainder of the seed followed by the nibbles, by x⁴ + x³ + x² + 1 (R164) (PRESUMED, assumption 87). -/
def sentCrc (augment : Bool) (nibs : List Nat) : Nat :=
  let step (c : Nat) : Nat :=
    let c := c * 2
    if c.testBit 4 then (c ^^^ 0x1D) % 16 else c % 16
  let l (c : Nat) : Nat := step (step (step (step c)))
  let c := nibs.foldl (fun c n => l c ^^^ n) 5
  if augment then l c else c

/-- NIB and SNIB as they act. -/
def State.sentNib (s : State) : Nat := let n := s.r POS_SENT_NIB; if 1 ≤ n ∧ n ≤ 6 then n else 6
def State.sentSnib (s : State) : Nat :=
  let n := s.r POS_SENT_SNIB
  if 1 ≤ n ∧ n ≤ s.sentNib then n else 1 + Config.outOfRange POS_SENT_SNIB.key n % s.sentNib

/-- A pulse in ticks of a frame, to the nearest, from the durations in u of the pulse and of the frame's sync pulse of 56 ticks
(R164). -/
def ticksOf (sync pulse : Nat) : Nat := (112 * pulse + sync) / (2 * sync)

/-- The nibbles of a frame from their durations in u: status, data, CRC. -/
def nibblesOf (sync : Nat) (pulses : List Nat) : Option (List Nat) :=
  let ticks := pulses.map (ticksOf sync)
  if ticks.all (fun t => decide (12 ≤ t) && decide (t ≤ 27)) then some (ticks.map (fun t => t - 12)) else none

/-- A sync pulse of that many u is accepted (R164). -/
def State.syncOk (s : State) (sync : Nat) : Bool :=
  let nom := 1120 * s.r POS_SENT_TICK
  decide (0 < sync) && decide (4 * ((sync : Int) - nom).natAbs ≤ nom) && (match s.pos.sentSync with
    | some p => decide (64 * ((sync : Int) - p).natAbs ≤ p)
    | none => true)

/-- The pause pulse that PAUSE asks for. -/
def State.pauseOk (s : State) (sync : Nat) (pause : Option Nat) : Bool :=
  if s.b POS_SENT_PAUSE then
    (match pause with
    | some p => decide (12 ≤ ticksOf sync p) && decide (ticksOf sync p ≤ 768)
    | none => false)
  else pause.isNone

/-- The status nibble of an accepted SENT frame (R165). -/
def State.pushSlow (s : State) (nib : Nat) : State :=
  if s.pos.slow.length < 32 then s.modPos (fun p => { p with slow := p.slow ++ [(nib, p.sentSeq % 256)] })
  else (s.w POS_STS_SLOWOVF 1).posFault Fid.sentSlow

/-- A SENT frame that has just ended, by the durations of its pulses in u (R164). -/
def State.sentFrame (s : State) (sync : Nat) (pulses : List Nat) (pause : Option Nat) : State :=
  let reject (s : State) : State := (s.bumpSat POS_SWSTS_ERRCNT).modPos Pos.swBreak
  if !s.syncOk sync then reject s
  else
    let s := s.modPos (fun p => { p with sentSync := some sync })
    match nibblesOf sync pulses with
    | some (st :: rest) =>
      let data := rest.take s.sentNib
      if rest.length = s.sentNib + 1 ∧ sentCrc (s.b POS_SENT_CRCV) data = rest.getLastD 0 ∧ s.pauseOk sync pause then
        let v := data.foldl (fun a n => 16 * a + n) 0
        let n := s.sentSnib
        let st16 := (data.take n).foldl (fun a n => 16 * a + n) 0 * 65536 / 16 ^ n
        let s := s.modPos (fun p => { p with sentSeq := p.sentSeq + 1 })
        (s.wordAccepted v st16 (s.nowU - (sync + pulses.foldl (· + ·) 0 + pause.getD 0))).pushSlow st
      else reject s
    | _ => reject s

/-- LEVEL of POS_SENTSLOW: a full FIFO has 32 entries, which its five bits do not hold, a value the spec does not state (DESIGN
CHOICE, assumption 156). -/
def slowLevel (n : Nat) : Nat := if n < 32 then n else Config.outOfRange POS_SENTSLOW_LEVEL.key n % 32

/-- A read of POS_SENTSLOW removes the oldest nibble. -/
def State.popSlow (s : State) : State := s.modPos (fun p => { p with slow := p.slow.drop 1 })

/-- The serial angle at an instant, and whether it is extrapolated (R166). -/
def State.swNow (s : State) (now : Nat) : Int × Bool :=
  let p := s.pos
  match p.swPrev with
  | some (a, t) =>
    if p.swTimer.still then (p.swAngle, false)
    else
      let d := signedOf 16 (bitsOf 16 ((p.swAngle : Int) - a))
      (p.swAngle + roundDiv (d * (now - p.swAt : Nat)) (max 1 (p.swAt - t)), true)
  | none => (p.swAngle, false)

/-- The serial word's validity for source selection: a give-up counts against it for one boundary (R171). -/
def State.swOk (s : State) : Bool := s.posEn 2 && s.pos.swValid && !s.pos.gaveUp

/-! What POS does at boundaries. -/

/-- The request of an L boundary (R161): skipped while an attempt or a retry of an earlier one still runs. -/
def State.swRequest (s : State) : State :=
  let s := s.modPos (fun p => { p with sinceWord := p.sinceWord + 1, sinceReq := p.sinceReq + 1 })
  if s.posEn 2 && !s.b POS_SWCFG_SENT && decide (s.r POS_SWTIM_SWEVERY + 1 ≤ s.pos.sinceReq) then
    let s := s.modPos (fun p => { p with sinceReq := 0 })
    if s.pos.req.isSome || decide (s.nowU < s.pos.swBusy) then (s.bumpSat POS_SWSTS_SKIPCNT).modPos Pos.swBreak
    else s.modPos (fun p => { p with req := some ⟨p.epoch, s.nowU, 0, false⟩ })
  else s

/-- The primary's validity and electrical angle at an instant. -/
def State.primary (s : State) (now : Nat) : Bool × Nat × Bool × Nat :=
  match s.r POS_CTRL_PRI with
  | 0 => (s.posEn 0 && s.pos.resValid, s.elec 0 (s.resAt now) (s.ratio 0), false, 1)
  | 1 => let (a, x) := s.swNow now
         (s.swOk, s.elec 2 a (s.ratio 2), x, 3)
  | _ => (false, 0, false, 0)

def State.secondaryOk (s : State) : Bool := s.r POS_CTRL_SEC == 1 && s.encValid

/-- Source selection at an L boundary (R171). -/
def State.posSelect (s : State) : State :=
  let (pv, pa, px, psrc) := s.primary s.nowU
  let sv := s.secondaryOk
  let back := s.pos.onSec && s.pos.retpri && pv
  let s := if back then s.modPos (fun p => { p with onSec := false }) else s
  let use := if s.pos.onSec then (if sv then 2 else 0)
    else if pv then 1
    else if s.b POS_CTRL_FAILOVER && sv then 2 else 0
  let s := s.modPos (fun p => { p with onSec := p.onSec || use == 2, retpri := false, gaveUp := false })
  let src := if use = 1 then psrc else use
  let s := if use ≠ s.r POS_STS_INUSE ∨ src ≠ s.r POS_ELANG_SRC then (s.w POS_STS_INUSE use).posIrq 7 else s
  let s := s.w POS_ELANG_STALE 0
  if use = 1 then (((s.w POS_ELANG_ANGLE pa).w POS_ELANG_VALID 1).w POS_ELANG_SRC psrc).wb POS_ELANG_EXTRAP px
  else if use = 2 then (((s.w POS_ELANG_ANGLE s.encElec).w POS_ELANG_VALID 1).w POS_ELANG_SRC 2).w POS_ELANG_EXTRAP 0
  else ((s.w POS_ELANG_VALID 0).w POS_ELANG_SRC 0).w POS_ELANG_EXTRAP 0

/-- The cross-check (R173). -/
def State.posCross (s : State) : State :=
  let (pv, pa, _, _) := s.primary s.nowU
  if pv && s.secondaryOk then
    let x := signedOf 16 (bitsOf 16 ((pa : Int) - s.encElec))
    let s := (s.wi POS_XRES_RES x).w POS_XRES_XVALID 1
    let n := max 1 (s.r POS_XCHK_XN)
    if s.r POS_XCHK_XBND < x.natAbs then
      let k := s.pos.xBad + 1
      let s := s.modPos (fun p => { p with xBad := k, xGood := 0 })
      if k = n ∨ (n < k ∧ !s.hasFault Fid.crossCheck) then (s.w POS_STS_XERR 1).posFault Fid.crossCheck else s
    else
      let k := s.pos.xGood + 1
      let s := s.modPos (fun p => { p with xBad := 0, xGood := k })
      if n ≤ k then s.autoClear Fid.crossCheck else s
  else (s.w POS_XRES_XVALID 0).modPos (fun p => { p with xBad := 0, xGood := 0 })

/-- Counts per u of the motor's edges, as electrical turns: the numerator's and denominator's factors (R169). -/
def State.encScale (s : State) : Nat × Nat := if s.b POS_ECFG_HALL then (1, 6) else (s.ratio 1, s.cpr)

/-- A speed of counts per u, times a factor over a divisor, in units of 1/`unit` per second. -/
def speedUnits (v : Frac) (mul div unit : Nat) : Int := roundDiv (v.num * (mul * unit * 200000000 : Nat)) (v.den * div)

/-- The motor speed from the encoder or Hall edges. -/
def State.motorEdges (s : State) : State :=
  let (e, v, bound) := s.pos.motor.publish s.nowU (s.speedTimeout 0)
  let (m, d) := s.encScale
  let s := s.setTimer 0 e
  (s.wi POS_SPDM_SPEED (satI 32 (speedUnits v m d 1024))).w POS_SPDFLG_FM
    (speedFlags s.encSpeedOk e.lowconf (!e.fwd) e.still bound)

/-- The motor speed from the resolver (R170). -/
def State.motorResolver (s : State) : State :=
  let p := s.pos
  let v := if p.resStill then 0 else satI 32 (roundDiv (p.resVel * s.ratio 0) 64)
  (s.wi POS_SPDM_SPEED v).w POS_SPDFLG_FM (speedFlags (s.posEn 0 && p.resValid) false (!p.resDirFwd) p.resStill false)

/-- No word has been accepted for SPD_TIMEOUT: the serial speed is that of standstill, whatever the source in use (R169, R170). -/
def State.serialStop (s : State) : State :=
  if decide (s.speedTimeout 0 ≤ s.nowU - s.pos.swTimer.last) then
    s.modPos (fun p => { p with swPrev := none, swTimer := p.swTimer.stop })
  else s

/-- The motor speed from the serial word (R166, R170). -/
def State.motorSerial (s : State) : State :=
  let p := s.pos
  let v : Int := match p.swPrev with
    | some (a, t) => roundDiv (signedOf 16 (bitsOf 16 ((p.swAngle : Int) - a)) * (s.ratio 2 * 200000000 : Nat)) (64 * max 1 (p.swAt - t))
    | none => 0
  (s.wi POS_SPDM_SPEED (satI 32 v)).w POS_SPDFLG_FM
    (speedFlags (s.posEn 2 && p.swValid) p.swTimer.lowconf (!p.swTimer.fwd) p.swTimer.still false)

/-- The motor speed from the source in use; with none, from a valid resolver, a valid serial word, or the edges
(DEDUCED, assumption 85). -/
def State.motorSpeed (s : State) : State :=
  if s.motorIsResolver then s.motorResolver
  else match s.r POS_STS_INUSE with
    | 1 => s.motorSerial
    | 2 => s.motorEdges
    | _ => if s.swOk then s.motorSerial else s.motorEdges

/-- One wheel's speed. -/
def State.wheelSpeed (s : State) (n : Nat) : State :=
  let (e, v, bound) := (s.timer (n + 1)).publish s.nowU (s.speedTimeout (n + 1))
  let s := s.setTimer (n + 1) e
  (s.wi (POS_SPDW_SPEED n) (satI 32 (speedUnits v 1 1 64))).w (if n = 0 then POS_SPDFLG_FW0 else POS_SPDFLG_FW1)
    (speedFlags (s.posEn (n + 3)) e.lowconf (!e.fwd) e.still bound)

/-- POS_STS.VAL. -/
def State.posVal (s : State) : Nat :=
  let v := bitPut 0 0 (s.posEn 0 && s.pos.resValid)
  let v := bitPut v 1 s.encValid
  let v := bitPut v 2 (s.posEn 2 && s.pos.swValid)
  let v := bitPut v 3 (s.posEn 3)
  let v := bitPut v 4 (s.posEn 4)
  bitPut v 5 (s.posEn 5 && s.b POS_PPSO_VALID)

/-- POS_SWAGE at a boundary (R166); an age that 32 bits do not hold is a value the spec does not state (DESIGN CHOICE,
assumption 156). -/
def State.publishAge (s : State) : State :=
  let a := s.nowU - s.pos.swAt
  if !s.pos.swAny then s
  else if a < 4294967296 then s.w POS_SWAGE_AGE a
  else
    let (x, s) := s.freeNat
    s.w POS_SWAGE_AGE x

/-- POS at an L boundary (R150, R166, R169 to R173). -/
def State.posLoop (s : State) : State :=
  if !s.posLive then s
  else
    let s := s.serialStop.posCross.posSelect
    let s := s.motorSpeed
    let s := (s.wheelSpeed 0).wheelSpeed 1
    let s := s.w POS_RANG_ANGLE (s.resAt s.nowU % 65536).toNat
    let s := s.w POS_ECNT_COUNT s.pos.enc.toNat
    let s := (s.w (POS_WCNT_COUNT 0) (s.pos.wheel.getD 0 0).toNat).w (POS_WCNT_COUNT 1) (s.pos.wheel.getD 1 0).toNat
    let s := s.publishAge
    let s := s.w POS_STAMP_TICK (s.r HOI_TICKCNT_TICKCNT)
    let s := (s.w POS_STS_VAL s.posVal).swRequest
    if s.energised && !s.b POS_ELANG_VALID && !s.b POS_CTRL_SENSLESS then s.posFault Fid.angleLost else s

/-- The resolver starts afresh (R152, R153, R170). -/
def Pos.resRestart (p : Pos) (now : Nat) : Pos :=
  { p with resAngle := 0, resVel := 0, resPeak := now, resGood := 0, resAmpBad := 0, resTrkBad := 0, resLost := false
           resValid := false, resSlow := none }

/-- POS at an O boundary: a new outer cycle for the illegal transitions (R156), and what a change of EN starts afresh. -/
def State.posOuter (s : State) (enWas : Nat) : State :=
  let s := s.modPos (fun p => { p with illInOuter := 0 })
  let s := if s.posEn 1 && !bit enWas 1 then
      s.modPos (fun p => { p with idxFirst := true, zIn := false, sector := none, motor := {} }) else s
  let s := if s.posEn 0 != bit enWas 0 then s.modPos (fun p => p.resRestart s.nowU) else s
  let s := if !s.posEn 2 && bit enWas 2 then
      s.modPos (fun p => { p.swBreak with swValid := false, req := none, timedOut := false }) else s
  s

/-- The retry budget check of an H boundary (R163). -/
def State.posRing (s : State) : State :=
  if s.posLive then
    let bad := decide (max 1 (s.r POS_SWTO_POSTO) * s.loopU ≤ 2 * ((s.r POS_SWTIM_RETRY + 1) * s.wordU))
    let s := s.modPos (fun p => { p with swBad := bad })
    if bad then s.w POS_STS_SWCFGERR 1 else s
  else s

/-! The meanings. -/

/-- RESOLVER_SAMPLE (R151, R152): the sixteen samples of SIN and COS of one excitation period, whose peak lay `lead` u before
now; without VDDA the converters give none (R45). -/
def execResolverSample (t : Nat) (lead : BitVec 16) (pairs : Vector (BitVec 12 × BitVec 12) 16) (s : State) :
    Host.Outcome State Fault Refusal :=
  act s fun s => (s.at t).when (s.posLive && s.posEn 0 && s.cpm.vdda) fun s =>
    let sn := pairs.toList.map (fun p => p.1.toInt)
    let cs := pairs.toList.map (fun p => p.2.toInt)
    let d := s.demodDelay sn cs
    s.resolverPair (demodulate d sn) (demodulate d cs) (s.nowU - lead.toNat)

/-- An accepted change of A and B of the encoder (R155, R156). -/
def State.encEdge (s : State) (e : PairEdge) : State :=
  if e.a && e.b then s.encIllegal
  else (s.modPos (fun p => { p with enc := if e.up then p.enc + 1 else p.enc - 1 })).countEdge 0 (s.nowU - e.ago) e.up

/-- ENCODER_COUNT (R155, R156): the samples of A and B, 5 ns apart, up to now. -/
def execEncoderCount (t : Nat) (samples : List (Bool × Bool)) (s : State) : Host.Outcome State Fault Refusal :=
  act s fun s => (s.at t).when s.posLive fun s =>
    let l := pairEdges (s.r POS_ECFG_FILT + 1) s.pos.encAB samples
    let s := if s.posEn 1 && !s.b POS_ECFG_HALL then l.foldl State.encEdge s else s
    let ab := pairAfter s.pos.encAB l
    s.modPos (fun p => { p with encAB := ab, zIn := p.zIn && s.zQualified ab.1 ab.2 })

/-- The level of Z that stands accepted after its samples, and whether the level 0 was accepted among them. -/
def zLevel (need : Nat) (was : Bool) (z : List Bool) : Bool := match (filterLevels need was 0 z).getLast? with
  | some e => e.1
  | none => was
def zFell (need : Nat) (was : Bool) (z : List Bool) : Bool := (filterLevels need was 0 z).any (fun e => !e.1 && e.2)

/-- Z stands accepted and qualified, in an interval that has not given its index event (R158). -/
def State.zEvent (s : State) (was : Bool) (z : List Bool) : Bool :=
  let need := s.r POS_ECFG_FILT + 1
  zLevel need was z && s.zQualified s.pos.encAB.1 s.pos.encAB.2 && !(s.pos.zIn && was && !zFell need was z)

/-- INDEX_EVENT (R158): Z's level before and its samples, 5 ns apart, up to now, and whether an illegal transition or a preset
falls in the same sample. -/
def execIndexEvent (t : Nat) (zWas : Bool) (z : List Bool) (withIllegal withPreset : Bool) (s : State) : Host.Outcome State Fault Refusal :=
  act s fun s => (s.at t).when (s.posLive && s.posEn 1 && !s.b POS_ECFG_HALL
      && s.zEvent zWas z && !withIllegal && !withPreset && !bit (s.r POS_STS_WIREFLT) 2) fun s =>
    (s.modPos (fun p => { p with zIn := true })).indexEvent

/-- WIRE_FAULT (R157): the two pins of a pair have read equal for so long, or differ again (DESIGN CHOICE, assumption 86). -/
def execWireFault (pair : Fin 3) (equalFor : Option Nat) (s : State) : Host.Outcome State Fault Refusal :=
  act s fun s => s.when s.posLive fun s =>
    let s := s.modPos (fun p => { p with wireNow := bitPut p.wireNow pair.val equalFor.isSome })
    if equalFor.any (fun u => decide (4 * max 1 (s.r POS_ECFG_WIRE_T) < u)) && s.posEn 1 && !s.b POS_ECFG_HALL then
      let s := (s.setBit POS_STS_WIREFLT pair.val).posFault Fid.wireFault pair.val
      if pair.val < 2 then s.idxForget else s
    else s

/-- The effect of writing ones to WIREFLT (R157). -/
def State.writeWireflt (s : State) (mask : Nat) : State :=
  [0, 1, 2].foldl (fun s k =>
    if bit mask k && bit (s.r POS_STS_WIREFLT) k && !bit s.pos.wireNow k then
      (s.clrBit POS_STS_WIREFLT k).autoClear Fid.wireFault k
    else s) s

/-- WIREFLT_CLEAR (R157). -/
def execWirefltClear (who : Agent) (mask : BitVec 3) (s : State) : Host.Outcome State Fault Refusal :=
  act s fun s => s.when (s.posLive && s.mayWrite who POS_STS_WIREFLT) fun s => s.writeWireflt mask.toNat

/-- PRESET (R159). -/
def execPreset (who : Agent) (value : BitVec 20) (s : State) : Host.Outcome State Fault Refusal :=
  act s fun s => s.when (s.posLive && s.mayWrite who POS_EPRE_PRE) fun s => s.writePreset value.toNat

/-- HALL_STATE_CHANGE (R160). -/
def execHallStateChange (t : Nat) (code : BitVec 3) (s : State) : Host.Outcome State Fault Refusal :=
  act s fun s => (s.at t).when (s.posLive && s.posEn 1 && s.b POS_ECFG_HALL) fun s => s.hallChange code.toNat

/-- HALL_ILLEGAL_PERSIST (R160). -/
def execHallIllegalPersist (s : State) : Host.Outcome State Fault Refusal :=
  act s fun s => s.when (s.posLive && s.posEn 1 && s.b POS_ECFG_HALL && s.pos.hallIllNow && !s.pos.hallInvalid) fun s =>
    (s.modPos (fun p => { p with hallInvalid := true })).posFault Fid.hallIllegal

/-- SSI_WORD_END (R161, R162): of each rising edge of SWCK, SWDA's samples 5 ns apart from the edge on, the first in bit 0; or
SWDA was low at the start. -/
def execSsiWordEnd (t : Nat) (low : Bool) (rises : List (BitVec 256)) (s : State) : Host.Outcome State Fault Refusal :=
  act s fun s => (s.at t).when (s.posLive && s.posEn 2 && !s.b POS_SWCFG_SENT) fun s =>
    match s.pos.req with
    | some q => if q.failed then s else s.ssiWord q low (s.ssiBits rises)
    | none => s

/-- SSI_RETRY (R163): TMONO after a failed attempt. -/
def execSsiRetry (t : Nat) (s : State) : Host.Outcome State Fault Refusal :=
  act s fun s => (s.at t).when (s.posLive && s.posEn 2 && !s.b POS_SWCFG_SENT && decide (s.pos.swBusy ≤ (s.at t).nowU)) fun s =>
    match s.pos.req with
    | some q =>
      if !q.failed then s
      else if q.tries < s.swRetry then
        s.modPos (fun p => { p with req := some { q with failed := false, tries := q.tries + 1, sampledAt := s.nowU } })
      else s.giveUpWord
    | none => s

/-- POSITION_TIMEOUT (R163). -/
def execPositionTimeout (s : State) : Host.Outcome State Fault Refusal :=
  act s fun s => s.when (s.posLive && s.posEn 2 && !s.pos.timedOut && decide (max 1 (s.r POS_SWTO_POSTO) ≤ s.pos.sinceWord)) fun s =>
    let s := s.modPos (fun p => { p.swBreak with swValid := false, timedOut := true, epoch := p.epoch + 1 })
    (s.w POS_STS_SWTO 1).posFault Fid.posTimeout

/-- SENT_FRAME (R164): a frame that ends now, by the durations in u of its sync, of its nibbles, and of its pause. -/
def execSentFrame (t : Nat) (sync : Nat) (pulses : List Nat) (pause : Option Nat) (s : State) : Host.Outcome State Fault Refusal :=
  act s fun s => (s.at t).when (s.posLive && s.posEn 2 && s.b POS_SWCFG_SENT) fun s => s.sentFrame sync pulses pause

/-- SENTSLOW_READ (R165). -/
def execSentslowRead (s : State) : Host.Outcome State Fault Refusal :=
  act s fun s => s.when s.posLive State.popSlow

/-- The mode of a wheel channel, and the direction that its pulse mode uses (R167). -/
def State.wheelMode (s : State) (n : Nat) : Nat := s.r (if n = 0 then POS_WCFG_MODE0 else POS_WCFG_MODE1)
def State.wheelFwd (s : State) (n : Nat) : Bool :=
  if s.b (if n = 0 then POS_WCFG_DIRM0 else POS_WCFG_DIRM1) then !bit (s.r POS_SPDFLG_FM) 2
  else !s.b (if n = 0 then POS_WCFG_DIRSET0 else POS_WCFG_DIRSET1)

/-- The count that an accepted change of a wheel's inputs makes in its mode: forward or not (R167). -/
def State.wheelCounts (s : State) (n : Nat) (e : PairEdge) : Option Bool :=
  let both := s.b (if n = 0 then POS_WCFG_BOTH0 else POS_WCFG_BOTH1)
  match s.wheelMode n with
  | 0 => if e.a && e.b then none else some e.up
  | 1 => if e.a && (e.lvA || both) then some (!e.lvB) else none
  | _ => if e.a && (e.lvA || both) then some (s.wheelFwd n) else none

/-- An accepted change of A and B of a wheel (R167): an illegal transition sets ILL_ERR and is counted, without the fault. -/
def State.wheelEdge (s : State) (n : Nat) (e : PairEdge) : State :=
  if s.wheelMode n = 0 ∧ e.a ∧ e.b then (s.w POS_STS_ILL_ERR 1).bumpSat POS_EIDXERR_ILLCNT
  else match s.wheelCounts n e with
    | some fwd =>
      let c := s.pos.wheel.getD n 0
      (s.modPos (fun p => { p with wheel := setAt p.wheel n (if fwd then c + 1 else c - 1) })).countEdge (n + 1)
        (s.nowU - 20 * e.ago) fwd
    | none => s

/-- WHEEL_COUNT (R167): the samples of A and B of a wheel, 100 ns apart, up to now (DEDUCED, assumption 82). -/
def execWheelCount (t : Nat) (n : Fin 2) (samples : List (Bool × Bool)) (s : State) : Host.Outcome State Fault Refusal :=
  act s fun s => (s.at t).when s.posLive fun s =>
    let need := s.r (if n.val = 0 then POS_WCFG_WFILT0 else POS_WCFG_WFILT1) + 1
    let l := pairEdges need (s.pos.wheelAB.getD n.val (false, false)) samples
    let s := if s.posEn (n.val + 3) then l.foldl (fun s e => s.wheelEdge n.val e) s else s
    s.modPos (fun p => { p with wheelAB := setAt p.wheelAB n.val (pairAfter (p.wheelAB.getD n.val (false, false)) l) })

/-- PPS_EDGE (R168). -/
def execPpsEdge (t : Nat) (rising : Bool) (s : State) : Host.Outcome State Fault Refusal :=
  act s fun s => (s.at t).when (s.posLive && s.posEn 5 && rising != s.b POS_PPSCFG_EDGE) fun s =>
    let now := s.nowU
    let ok := match s.pos.ppsAt with
      | some p => decide (((now - p : Nat) : Int) - 200000000 ≤ 200 * s.r POS_PPSCFG_PPSTOL)
          && decide (200000000 - ((now - p : Nat) : Int) ≤ 200 * s.r POS_PPSCFG_PPSTOL)
      | none => false
    let s := ((s.w POS_PPST_TICK (s.r HOI_TICKCNT_TICKCNT)).w POS_PPSO_OFS (min 65535 s.hoi.now)).bump POS_PPSO_SEQ
    let s := (s.wb POS_PPSO_VALID ok).posIrq 4
    let s := s.modPos (fun p => { p with ppsAt := some now })
    let s := s.modPos (fun p => { p with pps := ((s.r POS_PPSO_SEQ, now, ok) :: p.pps).take 256 })
    if ok then s.autoClear Fid.ppsLost else s

/-- PPS_LOST (R168): no valid edge within the last 1.5 s. -/
def execPpsLost (t : Nat) (s : State) : Host.Outcome State Fault Refusal :=
  act s fun s => (s.at t).when (s.posLive && s.posEn 5
      && !s.pos.pps.any (fun (e : Nat × Nat × Bool) => e.2.2 && decide (s.nowU < e.2.1 + 300000000))) fun s =>
    ((s.w POS_STS_PPSLOST 1).w POS_PPSO_VALID 0).posFault Fid.ppsLost

/-- SPEED_TIMEOUT (R169): source 0 the motor, 1 and 2 the wheels. -/
def execSpeedTimeout (t : Nat) (src : Fin 3) (s : State) : Host.Outcome State Fault Refusal :=
  act s fun s => (s.at t).when (s.posLive && decide (s.speedTimeout src.val ≤ s.nowU - (s.timer src.val).last)) fun s =>
    s.setTimer src.val (s.timer src.val).stop

/-- The effect of a write of RETPRI (R171). -/
def State.writeRetpri (s : State) : State :=
  if (s.primary s.nowU).1 then s.modPos (fun p => { p with retpri := true }) else s

/-- RETPRI (R171). -/
def execRetpri (who : Agent) (value : Bool) (s : State) : Host.Outcome State Fault Refusal :=
  act s fun s => s.when (value && s.posLive && s.mayWrite who POS_CTRL_RETPRI) State.writeRetpri

end Sys2Proof.Machine
end

