-- ==== Sys2Proof/Machine/Boundary.lean ====
section
/-!
DEFINITION. A tick boundary (R86 to R91): the frame timer's count, the swap of every level whose boundary it is, and what
each block does there; and the frame entry that the cores then owe (R353, R354).
-/
namespace Sys2Proof.Machine

open Reg

/-! The count (R86, R89, R99, R101). -/

/-- A ring member: RSTATE is MEMBER or OWNER (R294). -/
def State.ringMember (s : State) : Bool := decide (2 ≤ s.r HLY_STS_RSTATE)

/-- Time moves to the boundary; HOI_TICKCNT and HOI_POS latch. After a stop of the timer the boundary begins a new tick
wherever it falls. -/
def State.countTick (s : State) (levels : List Level) : State :=
  let step := if s.hoi.wakeH then s.hoi.now else s.tickU
  let s := s.modHoi (fun h => { h with base := h.base + step, now := 0, fine := 0, wakeH := false })
  let s := s.bump HOI_TICKCNT_TICKCNT
  if levels.contains .H then
    let s := s.modHoi (fun h => { h with cyclePrev := h.cycleAt, cycleAt := h.base })
    ((s.w HOI_POS_HALF 0).w HOI_POS_LOOPIDX 0).w HOI_POS_OUTIDX 0
  else
    let s := s.wb HOI_POS_HALF (!levels.contains .C)
    if levels.contains .O then (s.w HOI_POS_LOOPIDX 0).bump HOI_POS_OUTIDX
    else if levels.contains .L then s.bump HOI_POS_LOOPIDX else s

/-- Each boundary's bit of HOI_IRQ (R102). -/
def State.boundaryIrq (s : State) (levels : List Level) : State :=
  levels.foldl (fun s l => s.setBit HOI_IRQ_BND (levelBit l)) s

/-! Standstill (R16). -/

/-- The speed sources that report a valid speed, by their flags. -/
def State.validSpeeds (s : State) : List Nat :=
  if s.posLive then [s.r POS_SPDFLG_FM, s.r POS_SPDFLG_FW0, s.r POS_SPDFLG_FW1].filter (fun f => bit f 0) else []

/-- Standstill is confirmed when every valid source reports 0; with none left, the STOPMAX time runs (DEDUCED, assumption 61),
from the first O boundary where none is valid at the entry already (DESIGN CHOICE, assumption 159). -/
def State.standOuter (s : State) : State :=
  if !s.cpm.coasting then s
  else
    let v := s.validSpeeds
    if v.isEmpty then
      { s with cpm := { s.cpm with stopFrom := some (s.cpm.stopFrom.getD s.cpm.msTick) } }
    else if v.all (fun f => bit f 3) then
      { s with cpm := { s.cpm with coasting := false, unconf := false, stopFrom := none } }
    else { s with cpm := { s.cpm with stopFrom := none } }

/-! The blocks at their boundaries. -/

/-- At an L boundary: POS latches first, and what reads it follows (R150, R259, R136, R194, R266, R377). -/
def State.loopTasks (s : State) (levels : List Level) : State :=
  let s := s.posLoop
  let s := if s.gdnLive && s.b GDN_CTRL_EN then (s.gdnLocal.gdnLoop (levels.contains .O)).gdnWriteback
    else s.gdnStand
  let s := if s.hlyLive then s.heldDue else s
  let s := if s.sdxLive then s.sdxLoop else s
  (s.cleLoop).sssLoop

/-- The motor's torque limit TMOT, SP7.m0 in 1/65,536 N·m (R217, R430). -/
def State.tmot16 (s : State) : Nat := ((s.setPoint 7).fixed 0 16).natAbs

/-- At an O boundary, after its swap; the Ensign is latched last (R390). -/
def State.outerTasks (s : State) (enWas : Nat) (can0 can1 : Bool) (mw : Nat) : State :=
  let s := if s.posLive then s.posOuter enWas else s
  let s := (s.fcvOuter).canOuter can0 can1
  let s := if s.gdnLive && s.b GDN_CTRL_EN then s.gdnOuter else s
  let s := if s.axsLive then (s.axApply 0).axApply 1 else s
  let s := s.bstOuter
  let s := if s.tested 16 then s else s.thmOuter mw s.tmot16
  let s := (s.standOuter).fltOuter
  let s := if s.live .host && !s.tested 14 then s.setBit HSP_IRQ_EVT 3 else s
  s.sssOuter

/-- At an H boundary, after its swap; Guidon hands its events on before Halyard places them (R265, R296). -/
def State.ringTasks (s : State) : State :=
  let s := if s.axsLive then s.w AXS_HTIME_HTIME (s.r AXS_TIME_TIME) else s
  ((((s.escCheck).safConfig).posRing).gdnRing).hlyRing

/-! What a swap brings with it. -/

/-- The kernel follows a change of HOI_FRAME with HBTO (R372). -/
def State.frameChanged (s old : State) : Bool :=
  [HOI_FRAME_CARP, HOI_FRAME_LOOPT, HOI_FRAME_OUTN, HOI_FRAME_RINGN].any (fun f => s.r f != old.r f)

/-- A tolerance descriptor names a register that no register table marks for the tolerance class: refused (R356)
(DEDUCED, assumption 129). -/
def State.tolCheck (s : State) : State :=
  (List.range 16).foldl (fun s n =>
    if s.b (CMP_TOL_EN n) then ((s.w (CMP_TOL_EN n) 0).w CMP_STS_TOLERR 1).raise Fid.tolRefused n else s) s

/-! CMP's reaction and the frame entry (R353, R354, R361). -/

/-- The reaction of R361: the first event is recorded, no further guarded write of either core passes, heartbeats end at a
mismatch or a timeout (R359), and the fault is raised. -/
def State.cmpFail (s : State) (kind id addr main chk : Nat) : State :=
  let s := if s.b CMP_STS_MIS then s
    else ((((s.w CMP_STS_MIS 1).w CMP_STS_MISKIND kind).w CMP_MISADDR_ADDR addr).w CMP_MISMAIN_MAIN main).w CMP_MISCHK_CHK chk
  (s.modCores (fun c => { c with mute := c.mute || kind != 6 })).raise id

/-- Both cores are halted in a debug session (R362). -/
def State.halted (s : State) : Bool := s.r DBG_STS_STATE == 3

/-- Each core owes a frame entry for this boundary, and reads latched values as they stood until it takes it; one that has
not taken the last is late (R353, R354). -/
def State.frameOwed (s old : State) (levels : List Level) : State :=
  if s.cpm.phase ≠ .running then s
  else
    let late := s.cores.main.frameDue.isSome || s.cores.chk.frameDue.isSome
    let s := if late && !s.halted then s.cmpFail 6 Fid.frameEntryLate 0 0 0 else s
    let v : View := ⟨old.withHall.regs, old.hly.imgUpper⟩
    let owe := fun (c : Core) => { c with
      frameDue := some (match c.frameDue with
        | some l => allLevels.filter (fun x => l.contains x || levels.contains x)
        | none => levels)
      view := some (c.view.getD v) }
    s.modCores (fun c => { c with main := owe c.main, chk := owe c.chk })

/-! The boundary. -/

/-- The swaps and the tasks of a boundary, in a device whose blocks run; `old` is the state before it. -/
def State.runBoundary (s old : State) (levels : List Level) (xs : List Stream) (mw : Nat) : State :=
  let s := s.winTick (!levels.contains .C) (32 * (s.hoi.base - old.hoi.base))
  let s := s.hallLatch
  let s := levels.foldl State.beforeCut s
  let s := levels.foldl State.levelBoundary s
  let s := s.enterLate
  let s := if levels.contains .H then s.basesKept old else s
  let s := if s.live .cle && (levels.contains .H || levels.contains .O) then s.checkProgs else s
  let s := if levels.contains .O then (s.rerouted old).tolCheck else s
  let s := if s.b GDN_CTRL_TCGATE && !old.b GDN_CTRL_TCGATE && s.cpm.phase == .running then s.writeGates else s
  let s := if s.frameChanged old && s.cpm.phase == .running then s.setHbto else s
  let s := if levels.contains .H then s.discipline else s
  let s := (s.sdxTick xs).pwmTick (levels.contains .C) (old.b PWM_CTRL_ADAPT)
  let s := if old.drv = .armed && s.drv = .run then s.cleFirst else s
  let s := if levels.contains .L then s.loopTasks levels else s
  let s := if levels.contains .O then
      s.outerTasks (old.r POS_CTRL_EN) (old.b (CAN_CTRL_EN 0)) (old.b (CAN_CTRL_EN 1)) mw else s
  let s := if levels.contains .H then s.ringTasks else s
  let s := if s.cpm.dev = .run then s.cleBoundary levels else s
  (s.frameOwed old levels).boundaryIrq levels

/-- BOUNDARY (R91): the frame timer reaches its next tick boundary. `vd`, `s4` and `s5` are the bits up to the latest completed
outputs of the continuous channels, `mw` the power of the rails. In NAP a ring member's timer counts without swapping (R101). -/
def execBoundary (vd s4 s5 : Stream) (mw : Nat) (s : State) : Host.Outcome State Fault Refusal :=
  act s fun s =>
    if s.live .sys && (s.cpm.dev == .run || s.cpm.dev == .idle) then
      let levels := s.comingLevels
      (s.countTick levels).runBoundary s levels [vd, s4, s5] mw
    else if s.cpm.dev = .nap && s.ringMember then
      let levels := s.comingLevels
      ((s.countTick levels).enterLate).modHoi (fun h => { h with napped := true })
    else s

end Sys2Proof.Machine
end

