-- ==== Sys2Proof/Machine/Domains.lean ====
section
/-!
DEFINITION. Switching domains on and off (R34, R35, R47 to R49) and the naps of IMPL and HLY in RUN (R52).
-/
namespace Sys2Proof.Machine

open Reg

def State.modCpm (s : State) (f : Cpm → Cpm) : State := { s with cpm := f s.cpm }

/-- The domains that CPM_DOMREQ.REQ requests, in its bit order (R68). -/
def requestable : List Domain := [.cle, .sense, .pwm, .impl, .hly, .host]

/-- A domain is requested on (DEDUCED, assumption 60). -/
def State.requested (s : State) (d : Domain) : Bool := decide (domBit d < 3) || bit (8 * s.r CPM_DOMREQ_REQ) (domBit d)

/-- A request for one domain: its rail rises, it goes off, or the switch-off is refused and it stays on (R48). -/
def State.domainAsk (s : State) (d : Domain) (on : Bool) : State :=
  if on then s.domainRise d
  else if s.on d || bit s.cpm.rising (domBit d) then
    if s.mayOff d then s.domainOff d else s.w CPM_STATE_REFUSED 1
  else s

/-- The effect of a write of CPM_DOMREQ.REQ (DEDUCED, assumption 60). -/
def State.writeDomreq (s : State) (v : Nat) : State :=
  let s := s.w CPM_DOMREQ_REQ v
  requestable.foldl (fun s d => s.domainAsk d (bit (8 * v) (domBit d))) s

/-- DOMAIN_REQUEST (R47, R48). -/
def execDomainRequest (who : Agent) (req : BitVec 6) (s : State) : Host.Outcome State Fault Refusal :=
  act s fun s => s.when (s.live .sys && s.mayWrite who CPM_DOMREQ_REQ) fun s => s.writeDomreq req.toNat

/-- A domain has powered up: it is on and out of reset with its registers at reset. After handover the kernel reloads the
CLE memories (R49); HOST announces itself (R449). -/
def State.domainUp (s : State) (d : Domain) : State :=
  let k := domBit d
  let s := (s.setBit CPM_STATE_DOMON k).modCpm (fun c => { c with rising := bitClr c.rising k, inReset := bitClr c.inReset k })
  match d with
  | .cle => if s.cpm.phase = .running then s.modCpm (fun c => { c with cleReload := true }) else s
  | .host => if s.cpm.phase = .running ∨ s.cpm.phase = .recovery then s.setBit HSP_IRQ_EVT 0 else s
  | _ => s

/-- DOMAIN_POWER_UP (R48): the rail of a rising domain has settled; the domain needs SYS, and its supplies held (R46). -/
def execDomainPowerUp (d : Domain) (s : State) : Host.Outcome State Fault Refusal :=
  act s fun s =>
    let supplies := s.cpm.held.contains .vio && s.cpm.held.contains (if d = .hly then .vdds else .vddc)
    s.when (bit s.cpm.rising (domBit d) && (d == .sys || s.live .sys) && supplies) fun s => s.domainUp d

/-! Naps in RUN (R52). -/

/-- A Guidon event falls due within IMPL's wake latency of 2 µs. -/
def State.eventSoon (s : State) : Bool :=
  s.gdn.queue.any (fun e => decide (e.inst ≤ s.nowU + 400)) || s.hly.held.any (fun e => decide (e.inst ≤ s.nowU + 400)) ||
    s.gdn.acting.any (fun e => decide (e.due ≤ s.nowU + 400))

/-- IMPL_NAP: GDN and AXS go into retention, their outputs holding their state. -/
def execImplNap (t : Nat) (s : State) : Host.Outcome State Fault Refusal :=
  act s fun s =>
    let s := s.at t
    s.when (s.cpm.dev == .run && s.live .impl && s.b CPM_SLEEPCFG_IMPLNAP && s.axesRest && !s.eventSoon) fun s =>
      s.modCpm (fun c => { c with implNap := true })

/-- IMPL_NAP_WAKE. -/
def execImplNapWake (s : State) : Host.Outcome State Fault Refusal :=
  act s fun s => s.modCpm (fun c => { c with implNap := false })

/-- HLY_NAP: the protocol engine and its DMA go into retention; the forwarding path stays on. -/
def execHlyNap (s : State) : Host.Outcome State Fault Refusal :=
  act s fun s => s.when (s.cpm.dev == .run && s.live .hly && s.b CPM_SLEEPCFG_HLYNAP) fun s =>
    s.modCpm (fun c => { c with hlyNap := true })

/-- HLY_NAP_WAKE: HLYLEAD µs before this node's next slot. -/
def execHlyNapWake (s : State) : Host.Outcome State Fault Refusal :=
  act s fun s => s.modCpm (fun c => { c with hlyNap := false })

end Sys2Proof.Machine
end

