-- ==== Sys2Proof/Machine/Cores.lean ====
section
/-!
DEFINITION. The two Parart cores (R309, R315 to R318, R328, R329, R338 to R340, R355): their registers and system registers,
traps and the return from one, lockup, and the interrupt lines.
-/
namespace Sys2Proof.Machine

open Reg

/-! General and floating-point registers (R329). -/

/-- gn; g0 reads 0. -/
def Core.gr (c : Core) (n : Nat) : Word := if n = 0 then 0 else if h : n < 32 then c.g[n] else 0

/-- A write of gn; one of g0 is discarded. -/
def Core.setG (c : Core) (n : Nat) (v : Word) : Core :=
  if n = 0 then c else if h : n < 32 then { c with g := c.g.set n v } else c

def Core.fr (c : Core) (n : Nat) : Word := if h : n < 32 then c.f[n] else 0
def Core.setF (c : Core) (n : Nat) (v : Word) : Core := if h : n < 32 then { c with f := c.f.set n v } else c

/-! Status (R328). -/

inductive Mode where
  | k | s | u
deriving DecidableEq, Repr

def modeCode : Mode → Nat
  | .k => 0 | .s => 1 | .u => 2

/-- The mode a two-bit code names. 0b11 names none: it acts as S or U, which the spec leaves open, never as K (R309). -/
def modeOf (n : Nat) : Mode :=
  if n = 0 then .k else if n = 1 then .s else if n = 2 then .u
  else if Config.outOfRange 0 3 % 2 = 0 then .s else .u

def Core.mode (c : Core) : Mode := modeOf (c.status.toNat % 4)
def Core.ie (c : Core) : Bool := c.status.getLsbD 2
def Core.inTrap (c : Core) : Bool := c.status.getLsbD 3
def Core.ipl (c : Core) : Nat := c.status.toNat / 16 % 16
def Core.locked (c : Core) : Bool := c.tcause.getLsbD 6

/-- A status word of its fields. -/
def statusWord (m : Nat) (ie inTrap : Bool) (ipl : Nat) : Word :=
  BitVec.ofNat 32 (m % 4 + (if ie then 4 else 0) + (if inTrap then 8 else 0) + 16 * (ipl % 16))

/-- An IPL that S writes: 0 becomes 1 (R339, R340). -/
def iplFrom (k : Bool) (ipl : Nat) : Nat := if !k && ipl == 0 then 1 else ipl

/-- The priority of a line. -/
def Core.pri (c : Core) (n : Nat) : Nat := (c.ipri.toList.getD (n / 8) 0).toNat / 16 ^ (n % 8) % 16

/-! System registers (R328, R339). -/

/-- The number names a system register. -/
def srValid (n : Nat) : Bool :=
  decide (n ≤ 5) || n == 8 || n == 9 || n == 0xA || (decide (0xC ≤ n) && decide (n ≤ 0x10))
    || (decide (0x40 ≤ n) && decide (n < 0x80) && n % 4 != 3)

def Core.region (c : Core) (n : Nat) : Region := c.mpu.toList.getD n {}
def Core.setRegion (c : Core) (n : Nat) (r : Region) : Core := if h : n < 16 then { c with mpu := c.mpu.set n r } else c

/-- A system register as GETSR reads it; `pend` is the word of pending lines, SR_IPEND. -/
def Core.getSr (c : Core) (pend : Word) (n : Nat) : Word :=
  match n with
  | 0 => c.status
  | 1 => c.tstatus
  | 2 => c.tpc
  | 3 => c.tcause
  | 4 => c.tval
  | 5 => c.tbase
  | 8 => c.ien
  | 9 => pend
  | 0xC => c.ipri[0]
  | 0xD => c.ipri[1]
  | 0xE => c.ipri[2]
  | 0xF => c.ipri[3]
  | 0x10 => c.ecccnt
  | n =>
    if 0x40 ≤ n then
      let r := c.region ((n - 0x40) / 4)
      if n % 4 = 0 then r.base else if n % 4 = 1 then r.lim else r.attr
    else 0

/-- Nibbles of 0 written from S act as 1 (R318). -/
def priFrom (k : Bool) (v : Word) : Word :=
  if k then v
  else BitVec.ofNat 32 ((List.range 8).foldl (fun w i =>
    let p := v.toNat / 16 ^ i % 16
    w + (if p = 0 then 1 else p) * 16 ^ i) 0)

/-- A write of a system register by PUTSR, in K or from S (R339); read-only fields keep their value (DEDUCED, assumption 121). -/
def Core.putSr (c : Core) (k : Bool) (n : Nat) (v : Word) : Core :=
  let x := v.toNat
  match n with
  | 0 => { c with status := statusWord (c.status.toNat % 4) (v.getLsbD 2) (v.getLsbD 3) (iplFrom k (x / 16 % 16)) }
  | 1 => { c with tstatus := statusWord (if !k && x % 4 == 0 then 1 else x % 4) (v.getLsbD 2) (v.getLsbD 3)
                    (iplFrom k (x / 16 % 16)) }
  | 2 => { c with tpc := v }
  | 5 => { c with tbase := BitVec.ofNat 32 (x / 1024 * 1024) }
  | 8 =>
    let keep := (List.range 32).foldl (fun w i => if c.pri i = 0 then bitSet w i else w) 0
    { c with ien := if k then v else v ||| BitVec.ofNat 32 keep }
  | 0xA => { c with lines := c.lines ||| BitVec.ofNat 32 (x / 2 ^ 24 * 2 ^ 24) }
  | 0xC => { c with ipri := c.ipri.set 0 (priFrom k v) }
  | 0xD => { c with ipri := c.ipri.set 1 (priFrom k v) }
  | 0xE => { c with ipri := c.ipri.set 2 (priFrom k v) }
  | 0xF => { c with ipri := c.ipri.set 3 (priFrom k v) }
  | 0x10 => { c with ecccnt := BitVec.ofNat 32 (c.ecccnt.toNat / 65536 * 65536 + x % 65536) }
  | n =>
    if 0x40 ≤ n ∧ n < 0x80 then
      let i := (n - 0x40) / 4
      let r := c.region i
      if n % 4 = 0 then c.setRegion i { r with base := BitVec.ofNat 32 (x / 32 * 32) }
      else if n % 4 = 1 then c.setRegion i { r with lim := BitVec.ofNat 32 (x / 32 * 32) }
      else if n % 4 = 2 then c.setRegion i { r with attr := BitVec.ofNat 32 (x % 128) }
      else c
    else c

/-- The priority a line is taken at: the frame entry is the kernel's, at priority 0 (R353). -/
def State.linePri (s : State) (isMain : Bool) (n : Nat) : Nat :=
  if n = 1 ∧ (s.core isMain).frameDue.isSome then 0 else (s.core isMain).pri n

/-- The checker may take a line: the main core is ahead in taking it (R355). -/
def State.mayTake (s : State) (isMain : Bool) (n : Nat) : Bool :=
  isMain || decide (s.cores.chk.takes n < s.cores.main.takes n)

/-- The conditions of R318 for a line, but for the order among lines. -/
def State.takeable (s : State) (isMain : Bool) (n : Nat) : Bool :=
  let c := s.core isMain
  let p := s.linePri isMain n
  s.linePending isMain n && c.ien.getLsbD n && decide (p < c.ipl) && (c.ie || p == 0) && !c.inTrap && s.mayTake isMain n

/-- The line that is taken: the highest priority, the lowest number among equals. -/
def State.nextLine (s : State) (isMain : Bool) : Option Nat :=
  let l := (List.range 32).filter (s.takeable isMain)
  match l with
  | [] => none
  | n :: rest => some (rest.foldl (fun b j => if s.linePri isMain j < s.linePri isMain b then j else b) n)

/-! Traps (R315 to R317, R347). -/

/-- A core has locked up; when both have, FLT resets the device (R317) (DEDUCED, assumption 124). -/
def State.lockUp (s : State) (isMain : Bool) (code : Nat) : State :=
  let s := s.setCore isMain { s.core isMain with tcause := BitVec.ofNat 32 (code % 64 + 64) }
  let s := s.raise Fid.coreLockup (if isMain then 0 else 1)
  if s.cores.main.locked && s.cores.chk.locked then s.switchedReset .flt else s

/-- The trap of R315: the record, INTRAP, the mode and IPL, and the slot. `line` is the line's number and priority for an
interrupt; `tval` is written for an exception. -/
def Core.trap (c : Core) (code : Nat) (line : Option (Nat × Nat)) (resume : Word) (tval : Option Word) (toK : Bool) : Core :=
  let base : Nat := if toK then Config.kernelTable % 32 * 1024 else c.tbase.toNat
  let slot := match line with | some (n, _) => 16 + n | none => code
  let ipl := match line with | some (_, p) => p | none => c.ipl
  { c with
    tpc := resume, tstatus := c.status, tcause := BitVec.ofNat 32 slot, tval := tval.getD c.tval
    status := statusWord (if toK then 0 else 1) c.ie true ipl
    pc := BitVec.ofNat 32 (base + 16 * slot), waiting := false }

/-- A core takes an exception: `kernelDecided` when a kernel region decided it (R316). -/
def State.exception (s : State) (isMain : Bool) (code : Nat) (resume tval : Word) (kernelDecided : Bool := false) : State :=
  let c := s.core isMain
  if c.inTrap then s.lockUp isMain code
  else s.setCore isMain (c.trap code none resume (some tval) (c.mode = .k || code == 0xA || kernelDecided))

/-- A core takes a line (R318, R355); a line of its own is no longer pending. -/
def State.takeLine (s : State) (isMain : Bool) (n : Nat) : State :=
  let c := s.core isMain
  let p := s.linePri isMain n
  let c' := c.trap 0 (some (n, p)) c.pc none (p == 0 || c.mode = .k)
  s.setCore isMain { c' with taken := setAt c.taken n (c.takes n + 1), lines := c.lines &&& ~~~ BitVec.ofNat 32 (2 ^ n) }

/-- TRET (R340) (DEDUCED, assumption 123). -/
def Core.ret (c : Core) : Core :=
  let k := c.mode = .k
  let m := c.tstatus.toNat % 4
  { c with
    pc := BitVec.ofNat 32 (c.tpc.toNat / 4 * 4)
    status := statusWord (if !k && m == 0 then 1 else m) (c.tstatus.getLsbD 2) (c.tstatus.getLsbD 3)
      (iplFrom k (c.tstatus.toNat / 16 % 16)) }

end Sys2Proof.Machine
end

