-- ==== Sys2Proof/Machine/Debug.lean ====
section
/-!
DEFINITION. The duplicated region (R351) and the debug block (R362 to R364).
-/
namespace Sys2Proof.Machine

open Reg

/-! The duplicated region (R351). -/

def State.dupBase (s : State) : Nat := s.r CMP_DUPBASE_BASE / 4096 * 4096
def State.dupSize (s : State) : Nat := s.r CMP_DUPSIZE_SIZE / 4096 * 4096
def State.dupSet (s : State) : Bool := s.b CMP_STS_DUPSET

/-- An address lies inside the region. -/
def State.inDup (s : State) (a : Nat) : Bool := s.dupSet && decide (s.dupBase ≤ a) && decide (a < s.dupBase + s.dupSize)

/-- An address lies inside the region or the checker's copy. -/
def State.inEither (s : State) (a : Nat) : Bool :=
  s.dupSet && decide (s.dupBase ≤ a) && decide (a < s.dupBase + 2 * s.dupSize)

/-- The checker's copy of the kernel's own data, within the kernel area, at a place that the spec leaves to the kernel (R351)
(DESIGN CHOICE, assumption 189). -/
def kernelCopy (a : Nat) : Nat :=
  let base := 0x20000000 + Config.kernelData.1 % 4096
  let size := Config.kernelData.2 % 2048
  if within a base size then a + size else a

/-- Where a core's access to an address goes (DEDUCED, assumption 128). -/
def State.redirect (s : State) (isMain : Bool) (a : Nat) : Nat :=
  if isMain then a else if s.inDup a then a + s.dupSize else if kindOf a = .sramK then kernelCopy a else a

/-- Both ranges lie where R351 allows them. -/
def dupPlaced (base size : Nat) : Bool :=
  decide (0x20002000 ≤ base) && decide (base + 2 * size ≤ 0x20100000) && decide (size ≤ 491520)

def State.dupRefuse (s : State) : State := (s.w CMP_STS_DUPERR 1).raise Fid.dupRefused

/-- A write of CMP_DUPBASE: refused once the region is set. -/
def State.writeDupbase (s : State) (v : Nat) : State := if s.dupSet then s.dupRefuse else s.w CMP_DUPBASE_BASE v

/-- A write of CMP_DUPSIZE sets the region and starts the copy, or is refused. -/
def State.writeDupsize (s : State) (v : Nat) : State :=
  if s.dupSet || !dupPlaced s.dupBase (v % 2 ^ 20 / 4096 * 4096) then s.dupRefuse
  else ((s.w CMP_DUPSIZE_SIZE v).w CMP_STS_DUPSET 1).w CMP_STS_COPYBUSY 1

/-- DUPLICATED_REGION_SET (R351): the guarded write of CMP_DUPSIZE passes. -/
def execDuplicatedRegionSet (who : Agent) (value : BitVec 20) (s : State) : Host.Outcome State Fault Refusal :=
  act s fun s => s.when (s.live .sys && s.mayWrite who CMP_DUPSIZE_SIZE) fun s => s.writeDupsize value.toNat

/-- The checker copy takes the main copy's contents. -/
def State.copyRegion (s : State) : State :=
  let b := s.dupBase
  let n := s.dupSize
  let stays := fun (x : Nat) => !(decide (b + n ≤ x) && decide (x < b + 2 * n))
  let s := (s.clearRange (b + n) n).modCores (fun c => { c with badWords := c.badWords.filter stays, softWords := c.softWords.filter stays })
  let mine := s.mem.filter (fun e => decide (b ≤ e.1) && decide (e.1 < b + n))
  { s with mem := mine.foldl (fun l e => sparsePut l (e.1 + n) e.2 (restByte (e.1 + n))) s.mem }

/-- COPY_COMPLETE (R351). -/
def execCopyComplete (s : State) : Host.Outcome State Fault Refusal :=
  act s fun s => s.when (s.b CMP_STS_COPYBUSY) fun s => s.copyRegion.w CMP_STS_COPYBUSY 0

/-! Debug sessions (R362, R363). STATE: 0 CLOSED, 1 RUN, 2 HALTING, 3 HALTED. -/

def State.dbgOpen (s : State) : Bool := s.b DBG_CTRL_OPEN

/-- The OTP debug lock (R84). -/
def State.dbgLocked (s : State) : Bool := (s.byte 0x080010B0).getLsbD 0

/-- The writer holds a Maker session; the kernel holds none (DEDUCED, assumption 138). -/
def State.isMaker (s : State) (who : Agent) : Bool :=
  match who with
  | .kernel => false
  | .host r => r == .maker
  | .program => s.kern.sessions.any (fun x => x.chan == .program && x.role == .maker)
  | _ => false

/-- The channel of a writer. -/
def agentChan : Agent → Chan
  | .host _ => .host
  | _ => .program

/-- A change of DBG_CTRL.OPEN, journalled; the journal's refusal refuses it (R362, R364, R464). -/
def State.writeDbgOpen (s : State) (who : Agent) (v : Bool) : State :=
  if v == s.dbgOpen then s
  else
    let allowed := if v then !s.dbgLocked && s.isMaker who && s.drv == .off else s.r DBG_STS_STATE == 1
    if !allowed then (if v then s.w DBG_STS_REFUSED 1 else s)
    else
      let (s', ok) := s.journal (roleByte .maker (agentChan who) 0) 0x7F05 0 [] (leBytes (if v then 1 else 0) 1)
      if !ok then (if v then s'.w DBG_STS_REFUSED 1 else s')
      else
        let s := (s'.wb DBG_CTRL_OPEN v).w DBG_STS_STATE (if v then 1 else 0)
        if v then s.modCores (fun c => { c with log := [], replay := [], inReplay := true, stepping := false }) else s

/-- Both cores stand at one retired count: the pair is halted (R363) (DEDUCED, assumption 139). -/
def State.haltSettle (s : State) : State :=
  if s.r DBG_STS_STATE = 2 && s.cores.main.retired == s.cores.chk.retired then
    (s.w DBG_STS_STATE 3).modCores (fun c => { c with haltAt := s.nowU })
  else s

/-- The core ahead halts at an instruction boundary; the other runs on to the same retired count. -/
def State.haltMain (s : State) : State :=
  if s.dbgOpen && s.r DBG_STS_STATE == 1 then
    ((s.w DBG_STS_STATE 2).modCores (fun c => { c with stepping := false })).haltSettle
  else s

def State.dbgResume (s : State) (step : Bool) : State :=
  if s.halted then
    (s.w DBG_STS_STATE 1).modCores (fun c => { c with stepping := step, haltCyc := c.haltCyc + 2 * (s.nowU - c.haltAt) })
  else s

/-- OPEN (R362): a write of DBG_CTRL.OPEN. -/
def execDbgOpen (who : Agent) (value : Bool) (s : State) : Host.Outcome State Fault Refusal :=
  act s fun s => s.when (s.live .sys && (s.mayWrite who DBG_CTRL_OPEN)) fun s => s.writeDbgOpen who value

/-- HALT (R363). -/
def execDbgHalt (who : Agent) (s : State) : Host.Outcome State Fault Refusal :=
  act s fun s => s.when (s.mayWrite who DBG_CTRL_HALT) State.haltMain

/-- RESUME (R363). -/
def execDbgResume (who : Agent) (s : State) : Host.Outcome State Fault Refusal :=
  act s fun s => s.when (s.mayWrite who DBG_CTRL_RESUME) fun s => s.dbgResume false

/-- STEP (R363). -/
def execDbgStep (who : Agent) (s : State) : Host.Outcome State Fault Refusal :=
  act s fun s => s.when (s.mayWrite who DBG_CTRL_STEP) fun s => s.dbgResume true

/-- BREAKPOINT_HIT (R363): the main core stands at an enabled breakpoint with a session open. -/
def execDbgBreakpointHit (n : Fin 4) (s : State) : Host.Outcome State Fault Refusal :=
  act s fun s => s.when (s.b (DBG_BP_EN n.val) && s.cores.main.pc.toNat == 4 * s.r (DBG_BP_ADDR n.val)) State.haltMain

/-! Registers through the debugger (R364, R367). -/

/-- The selected register of a core; 0 where the selector names none. -/
def State.dbgReg (s : State) (isMain : Bool) : Word :=
  let c := s.core isMain
  let n := s.r DBG_REGSEL_SEL
  if n < 0x20 then c.gr n
  else if n < 0x40 then c.fr (n - 0x20)
  else if n = 0x40 then c.pc
  else if 0x400 ≤ n ∧ srValid (n - 0x400) = true then c.getSr (s.pendWord isMain) (n - 0x400)
  else 0

/-- A write of the selected register of a core. -/
def Core.dbgWrite (c : Core) (n : Nat) (v : Word) : Core :=
  if n < 0x20 then c.setG n v
  else if n < 0x40 then c.setF (n - 0x20) v
  else if n = 0x40 then { c with pc := BitVec.ofNat 32 (v.toNat / 4 * 4) }
  else if 0x400 ≤ n ∧ srValid (n - 0x400) = true then c.putSr true (n - 0x400) v
  else c

def State.writeRegdata (s : State) (v : Word) : State :=
  if s.halted then
    let n := s.r DBG_REGSEL_SEL
    s.modCores (fun c => { c with main := c.main.dbgWrite n v, chk := c.chk.dbgWrite n v })
  else s

/-- REGISTER_DATA (R364): a write of DBG_REGDATA. -/
def execDbgRegisterData (who : Agent) (value : Word) (s : State) : Host.Outcome State Fault Refusal :=
  act s fun s => s.when (s.mayWrite who DBG_REGDATA_DATA) fun s => s.writeRegdata value

end Sys2Proof.Machine
end

