-- ==== Sys2Proof/Machine/Bus.lean ====
section
/-!
DEFINITION. The memory map and the register windows as the interconnect's initiators see them (R10, R11, R310 to R312, R448):
what a word reads as, what a write of a word does field by field, and which accesses are bus errors.
-/
namespace Sys2Proof.Machine

open Reg

/-! The windows of the address map (R311, R312). -/

/-- The number of a window: its base minus 0x4000_0000 over 0x1000. -/
def winNo (a : Nat) : Nat := (a - 0x40000000) / 0x1000

/-- The switched domain of a window; CPM, HOI, FLT, THM, BST, ROL, CMP and DBG are in SYS, SAF and SSS in AON. -/
def winDomain (n : Nat) : Option Domain :=
  match n with
  | 2 => some .pwm | 3 => some .pwm
  | 4 => some .sense | 5 => some .sense | 6 => some .sense | 7 => some .sense
  | 8 => some .cle
  | 9 => some .impl | 0xA => some .impl
  | 0xB => some .hly
  | 0xC => none | 0xD => none
  | 0x11 => some .host | 0x12 => some .host
  | _ => some .sys

/-- The self-test block of a window that a test isolates (R437, R439). -/
def winBlock (n : Nat) : Option Nat :=
  match n with
  | 2 => some 9 | 3 => some 10 | 4 => some 5 | 5 => some 7 | 6 => some 6 | 7 => some 8 | 8 => some 4 | 9 => some 11
  | 0xA => some 12 | 0xB => some 13 | 0xF => some 16 | 0x11 => some 14 | 0x12 => some 15
  | _ => none

/-- A window answers: its domain is on and no test isolates its block. -/
def State.winLive (s : State) (n : Nat) : Bool :=
  (match winDomain n with | some d => s.live d | none => true)
    && (match winBlock n with | some k => !s.tested k | none => true)

/-- CLE local memory answers (R49, R439). -/
def State.cleMemLive (s : State) : Bool := s.live .cle && !s.tested 4

/-- An address has a target that answers; everything else is a bus error. -/
def State.answers (s : State) (a : Nat) : Bool :=
  match kindOf a with
  | .none => false
  | .window => s.winLive (winNo a)
  | .cle => s.cleMemLive
  | _ => true

def isSram (a : Nat) : Bool := decide (kindOf a = .sram) || decide (kindOf a = .sramK)

def isFlash (a : Nat) : Bool := decide (kindOf a = .flash)
def isCle (a : Nat) : Bool := decide (kindOf a = .cle)

/-! Reading registers. -/

def nat1 (b : Bool) : Nat := if b then 1 else 0

/-- The axis of a word of AXS, and the controller of a word of CAN. -/
def axisOf (a : Nat) : Nat := if a % 0x1000 < 0x200 then 0 else 1
def canOf (a : Nat) : Nat := (a - 0x40012000) / 0x800

/-- A field of a word, taken out of the word. -/
def fldOf (f : Fld) (w : Nat) : Nat := w / 2 ^ f.lo % 2 ^ f.width

/-- SSS_STS.PADS: PWMAH, PWMAL, PWMBH, PWMBL, PWMCH, PWMCL from the lowest bit. -/
def State.padLevels (s : State) : Nat :=
  let p := s.pins
  nat1 p.padA.hi + 2 * nat1 p.padA.lo + 4 * nat1 p.padB.hi + 8 * nat1 p.padB.lo + 16 * nat1 p.padC.hi + 32 * nat1 p.padC.lo

/-- The word that FLT_INFO shows of the selected fault (R421). -/
def State.fltInfo (s : State) : Nat :=
  let id := s.r FLT_SEL_ID
  let a := s.flt.active.find? (fun a => a.id == id)
  let cls := match a with | some a => a.cls | none => s.classOf id
  nat1 a.isSome + 2 * nat1 (s.inReaction id) + 4 * cls.code + 16 * s.occOf id
    + 65536 * ((a.map (fun a => a.detail)).getD 0 % 256)
    + 16777216 * nat1 (match a with | some a => s.clearable a | none => false)

/-- Words that show state held outside the register fields; `none` where the fields give the word. -/
def State.liveWord (s : State) (a : Nat) : Option Nat :=
  if a = CPM_AONTIME_AONTIME.addr then some (s.cpm.aon % 2 ^ 32)
  else if a = (AXS_SEGW0_T1 0).addr then some ((s.ax0.seg (s.r (AXS_SEGSEL_IDX 0))).t1)
  else if a = (AXS_SEGW0_T1 1).addr then some ((s.ax1.seg (s.r (AXS_SEGSEL_IDX 1))).t1)
  else if a = (AXS_SEGW1_P1 0).addr then some (bitsOf 32 (s.ax0.seg (s.r (AXS_SEGSEL_IDX 0))).p1)
  else if a = (AXS_SEGW1_P1 1).addr then some (bitsOf 32 (s.ax1.seg (s.r (AXS_SEGSEL_IDX 1))).p1)
  else if a = (AXS_SEGW2_V1 0).addr then
    let g := s.ax0.seg (s.r (AXS_SEGSEL_IDX 0))
    some (bitsOf 24 g.v1 + 2 ^ 24 * nat1 g.hold)
  else if a = (AXS_SEGW2_V1 1).addr then
    let g := s.ax1.seg (s.r (AXS_SEGSEL_IDX 1))
    some (bitsOf 24 g.v1 + 2 ^ 24 * nat1 g.hold)
  else if a = GDN_SECW0_ALONG.addr then some (s.r (secFld (s.r GDN_SECSEL_IDX) 0))
  else if a = GDN_SECW1_WIDTH.addr then some (s.r (secFld (s.r GDN_SECSEL_IDX) 1))
  else if a = GDN_SECW2_SEN.addr then some (s.r (secFld (s.r GDN_SECSEL_IDX) 2))
  else if a = GDN_SECST_SCHED.addr then
    let i := s.r GDN_SECSEL_IDX
    some (nat1 (s.gdn.sched.contains i) + 2 * nat1 (s.gdn.actual.contains i) + 4 * nat1 (s.gdn.demand.contains i)
      + 8 * nat1 (s.gdn.disabled.contains i))
  else if a = GDN_EPW0_KIND.addr then some (s.r (epFld (s.r GDN_EPSEL_IDX) 0))
  else if a = GDN_EPW1_ONPOS.addr then some (s.r (epFld (s.r GDN_EPSEL_IDX) 1))
  else if a = GDN_EPW2_OFFPOS.addr then some (s.r (epFld (s.r GDN_EPSEL_IDX) 2))
  else if a = GDN_EVFIFO_EP.addr then
    match s.gdn.fifo with
    | [] => some 512
    | (ep, on, ofs) :: _ => some (ep % 256 + 256 * nat1 on + 65536 * (ofs % 65536))
  else if a = POS_SENTSLOW_EMPTY.addr then
    match s.pos.slow with
    | [] => some (2 ^ 17)
    | (nib, q) :: _ => some (nib % 16 + 16 * (q % 256) + 4096 * slowLevel s.pos.slow.length)
  else if a = CLE_SPDATA_DATA.addr then
    some (s.r (spFld (s.r CLE_SPSEL_SP) (if s.b CLE_SPSEL_EXP then 8 else s.r CLE_SPSEL_LANE)))
  else if a = FLT_INFO_ACTIVE.addr then some s.fltInfo
  else if a = DBG_REGDATA_DATA.addr then some (if s.halted then (s.dbgReg true).toNat else 0)
  else none

/-- A field as a read shows it; write-only fields read 0 (R11). -/
def State.readField (s : State) (f : Fld) : Nat :=
  if f.acc = .wo then 0
  else if f = CPM_STATE_XSTALE then nat1 (s.r CPM_XSTALE_STALE != 0)
  else if f = CPM_DOMREQ_REQFIX then 7
  else if f = PWM_STS_SSSOVR then s.r SSS_STS_OVR
  else if f = HOI_STS_OPENL then s.openMask
  else if f = CLE_STS_PROG then (match s.cle.started with | i :: _ => i.prog | [] => 0)
  else if f = CLE_STS_BUSY then nat1 (!s.cle.started.isEmpty)
  else if f = GDN_STS_QLEVEL then s.gdn.queue.length
  else if f = SSS_STS_PADS then s.padLevels
  else if f = SSS_STS_TBUSY then nat1 (s.b SSS_STS_TBUSY || s.patternOn)
  else if f = SAF_OUT_LEVEL then nat1 (s.sfoDriven 0) + 2 * nat1 (s.sfoDriven 1)
  else if f = FLT_STS_QLEVEL then s.flt.queue.length + s.flt.preempted.length
  else if f = FLT_STS_PCLASS then (match s.flt.current with | some x => 4 + x.cls.code | none => 0)
  else if f = FLT_STS_HELD then
    nat1 (s.holdsClass .A) + 2 * nat1 (s.holdsClass .B) + 4 * nat1 (s.holdsClass .C) + 8 * nat1 (s.holdsClass .D)
  else if f = FLT_STS_NFLOW then nat1 s.nfaultLow
  else if f = DBG_STS_LOCKED then nat1 s.dbgLocked
  else if f = DBG_REGDATA_DATA then (if s.halted then (s.dbgReg true).toNat else 0)
  else if f = HSP_STS_LATEHELD then nat1 s.hsp.late.isSome
  else s.r f

/-- A register word; reserved bits and reserved offsets read 0 (R10, R310). -/
def State.readReg (s : State) (a : Nat) : Nat :=
  match s.liveWord a with
  | some w => w
  | none => (fieldsAt a).foldl (fun w f => w + s.readField f % 2 ^ f.width * 2 ^ f.lo) 0

/-- What reading a word removes (R164, R269). -/
def State.readEffect (s : State) (a : Nat) : State :=
  if a = GDN_EVFIFO_EP.addr then s.popEvfifo
  else if a = POS_SENTSLOW_EMPTY.addr then s.popSlow
  else s

/-! Writing registers (R11, R448). -/

/-- What became of the changes that a write attempted: some were taken, some were withheld for want of role or because the
field is the kernel's. -/
structure Judged where
  taken : Bool := false
  withheld : Bool := false
deriving DecidableEq, Repr

def Judged.and (x y : Judged) : Judged := ⟨x.taken || y.taken, x.withheld || y.withheld⟩

/-- Fields whose write stages a word that a later write stores: they have no shadow of their own. -/
def staged (f : Fld) : Bool :=
  [GDN_SECW0_ALONG, GDN_SECW1_WIDTH, GDN_EPW0_KIND, GDN_EPW1_ONPOS, GDN_FIXD_FIXD].any (fun g => f.addr == g.addr)

/-- A value attempts a change of a field. -/
def State.attempts (s : State) (f : Fld) (v : Nat) : Bool :=
  match f.acc with
  | .ro => false
  | .w1c => (v &&& s.r f) != 0
  | .wo => v != 0
  | .rw => v != s.readField f
  | .rws => if staged f then v != s.r f else v != s.shadowOf f

/-- Bunting's settings: a write while it runs is ignored (R209). -/
def buntingSetting (f : Fld) : Bool :=
  decide (CLE_BCTRL_ARM.addr ≤ f.addr) && decide (f.addr ≤ (CLE_BCAP_NODE 3).addr) && f.acc == .rw

/-- The kernel owns a field for its ISO 11783 client (R453). -/
def State.canReserved (s : State) (f : Fld) : Bool :=
  winNo f.addr == 0x12 && s.isoOwns (canOf f.addr) && canOwned (f.addr % 0x800)

/-- A bit of a status field that a write of 1 clears, with the fault that then clears by itself (R411); a write that clears no
bit does neither. -/
def State.writeOnes (s : State) (f : Fld) (v : Nat) : State :=
  let gone := v &&& s.r f
  let s := s.w f (s.r f - gone)
  if gone = 0 then s else s.flagCleared f gone

/-- A command of SSS_CMD by its code (R368); other codes are refused. -/
def State.sssCode (s : State) (code : Nat) : State :=
  match code with
  | 1 => s.cmdArm | 2 => s.cmdDisarm | 3 => s.cmdStart | 4 => s.cmdStop | 5 => s.cmdSto | 6 => s.cmdReloff
  | 7 => s.cmdRelarm | 8 => s.cmdWindrel
  | _ => s.refuseCmd 1

/-- A write-only field takes a value: the command it stands for. -/
def State.writeCmd (s : State) (who : Agent) (f : Fld) (v : Nat) : State :=
  if v = 0 ∧ f ≠ SSS_CMD_CODE ∧ f ≠ POS_EPRE_PRE ∧ f ≠ AXS_TGT_TGT 0 ∧ f ≠ AXS_TGT_TGT 1 ∧ f ≠ AXS_POSSET_PRESET 0
      ∧ f ≠ AXS_POSSET_PRESET 1 then s
  else if f = CPM_RSTREQ_KEY then (if v = 0x5A then s.switchedReset .soft else s)
  else if f = HOI_OPEN_LEVEL then s.openSet (initiatorOf who) v
  else if f = HOI_COMMIT_LEVEL then s.commitSet (initiatorOf who) v
  else if f = PWM_TRIPCLR_CLR then s.tripClear v
  else if f = DIS_CTRL_REQ then s.disRequest
  else if f = DIS_CTRL_OPENCONF then s.disOpenconf
  else if f = SDX_CTRL_CAL then s.writeCal
  else if f = FCV_CTRL_START then s.writeFcvStart v
  else if f = POS_CTRL_RETPRI then s.writeRetpri
  else if f = POS_EPRE_PRE then s.writePreset v
  else if f = CLE_BCTRL_START then s.writeBStart
  else if f = CLE_BCTRL_STOP then s.writeBStop
  else if f = AXS_CTRL_GO 0 then s.axGo 0
  else if f = AXS_CTRL_GO 1 then s.axGo 1
  else if f = AXS_CTRL_STOP 0 then s.setAxis 0 { s.axis 0 with stopReq := true }
  else if f = AXS_CTRL_STOP 1 then s.setAxis 1 { s.axis 1 with stopReq := true }
  else if f = AXS_TGT_TGT 0 then s.axRetarget 0 (signedOf 32 v)
  else if f = AXS_TGT_TGT 1 then s.axRetarget 1 (signedOf 32 v)
  else if f = AXS_POSSET_PRESET 0 then s.axPreset 0 (signedOf 32 v)
  else if f = AXS_POSSET_PRESET 1 then s.axPreset 1 (signedOf 32 v)
  else if f = DBG_CTRL_HALT then s.haltMain
  else if f = DBG_CTRL_RESUME then s.dbgResume false
  else if f = DBG_CTRL_STEP then s.dbgResume true
  else if f = SSS_CMD_CODE then s.sssCode v
  else if f = SSS_TEST_TEST then s.when s.mayTest (fun s => s.startTest v)
  else if f = SAF_RESET_RST then s.safReset v s.cpm.aon
  else if f = THM_REEN_REEN then s.writeReen
  else if f = BST_REQ_MASK then s.bstAsk v (match who with | .host _ => true | _ => false)
  else if f = CAN_TXREQ_REQ 0 then s.writeTxreq who 0 v
  else if f = CAN_TXREQ_REQ 1 then s.writeTxreq who 1 v
  else s

/-- A plain field takes a value. -/
def State.writePlain (s : State) (who : Agent) (f : Fld) (v : Nat) : State :=
  if buntingSetting f && (s.r CLE_BSTS_STATE == 1 || s.r CLE_BSTS_STATE == 2) then s
  else if f = CPM_DOMREQ_REQ then s.writeDomreq v
  else if f = CLE_CTRL_RUN then (if s.cpm.cleReload then s else s.writeCleRun (v != 0))
  else if f = CLE_CTRL_PEN then (if s.cpm.cleReload then s else s.writePen v)
  else if f = CLE_CTRL_CHKEN then (if s.cpm.cleReload then s else s.writeChken (v != 0))
  else if f = GDN_CTRL_MASTER then s.writeMaster (v != 0)
  else if f = SAF_OUT_ON then s.writeSafOn v
  else if f = CMP_DUPBASE_BASE then s.writeDupbase v
  else if f = CMP_DUPSIZE_SIZE then s.writeDupsize v
  else if f = DBG_CTRL_OPEN then s.writeDbgOpen who (v != 0)
  else if f = DBG_REGDATA_DATA then s.writeRegdata (BitVec.ofNat 32 v)
  else s.w f v

/-- A shadowed field takes a value; a staged one has no shadow of its own. -/
def State.writeShadow (s : State) (f : Fld) (v : Nat) : State :=
  if staged f then s.w f v
  else
    let s := if (limFields 0).contains f then s.axLimWrite 0 f v
      else if (limFields 1).contains f then s.axLimWrite 1 f v else s.rws f v
    if f = CAN_CTRL_EN 0 then s.canEnWritten 0 else if f = CAN_CTRL_EN 1 then s.canEnWritten 1 else s

/-- The crossings that a write of a field passes: SYS to CAN, and SYS to ARC with a wake time (R65, R67). -/
def crossedBy (f : Fld) : Nat :=
  if winNo f.addr = 0x12 then 0x020 else if f = CPM_TIMEREV_TIMEREV ∨ f = CPM_HDLN_HDLN then 0x200 else 0

/-- A field takes a value by its access code (DEDUCED, assumption 70). -/
def State.takeField (s : State) (who : Agent) (f : Fld) (v : Nat) : State :=
  let s := s.fresh (crossedBy f)
  match f.acc with
  | .ro => s
  | .w1c => if f = POS_STS_WIREFLT then s.writeWireflt v else s.writeOnes f v
  | .wo => if staged f then s.w f v else s.writeCmd who f v
  | .rw => s.writePlain who f v
  | .rws => s.writeShadow f v

def isHost : Agent → Bool
  | .host _ => true
  | _ => false

/-- A write to a field: a host leaves a field as it stands where it attempts no change (R448). -/
def State.writeField (s : State) (who : Agent) (f : Fld) (v : Nat) : State × Judged :=
  let tries := s.attempts f v
  if f.acc = .ro || (isHost who && !tries) then (s, {})
  else if who != .kernel && s.canReserved f then (if tries then s.ownErr (canOf f.addr) else s, ⟨false, tries⟩)
  else if !s.mayWrite who f then (s, ⟨false, tries⟩)
  else (s.takeField who f v, ⟨tries, false⟩)

/-- A write that acts as a whole word, by the role of one of its fields. -/
def State.whole (s : State) (who : Agent) (f : Fld) (go : State → State) : State × Judged :=
  if s.mayWrite who f then (go s, ⟨true, false⟩) else (s, ⟨false, true⟩)

/-- A write of FLT_CLR, its role judged by the faults it would clear (R409). -/
def State.writeFltClr (s : State) (who : Agent) (w : Nat) : State × Judged :=
  let low := fun (s : State) => s.flt.active.any (fun a => !mayClear (clearRole who) a.cls)
  if !s.reaches who FLT_CLR_ID then (s, ⟨false, true⟩)
  else if fldOf FLT_CLR_ALL w = 1 then
    let s' := s.clearAll who
    (s', ⟨!low s' || decide (s'.flt.active.length < s.flt.active.length), low s'⟩)
  else
    let id := fldOf FLT_CLR_ID w
    let held := s.flt.active.any (fun a => a.id == id && !mayClear (clearRole who) a.cls)
    if held then (s, ⟨false, true⟩) else (s.faultClear who id, ⟨true, false⟩)

/-- The fields of a word with its commands last, so that a command acts on what its own word sets. -/
def inOrder (l : List Fld) : List Fld := l.filter (fun f => f.acc != .wo) ++ l.filter (fun f => f.acc == .wo)

/-- A write of a register word (R448): whole where the word is a command or stores an entry, else field by field. -/
def State.writeReg (s : State) (who : Agent) (a w : Nat) : State × Judged :=
  if a = HOI_FRAME_CARP.addr then
    if isHost who && (fieldsAt a).all (fun f => !s.attempts f (fldOf f w)) then (s, {})
    else s.whole who HOI_FRAME_CARP (fun s => s.writeFrame w)
  else if a = CLE_SPDATA_DATA.addr then s.whole who CLE_SPDATA_DATA (fun s => s.writeSpdata (w % 2 ^ 24))
  else if a = CLE_SPDATAG_DATA.addr then
    s.whole who CLE_SPDATAG_DATA (fun s => s.writeSpdatag (w % 2 ^ 24) (fldOf CLE_SPDATAG_LANE w) (fldOf CLE_SPDATAG_EXP w == 1))
  else if a = (AXS_SEGW2_V1 0).addr then s.whole who (AXS_SEGW2_V1 0) (fun s => s.axSegWrite 0 (w % 2 ^ 24) (bit w 24))
  else if a = (AXS_SEGW2_V1 1).addr then s.whole who (AXS_SEGW2_V1 1) (fun s => s.axSegWrite 1 (w % 2 ^ 24) (bit w 24))
  else if a = GDN_SECW2_SEN.addr then s.whole who GDN_SECW2_SEN (fun s => s.writeSection w)
  else if a = GDN_EPW2_OFFPOS.addr then s.whole who GDN_EPW2_OFFPOS (fun s => s.writeEndpoint w)
  else if a = GDN_FIXT_PPSSEQ.addr then s.whole who GDN_FIXT_PPSSEQ (fun s => s.submitFix w)
  else if a = FLT_CLR_ID.addr then s.writeFltClr who w
  else
    let s' := (inOrder (fieldsAt a)).foldl (fun (x : State × Judged) f =>
      let y := x.1.writeField who f (fldOf f w)
      (y.1, x.2.and y.2)) (s, {})
    if within a (CLE_BNODE_ADDR 0).addr 32 then (s'.1.checkNode ((a - (CLE_BNODE_ADDR 0).addr) / 4), s'.2) else s'

/-- A word of a window, message buffers included. -/
def State.readWin (s : State) (a : Nat) : Nat :=
  if winNo a = 0x12 && within (a % 0x800) 0x100 1728 then s.readLE a 4 else s.readReg a

/-- A write of a word of a window, DBG_MEMDATA apart. -/
def State.winWrite (s : State) (who : Agent) (a w : Nat) : State × Judged :=
  if winNo a = 0x12 && within (a % 0x800) 0x100 1728 then (s.writeCanBuf who (canOf a) (a % 0x800 - 0x100) w, ⟨true, false⟩)
  else s.writeReg who a w

/-! Accesses of the initiators. -/

/-- What a memory access that the target answers finds in a word's SECDED (R210, R316, R322): the faults of an uncorrectable
error, or nothing. -/
def State.secded (s : State) (a : Nat) : Option (State → State) :=
  let w := a / 4 * 4
  match kindOf a with
  | .cle =>
    if s.cle.badWords.contains w then
      some (fun s => (if w < 0x30004000 then s.w CLE_ECC_UEP 1 else s.w CLE_ECC_UED 1).raise Fid.cleMemory)
    else none
  | .flash =>
    if s.cores.badWords.any (fun b => b / 16 == a / 16) then some (fun s => s.raise Fid.flashUncorrectable) else none
  | .otp => if s.cores.badWords.contains w then some (fun s => s) else none
  | .rom => if s.cores.badWords.contains w then some (fun s => s) else none
  | .sram => if s.cores.badWords.contains w then some (fun s => s.raise Fid.sramUncorrectable) else none
  | .sramK => if s.cores.badWords.contains w then some (fun s => s.raise Fid.sramUncorrectable) else none
  | _ => none

/-- What the kernel's flash holds beside the boot records, as numbers: the committed items, the sequence numbers of the
journal's records, the key versions and the challenge counter (R459 to R465). -/
def Kernel.stored (k : Kernel) : List Nat :=
  k.params.flatMap (fun p => [p.1, p.2.toNat]) ++ [k.nextSeq, k.verI, k.verM, k.challenge] ++ k.journal.map JRecord.seq

/-- A word of flash: the image slots and the boot records are memory, the kernel's other stores have a layout of their own
(R311) (DESIGN CHOICE, assumption 50). -/
def State.flashWord (s : State) (w : Nat) : Nat :=
  if w < 0x10380000 ∨ within w 0x103E0000 0x4000 then s.readLE w 4 else Config.storeWord w s.kern.stored % 2 ^ 32

/-- A read met a turned bit in SRAM: the bank writes the corrected word back, whoever reads (R322). -/
def State.wroteBack (s : State) (a : Nat) : State :=
  { s with cores := { s.cores with softWords := s.cores.softWords.filter (fun b => !(isSram a && b == a / 4 * 4)) } }

/-- A word as the interconnect returns it, DBG_MEMDATA apart: `none` is a bus error. `pops` says whether the read has its side
effect (R350). -/
def State.busReadAt (s : State) (a : Nat) (pops : Bool) : Option Nat × State :=
  if !s.answers a then (none, s)
  else match s.secded a with
    | some f => (none, f s)
    | none =>
      let w := a / 4 * 4
      match kindOf a with
      | .window => (some (s.readWin w), if pops then s.readEffect w else s)
      | .rom => (some (Config.rom w % 2 ^ 32), s)
      | .flash => (some (s.flashWord w), s)
      | .cle => (some (s.readLE w 4), s.cleCorrect [w])
      | _ => (some (s.readLE w 4), s.wroteBack a)

/-- A core's write into program memory inside the range of an enabled program is dropped (R205). -/
def State.cleGuarded (s : State) (a : Nat) : Bool :=
  decide (a < cleProgAddr 4096) && (List.range 8).any (fun p => bit (s.r CLE_CTRL_PEN) p
    && within (a / 4 * 4) (cleProgAddr (s.r (CLE_PCFG_ENTRY p))) (4 * (s.r (CLE_PCFG_LENM1 p) + 1)))

/-- A read of the word, or of its flash unit, corrects a turned bit (R322). -/
def State.turned (s : State) (a : Nat) : Bool :=
  s.cores.softWords.any (fun b => if isFlash a then b / 16 == a / 16 else b == a / 4 * 4) || s.cle.softWords.contains (a / 4 * 4)

/-- An access of a core met a turned bit: counted in its SR_ECCCNT.CORR, and SRAM has the corrected word written back (R322)
(DEDUCED, assumption 126). -/
def State.corrected (s : State) (isMain : Bool) (a : Nat) : State :=
  let c := s.core isMain
  let n := c.ecccnt.toNat
  (s.setCore isMain { c with ecccnt := BitVec.ofNat 32 (if n % 65536 < 65535 then n + 1 else n) }).wroteBack a

/-- A core's access to a word that may hold a turned bit. -/
def State.seesWord (s : State) (isMain : Bool) (a : Nat) : State := if s.turned a then s.corrected isMain a else s

/-- `n` bytes into memory; a whole word replaces one that held an error, and a part of one corrects a turned bit. -/
def State.memWrite (s : State) (a v n : Nat) : State :=
  let s := s.writeLE a v n
  let s := { s with cores := { s.cores with softWords := s.cores.softWords.filter (fun b => b != a / 4 * 4) } }
  if n = 4 then
    { s with cores := { s.cores with badWords := s.cores.badWords.filter (fun b => b != a) }
             cle := { s.cle with badWords := s.cle.badWords.filter (fun b => b != a)
                                 softWords := s.cle.softWords.filter (fun b => b != a) } }
  else s.cleCorrect [a / 4 * 4]

/-- Bytes into SRAM; a part of a word that holds an uncorrectable error is not written, and the fault is raised (R322, R327). -/
def State.sramWrite (s : State) (a v n : Nat) : State × Bool :=
  match (if n < 4 then s.secded a else none) with
  | some f => (f s, false)
  | none => (s.memWrite a v n, true)

/-- A write of `n` bytes that no protection denies, DBG_MEMDATA apart: `false` is a bus error. Windows take words only (R312);
ROM, OTP and flash take no store. -/
def State.busWriteAt (s : State) (who : Agent) (a v n : Nat) : State × Bool :=
  if !s.answers a then (s, false)
  else match kindOf a with
    | .window => if n = 4 then ((s.winWrite who a v).1, true) else (s, false)
    | .cle => if s.cleGuarded a then (s.w CLE_STS_WPERR 1, true) else (s.memWrite a v n, true)
    | .sram => s.sramWrite a v n
    | .sramK => s.sramWrite a v n
    | _ => (s, false)

/-! The debugger's access to memory (R364, R367). -/

/-- A word at DBG_MEMADDR, read through the halted main core's port, whose count a corrected bit enters (R322). -/
def State.dbgGet (s : State) (pops : Bool) : Option Nat × State :=
  let a := s.r DBG_MEMADDR_ADDR / 4 * 4
  let (w, s') := s.busReadAt a pops
  (w, if pops && s.turned a then s'.corrected true a else s')

/-- A word written at DBG_MEMADDR, and at the checker's alias. A guarded register takes no plain write (R346). -/
def State.dbgPut (s : State) (v : Nat) : State :=
  let a := s.r DBG_MEMADDR_ADDR / 4 * 4
  if !s.halted || (kindOf a == .window && guardedAt a) then s
  else
    let s' := (s.busWriteAt .program a v 4).1
    if s.inDup a then s'.memWrite (a + s.dupSize) v 4 else s'

/-- The address is that of DBG_MEMDATA. -/
def isMemdata (a : Nat) : Bool := a / 4 * 4 == DBG_MEMDATA_DATA.addr

/-- A write of a word of a window. DBG_MEMDATA takes one while the cores are halted (R367). -/
def State.writeWin (s : State) (who : Agent) (a w : Nat) : State × Judged :=
  if isMemdata a then s.whole who DBG_MEMDATA_DATA (fun s => s.dbgPut w) else s.winWrite who a w

/-- A word as the interconnect returns it: `none` is a bus error. DBG_MEMDATA reads the word at DBG_MEMADDR while the cores are
halted, and 0 else (R367) (DEDUCED, assumption 139). -/
def State.busRead (s : State) (a : Nat) (pops : Bool) : Option Nat × State :=
  if isMemdata a && s.answers a then (if s.halted then s.dbgGet pops else (some 0, s)) else s.busReadAt a pops

/-- A write of `n` bytes that no protection denies: `false` is a bus error. -/
def State.busWrite (s : State) (who : Agent) (a v n : Nat) : State × Bool :=
  if isMemdata a && s.answers a then (if n = 4 then ((s.writeWin who a v).1, true) else (s, false)) else s.busWriteAt who a v n

/-- REGISTER_WRITE (R11): a word written to a register that has no row of its own for the effect. A core's plain write of a
guarded register is GSW's alone (R346): the word stands for the write that CMP has passed. -/
def execRegisterWrite (who : Agent) (addr value : Word) (s : State) : Host.Outcome State Fault Refusal :=
  act s fun s =>
    let a := addr.toNat
    s.when (kindOf a == .window && a % 4 == 0 && s.answers a) fun s => (s.writeWin who a value.toNat).1

/-- MEMORY_DATA (R364): a debugger's word access at DBG_MEMADDR through the halted main core: a read, or a write that is
repeated at the checker's alias. A guarded register takes no plain write (R346). -/
def State.dbgMemory (s : State) (value : Option Word) : State :=
  match value with
  | some v => s.dbgPut v.toNat
  | none =>
    if !s.halted then s
    else
      let (w, s) := s.dbgGet true
      s.w DBG_MEMDATA_DATA (w.getD 0)

def execDbgMemoryData (who : Agent) (value : Option Word) (s : State) : Host.Outcome State Fault Refusal :=
  act s fun s => s.when (s.mayWrite who DBG_MEMDATA_DATA) fun s => s.dbgMemory value

/-- The memories outside the CLE that carry SECDED (R322). -/
def carriesSecded (a : Nat) : Bool := isSram a || isFlash a || kindOf a == .otp || kindOf a == .rom

/-- PATROL_SCRUB (R322): a word of SRAM is read, and corrected when one bit has turned. `arisen` holds the words of SRAM, ROM,
flash, OTP and CLE memory in which an uncorrectable error has arisen since the last command, and those in which one bit has
turned (R210); `corrected` says that one bit of this word has (DEDUCED, assumption 126). -/
def execPatrolScrub (addr : Word) (corrected : Bool) (arisen : Upsets) (s : State) : Host.Outcome State Fault Refusal :=
  act s fun s =>
    let a := addr.toNat / 4 * 4
    let new : List Nat := arisen.words.map (fun w => w.toNat / 4 * 4)
    let soft : List Nat := arisen.singles.map (fun w => w.toNat / 4 * 4)
    let s := { s with
      cores := { s.cores with badWords := s.cores.badWords ++ new.filter (fun (w : Nat) =>
        carriesSecded w && !s.cores.badWords.contains w),
                              softWords := s.cores.softWords ++ soft.filter (fun (w : Nat) =>
        carriesSecded w && !s.cores.softWords.contains w && !s.cores.badWords.contains w) }
      cle := { s.cle with badWords := s.cle.badWords ++ new.filter (fun (w : Nat) =>
        isCle w && !s.cle.badWords.contains w),
                          softWords := s.cle.softWords ++ soft.filter (fun (w : Nat) =>
        isCle w && !s.cle.softWords.contains w && !s.cle.badWords.contains w) } }
    s.when (s.live .sys && isSram a) fun s =>
      if s.cores.badWords.contains a then s.raise Fid.sramUncorrectable
      else if corrected || s.cores.softWords.contains a then
        let bump := fun (c : Core) =>
          let n := c.ecccnt.toNat
          { c with ecccnt := BitVec.ofNat 32 (if n / 65536 < 65535 then n + 65536 else n) }
        s.modCores (fun c => { c with main := bump c.main, chk := bump c.chk, softWords := c.softWords.filter (· != a) })
      else s

end Sys2Proof.Machine
end

