-- ==== Sys2Proof/Machine/CoreExec.lean ====
section
/-!
DEFINITION. How a core runs one instruction (R313, R331, R346 to R348, R350, R353, R355 to R359, R363): the conditions under which
it issues, the protection of its accesses, its loads and stores, and what it hands to CMP.
-/
namespace Sys2Proof.Machine

open Reg

/-! Protection (R313). -/

inductive Acc where
  | fetch | load | store
deriving DecidableEq, Repr

/-- PRESUMED, assumption 125. -/
def accBit : Acc → Nat
  | .load => 0 | .store => 1 | .fetch => 2

/-- A kernel region matches: the kernel area, OTP, ROM and the key sector (R313, R465). -/
def kernelRegion (a : Nat) : Bool :=
  match kindOf a with
  | .rom => true | .otp => true | .sramK => true
  | _ => within a 0x103E4000 0x2000

/-- A region contains an access of `n` bytes. -/
def Region.holds (r : Region) (a n : Nat) : Bool :=
  r.attr.getLsbD 0 && decide (r.base.toNat ≤ a) && decide (a + n ≤ r.lim.toNat + 32)

/-- The highest-numbered enabled region that contains an access. -/
def Core.regionFor (c : Core) (a n : Nat) : Option Region :=
  (List.range 16).foldl (fun b i => if (c.region i).holds a n then some (c.region i) else b) none

/-- The Execute and Write columns of R311 for S with no region matching; "by region" permits (PRESUMED, assumption 125). -/
def openTo (k : Acc) (a : Nat) : Bool :=
  match k, kindOf a with
  | .load, _ => true
  | .fetch, .sram => true
  | .fetch, .none => true
  | .fetch, _ => false
  | .store, .flash => false
  | .store, _ => true

/-- An access is denied, and whether a kernel region decided it. -/
def Core.denied (c : Core) (k : Acc) (a n : Nat) : Option Bool :=
  match c.mode with
  | .k => none
  | m =>
    if kernelRegion a then some true
    else match c.regionFor a n with
      | some r =>
        let x := accBit k
        if (if m = .s then r.attr.getLsbD (4 + x) else !r.attr.getLsbD (1 + x)) then some false else none
      | none => if m = .s && openTo k a then none else some false

/-- An access waits: at or above 0x2001_0000 during the reload of R77 (R313), and in either range of the region while it is copied
(R351). -/
def State.waits (s : State) (a : Nat) : Bool :=
  (s.cpm.codeReload && decide (0x20010000 ≤ a)) || (s.b CMP_STS_COPYBUSY && s.inEither a)

/-! Issue. -/

/-- The cores run instructions: their domains are on, the device in RUN, and the kernel has handed over or runs the boot. -/
def State.coresRun (s : State) : Bool :=
  s.live .cm && s.live .ck && s.cpm.dev == .run && s.cpm.phase != .inReset

/-- The debugger holds a core: both in HALTED, and in HALTING the one that is not behind the other (R363). -/
def State.dbgHolds (s : State) (isMain : Bool) : Bool :=
  let st := s.r DBG_STS_STATE
  st == 3 || (st == 2 && decide ((s.core (!isMain)).retired ≤ (s.core isMain).retired))

/-- In replay the checker stays behind the main core, and takes the main core's next interrupt before its next instruction. -/
def State.replayFirst (s : State) : Bool :=
  s.cores.inReplay && (decide (s.cores.main.retired ≤ s.cores.chk.retired)
    || (match s.cores.replay with | (_, n) :: _ => n == s.cores.chk.retired | [] => false))

/-- WAIT still stops a core: it has seen no line pending (R338). -/
def State.stopped (s : State) (isMain : Bool) : Bool :=
  (s.core isMain).waiting && !s.lineSeen isMain (if isMain then s.pins.lineMain else s.pins.lineChk)

/-- A core may issue: not locked up, not waiting for a line, not held by the debugger. -/
def State.issues (s : State) (isMain : Bool) : Bool :=
  s.coresRun && !(s.core isMain).locked && !s.stopped isMain && !s.dbgHolds isMain && (isMain || !s.replayFirst)

/-- After an instruction that completed: the retired count, a step that is done, and a halt that is reached (R363). -/
def State.retire (s : State) (isMain : Bool) : State :=
  let c := s.core isMain
  let s := s.setCore isMain { c with retired := c.retired + 1 }
  let s := if isMain && s.cores.stepping then s.haltMain else s
  s.haltSettle

/-- The instruction completes with the core's new registers; pc moves to the next one. -/
def State.complete (s : State) (isMain : Bool) (c : Core) : State :=
  (s.setCore isMain { c with pc := c.pc + 4 }).retire isMain

/-- The instruction jumps. -/
def State.jump (s : State) (isMain : Bool) (c : Core) (pc : Word) : State :=
  (s.setCore isMain { c with pc := pc }).retire isMain

/-- An exception whose SR_TPC is the instruction itself (R347). -/
def State.fail (s : State) (isMain : Bool) (code : Nat) (tval : Word) (kernelDecided : Bool := false) : State :=
  s.exception isMain code (s.core isMain).pc tval kernelDecided

/-- A bus error of an address that nothing answers is also "Interconnect access error" (R327). -/
def State.noAnswer (s : State) (isMain : Bool) (a : Nat) : State :=
  if s.answers a then s else s.raise Fid.accessError (if isMain then 0 else 1)

/-- A core that WAIT had stopped goes on: what it waited for is forgotten (R338). -/
def State.goesOn (s : State) (isMain : Bool) : State :=
  let s := s.setCore isMain { s.core isMain with waiting := false }
  { s with pins := { s.pins with lineMain := s.pins.lineMain && !isMain, lineChk := s.pins.lineChk && isMain } }

/-- One instruction (R348): the fetch first, its protection and its bus error, then what the instruction does. A fetch that
waits under R77 has not issued (DESIGN CHOICE, assumption 7, DEDUCED, assumption 127). -/
def State.instr (s : State) (isMain : Bool) (body : Core → State → State) : State :=
  if !s.issues isMain then s
  else
    let s := s.goesOn isMain
    let c := s.core isMain
    let a := c.pc.toNat
    if s.waits a then s
    else match c.denied .fetch a 4 with
      | some k => s.fail isMain 4 c.pc k
      | none =>
        let p := s.redirect isMain a
        if !s.answers p then (s.noAnswer isMain p).fail isMain 7 c.pc
        else match s.secded p with
          | some f => (f s).fail isMain 7 c.pc
          | none =>
            let s := s.seesWord isMain p
            body (s.core isMain) s

/-! Latched values (R353). -/

/-- A read-only field that the block chapters state is latched or published at a boundary (DEDUCED, assumption 69). -/
def published (f : Fld) : Bool :=
  let w := winNo f.addr
  f.acc == .ro && (f.addr == HOI_TICKCNT_TICKCNT.addr || f.addr == HOI_POS_HALF.addr || w == 7
    || hallKey f.key
    || f.addr == SSS_ENSIGN_ENSIGN.addr || f.addr == AXS_HTIME_HTIME.addr
    || f.addr == GDN_DIST_DIST.addr || f.addr == GDN_SPEED_SPEED.addr
    || (decide ((SDX_RES_VALUE 3).addr ≤ f.addr) && decide (f.addr ≤ (SDX_RES_VALUE 5).addr))
    || (w == 8 && decide ((CLE_MBOX_M 0 0).addr ≤ f.addr)))

/-- A key holds a value that a core's view keeps: the active bank of an RWS field, or a published field. -/
def viewKey (k : Nat) : Bool :=
  match fieldOf k with
  | some f => f.acc == .rws || published f
  | none => false

/-- The state as a core sees it through its view (DEDUCED, assumption 69). -/
def State.viewed (s : State) (isMain : Bool) : State :=
  match (s.core isMain).view with
  | none => s.withHall
  | some v =>
    let now := s.regs.filter (fun e => !viewKey e.1)
    { s with regs := (v.regs.filter (fun e => viewKey e.1)).foldl (fun l e => sparseInsert l e.1 e.2) now }

/-! Loads and stores (R334, R350). -/

/-- What a load gives: it waits, it raises an exception, or it gives the aligned word. -/
inductive Loaded where
  | wait
  | fault (code : Nat) (byKernel : Bool) (s : State)
  | word (w : Nat) (s : State)

/-- The word a load of the checker core replays: the main core's, once it has loaded it (R363). -/
def State.replayLoad (s : State) (isMain : Bool) : Option (Option Word) :=
  let i := s.cores.chk.retired
  if isMain || !s.cores.inReplay then none
  else match s.cores.log.find? (fun e => e.1 == i) with
    | some e => some (some e.2)
    | none => if s.cores.main.retired ≤ i then some none else none

/-- A load of `n` bytes at an address by a core: the causes in the order of R348, the region's redirection, the view, and the
log of an open debug session. -/
def State.loadWord (s : State) (isMain : Bool) (a n : Nat) : Loaded :=
  if a % n ≠ 0 then .fault 3 false s
  else if s.waits a then .wait
  else match (s.core isMain).denied .load a n with
    | some k => .fault 5 k s
    | none =>
      let p := s.redirect isMain a
      let logs := s.cores.inReplay && !s.inDup a
      if logs && isMain && decide (64 ≤ s.cores.log.length) then .wait
      else match (if logs then s.replayLoad isMain else none) with
        | some none => .wait
        | some (some w) =>
          .word w.toNat (s.modCores (fun c => { c with log := c.log.filter (fun e => e.1 != s.cores.chk.retired) }))
        | none =>
          let seen := if kindOf p == .window then ((s.viewed isMain).busRead p isMain).1 else none
          match s.busRead p isMain with
          | (none, s) => .fault 8 false (s.noAnswer isMain p)
          | (some w, s') =>
            let s := if s.turned p then s'.corrected isMain p else s'
            let w := seen.getD w
            .word w (if logs && isMain then
                s.modCores (fun c => { c with log := c.log ++ [(c.main.retired, BitVec.ofNat 32 w)] })
              else s)

/-- A load instruction: the byte lane, the width and sign, and the register written. -/
def State.load (s : State) (isMain : Bool) (a n : Nat) (put : Core → Nat → Core) : State :=
  match s.loadWord isMain a n with
  | .wait => s
  | .fault code k s' => s'.fail isMain code (BitVec.ofNat 32 a) k
  | .word w s' => s'.complete isMain (put (s'.core isMain) (w / 2 ^ (8 * (a % 4)) % 2 ^ (8 * n)))

/-- A store of less than a word reads the word it is part of (R322). -/
def State.partSeen (s : State) (isMain : Bool) (a n : Nat) : State :=
  if n < 4 && (isSram a || (isCle a && s.answers a)) then s.seesWord isMain a else s

/-- The writer that a core is: the kernel in K, else the program. -/
def Core.agent (c : Core) : Agent := if c.mode = .k then .kernel else .program

/-- A store instruction (R334, R346, R348, R350) (DEDUCED, assumption 128). -/
def State.store (s : State) (isMain : Bool) (a v n : Nat) : State :=
  let c := s.core isMain
  let t := BitVec.ofNat 32 a
  if a % n ≠ 0 then s.fail isMain 3 t
  else if s.waits a then s
  else match c.denied .store a n with
    | some k => s.fail isMain 6 t k
    | none =>
      if kindOf a == .window && guardedAt (a / 4 * 4) then s.fail isMain 0xF t
      else if !isMain then
        let p := s.redirect isMain a
        if p = a then s.complete isMain c
        else match (if n < 4 then s.secded p else none) with
          | some f => (f s).fail isMain 9 t
          | none =>
            let s := (s.partSeen isMain p n).memWrite p v n
            s.complete isMain (s.core isMain)
      else
        let (s', ok) := (s.partSeen isMain a n).busWrite c.agent a v n
        if ok then s'.complete isMain (s'.core isMain)
        else (if (s.secded a).isSome then s' else s'.raise Fid.accessError 0).fail isMain 9 t

/-! CMP (R356 to R359). -/

/-- The separation of two posts, in SYS cycles. -/
def gap (x y : Post) : Nat := max (x.cyc - y.cyc) (y.cyc - x.cyc)

/-- The timeouts of R357 and R358 run: they stand still while the cores are halted (R362). -/
def State.late (s : State) (n : Nat) : Bool := decide (2000 < n) && !s.halted

/-- The heads of the two queues of guarded writes, when both are there. -/
def State.pairGsw (s : State) : State :=
  match s.cores.main.gsw, s.cores.chk.gsw with
  | x :: m, y :: k =>
    let s := s.modCores (fun c => { c with main := { c.main with gsw := m }, chk := { c.chk with gsw := k } })
    let s := s.noteLag (gap x y)
    if s.late (gap x y) then s.cmpFail 3 Fid.compareTimeout x.addr x.value.toNat 0
    else if x.addr ≠ y.addr then s.cmpFail 2 Fid.compareMismatch x.addr x.value.toNat y.value.toNat
    else if x.value ≠ y.value then s.cmpFail 1 Fid.compareMismatch x.addr x.value.toNat y.value.toNat
    else if s.b CMP_STS_MIS then s
    else (s.bump CMP_CNT_GPASS).busWrite s.cores.main.agent x.addr x.value.toNat 4 |>.1
  | _, _ => s

/-- The heads of the two queues of Pennants. A matched 0x7F0 pair is a heartbeat, until the first mismatch (R359). -/
def State.pairPennant (s : State) : State :=
  match s.cores.main.pennants, s.cores.chk.pennants with
  | x :: m, y :: k =>
    let s := s.modCores (fun c => { c with main := { c.main with pennants := m }, chk := { c.chk with pennants := k } })
    let s := s.noteLag (gap x y)
    if s.late (gap x y) then s.cmpFail 5 Fid.compareTimeout x.addr x.value.toNat 0
    else if x.addr ≠ y.addr ∨ x.value ≠ y.value then s.cmpFail 4 Fid.pennantMismatch x.addr x.value.toNat y.value.toNat
    else if x.addr = 0x7F0 && !s.cores.mute && !s.halted then s.beat 0
    else s
  | _, _ => s

/-- A core posts a Pennant; `none` when its queue is full. The partner of one that a timeout discarded goes with it (R361). -/
def State.postPennant (s : State) (isMain : Bool) (id : Nat) (digest : Word) (cyc : Nat) : Option State :=
  let c := s.core isMain
  if 16 ≤ c.pennants.length then none
  else if 0 < c.dropPennants then some (s.setCore isMain { c with dropPennants := c.dropPennants - 1 })
  else some (s.setCore isMain { c with pennants := c.pennants ++ [⟨id, digest, cyc⟩] }).pairPennant

/-- The instant of a command in SYS cycles since SYS was first clocked, those in which the cores were halted left out: the timeouts
stand still meanwhile (R362); `t` counts cycles after the last tick boundary. -/
def State.cycAt (s : State) (t : Nat) : Nat := 2 * s.hoi.base + t - s.cores.haltCyc

/-- GSW (R345, R346, R356): the address and the value go to CMP; a full queue stalls; the partner of a post that a timeout
discarded goes with it (R361). -/
def State.guarded (s : State) (isMain : Bool) (t a : Nat) (v : Word) : State :=
  let c := s.core isMain
  let tv := BitVec.ofNat 32 a
  if a % 4 ≠ 0 then s.fail isMain 3 tv
  else if s.waits a then s
  else match c.denied .store a 4 with
    | some k => s.fail isMain 6 tv k
    | none =>
      if !(kindOf a == .window && guardedAt a) then s.fail isMain 0xE tv
      else if !s.answers a then (s.noAnswer isMain a).fail isMain 9 tv
      else if 8 ≤ c.gsw.length then s.bumpSat CMP_CNT_STALLG
      else if 0 < c.dropGsw then s.complete isMain { c with dropGsw := c.dropGsw - 1 }
      else
        let s := s.complete isMain { c with gsw := c.gsw ++ [⟨a, v, s.cycAt t⟩] }
        s.pairGsw

/-- A core's oldest guarded write is given up, and the other core's with it when it comes (R361). -/
def State.giveUpGsw (s : State) (isMain : Bool) : State :=
  let s := s.setCore isMain { s.core isMain with gsw := (s.core isMain).gsw.drop 1 }
  s.setCore (!isMain) { s.core (!isMain) with dropGsw := (s.core (!isMain)).dropGsw + 1 }

/-- A core's oldest Pennant is given up, and the other core's with it when it comes (R361). -/
def State.giveUpPennant (s : State) (isMain : Bool) : State :=
  let s := s.setCore isMain { s.core isMain with pennants := (s.core isMain).pennants.drop 1 }
  s.setCore (!isMain) { s.core (!isMain) with dropPennants := (s.core (!isMain)).dropPennants + 1 }

/-- The post that has waited 2,000 SYS cycles for its second. -/
def latePost (cyc : Nat) (mine theirs : List Post) : Option Post :=
  match mine, theirs with
  | x :: _, [] => if x.cyc + 2000 ≤ cyc then some x else none
  | _, _ => none

/-- COMPARE_TIMEOUT (R357, R358, R361): a post has waited 2,000 SYS cycles for its second; the pair is discarded, the second when it
comes. -/
def State.compareLate (s : State) (cyc : Nat) : State :=
  let fail := fun (s : State) (kind : Nat) (x : Post) (main : Nat) => s.cmpFail kind Fid.compareTimeout x.addr main 0
  let m := s.cores.main
  let k := s.cores.chk
  if s.halted then s
  else match latePost cyc m.gsw k.gsw, latePost cyc k.gsw m.gsw, latePost cyc m.pennants k.pennants, latePost cyc k.pennants m.pennants with
    | some x, _, _, _ => fail (s.giveUpGsw true) 3 x x.value.toNat
    | none, some x, _, _ => fail (s.giveUpGsw false) 3 x 0
    | none, none, some x, _ => fail (s.giveUpPennant true) 5 x x.value.toNat
    | none, none, none, some x => fail (s.giveUpPennant false) 5 x 0
    | none, none, none, none => s

/-- COMPARE_TIMEOUT; `t` counts SYS cycles after the last tick boundary. -/
def execCompareTimeout (t : Nat) (s : State) : Host.Outcome State Fault Refusal :=
  act s fun s => s.when (s.live .sys) fun s => s.compareLate (s.cycAt t)

end Sys2Proof.Machine
end

