-- ==== Sys2Proof/Machine/Parart.lean ====
section
/-!
DEFINITION. The meaning of every Parart instruction (R333 to R345). `m` says which core executes it, the main core or the checker;
the operands are the fields of R330, and `t` counts SYS cycles after the last tick boundary.
-/
namespace Sys2Proof.Machine

open Reg

abbrev Out := Host.Outcome State Fault Refusal

/-! The shapes of instructions. -/

/-- An instruction of format A that writes rd from ra and rb. -/
def regOp (m : Bool) (rd ra rb : Fin 32) (op : Word → Word → Word) (s : State) : Out :=
  act s fun s => s.instr m fun c s => s.complete m (c.setG rd.val (op (c.gr ra.val) (c.gr rb.val)))

/-- An instruction that writes rd from ra and a constant. -/
def immOp (m : Bool) (rd ra : Fin 32) (k : Word) (op : Word → Word → Word) (s : State) : Out :=
  act s fun s => s.instr m fun c s => s.complete m (c.setG rd.val (op (c.gr ra.val) k))

/-- A conditional branch: the target is pc + 4 × offset (R332, R337). -/
def branchOp (m : Bool) (ra rb : Fin 32) (off : BitVec 16) (cond : Word → Word → Bool) (s : State) : Out :=
  act s fun s => s.instr m fun c s =>
    s.jump m c (if cond (c.gr ra.val) (c.gr rb.val) then c.pc + off.signExtend 32 * 4 else c.pc + 4)

/-- The effective address ra + imm (R334). -/
def effAddr (c : Core) (ra : Fin 32) (imm : BitVec 16) : Nat := (c.gr ra.val + imm.signExtend 32).toNat

/-- A load. -/
def loadOp (m : Bool) (ra : Fin 32) (imm : BitVec 16) (n : Nat) (put : Core → Nat → Core) (s : State) : Out :=
  act s fun s => s.instr m fun c s => s.load m (effAddr c ra imm) n put

/-- A store of the low `n` bytes of a register. -/
def storeOp (m : Bool) (ra : Fin 32) (imm : BitVec 16) (n : Nat) (get : Core → Word) (s : State) : Out :=
  act s fun s => s.instr m fun c s => s.store m (effAddr c ra imm) ((get c).toNat % 2 ^ (8 * n)) n

/-- A floating-point result with its flags: with T = 1 the flags are an exception and nothing is written (R342). -/
def fpDone (m t : Bool) (r : FRes) (put : Core → Word → Core) (c : Core) (s : State) : State :=
  if t && r.flags != 0 then s.fail m 0xC (BitVec.ofNat 32 r.flags)
  else s.complete m (put c (BitVec.ofNat 32 r.bits))

/-- An arithmetic instruction of format F on two operands. -/
def fpOp (m : Bool) (fd fa fb : Fin 32) (t : Bool) (op : F32 → F32 → FRes) (s : State) : Out :=
  act s fun s => s.instr m fun c s =>
    fpDone m t (op (F32.ofBits (c.fr fa.val).toNat) (F32.ofBits (c.fr fb.val).toNat)) (fun c v => c.setF fd.val v) c s

/-- A comparison: g(fd) := 1 or 0. -/
def fpCmp (m : Bool) (fd fa fb : Fin 32) (op : F32 → F32 → Bool) (s : State) : Out :=
  act s fun s => s.instr m fun c s =>
    s.complete m (c.setG fd.val (if op (F32.ofBits (c.fr fa.val).toNat) (F32.ofBits (c.fr fb.val).toNat) then 1 else 0))

/-- An instruction that S and K may run (R338) (DEDUCED, assumption 122). -/
def privOp (m : Bool) (s : State) (body : Core → State → State) : Out :=
  act s fun s => s.instr m fun c s => if c.mode = .u then s.fail m 2 c.tval else body c s

def boolWord (b : Bool) : Word := if b then 1 else 0
def ofInt (i : Int) : Word := BitVec.ofInt 32 i

/-! Integer group (R333). -/

def sll (a b : Word) : Word := a <<< (b.toNat % 32)
def srl (a b : Word) : Word := a >>> (b.toNat % 32)
def sra (a b : Word) : Word := a.sshiftRight (b.toNat % 32)
def addSat (a b : Word) : Word := ofInt (satI 32 (a.toInt + b.toInt))
def subSat (a b : Word) : Word := ofInt (satI 32 (a.toInt - b.toInt))
def mulh (a b : Word) : Word := ofInt ((a.toInt * b.toInt) / 2 ^ 32)
def mulhu (a b : Word) : Word := BitVec.ofNat 32 (a.toNat * b.toNat / 2 ^ 32)
def divS (a b : Word) : Word := if b = 0 then 0xFFFFFFFF else ofInt (a.toInt.tdiv b.toInt)
def divU (a b : Word) : Word := if b = 0 then 0xFFFFFFFF else BitVec.ofNat 32 (a.toNat / b.toNat)
def remS (a b : Word) : Word := if b = 0 then a else ofInt (a.toInt.tmod b.toInt)
def remU (a b : Word) : Word := if b = 0 then a else BitVec.ofNat 32 (a.toNat % b.toNat)
def ltS (a b : Word) : Bool := decide (a.toInt < b.toInt)
def ltU (a b : Word) : Bool := decide (a.toNat < b.toNat)
def minS (a b : Word) : Word := if ltS a b then a else b
def maxS (a b : Word) : Word := if ltS a b then b else a
def minU (a b : Word) : Word := if ltU a b then a else b
def maxU (a b : Word) : Word := if ltU a b then b else a

/-- ADD. -/
def execPaAdd (m : Bool) (rd ra rb : Fin 32) (s : State) : Out := regOp m rd ra rb (fun a b => a + b) s
/-- SUB. -/
def execPaSub (m : Bool) (rd ra rb : Fin 32) (s : State) : Out := regOp m rd ra rb (fun a b => a - b) s
/-- AND. -/
def execPaAnd (m : Bool) (rd ra rb : Fin 32) (s : State) : Out := regOp m rd ra rb (fun a b => a &&& b) s
/-- OR. -/
def execPaOr (m : Bool) (rd ra rb : Fin 32) (s : State) : Out := regOp m rd ra rb (fun a b => a ||| b) s
/-- XOR. -/
def execPaXor (m : Bool) (rd ra rb : Fin 32) (s : State) : Out := regOp m rd ra rb (fun a b => a ^^^ b) s
/-- SLL. -/
def execPaSll (m : Bool) (rd ra rb : Fin 32) (s : State) : Out := regOp m rd ra rb (sll) s
/-- SRL. -/
def execPaSrl (m : Bool) (rd ra rb : Fin 32) (s : State) : Out := regOp m rd ra rb (srl) s
/-- SRA. -/
def execPaSra (m : Bool) (rd ra rb : Fin 32) (s : State) : Out := regOp m rd ra rb (sra) s
/-- SLT. -/
def execPaSlt (m : Bool) (rd ra rb : Fin 32) (s : State) : Out := regOp m rd ra rb (fun a b => boolWord (ltS a b)) s
/-- SLTU. -/
def execPaSltu (m : Bool) (rd ra rb : Fin 32) (s : State) : Out := regOp m rd ra rb (fun a b => boolWord (ltU a b)) s
/-- MIN. -/
def execPaMin (m : Bool) (rd ra rb : Fin 32) (s : State) : Out := regOp m rd ra rb (minS) s
/-- MAX. -/
def execPaMax (m : Bool) (rd ra rb : Fin 32) (s : State) : Out := regOp m rd ra rb (maxS) s
/-- MINU. -/
def execPaMinu (m : Bool) (rd ra rb : Fin 32) (s : State) : Out := regOp m rd ra rb (minU) s
/-- MAXU. -/
def execPaMaxu (m : Bool) (rd ra rb : Fin 32) (s : State) : Out := regOp m rd ra rb (maxU) s
/-- ADDS. -/
def execPaAdds (m : Bool) (rd ra rb : Fin 32) (s : State) : Out := regOp m rd ra rb (addSat) s
/-- SUBS. -/
def execPaSubs (m : Bool) (rd ra rb : Fin 32) (s : State) : Out := regOp m rd ra rb (subSat) s
/-- ADDI. -/
def execPaAddi (m : Bool) (rd ra : Fin 32) (imm : BitVec 16) (s : State) : Out := immOp m rd ra (imm.signExtend 32) (fun a k => a + k) s
/-- ANDI. -/
def execPaAndi (m : Bool) (rd ra : Fin 32) (imm : BitVec 16) (s : State) : Out := immOp m rd ra (imm.zeroExtend 32) (fun a k => a &&& k) s
/-- ORI. -/
def execPaOri (m : Bool) (rd ra : Fin 32) (imm : BitVec 16) (s : State) : Out := immOp m rd ra (imm.zeroExtend 32) (fun a k => a ||| k) s
/-- XORI. -/
def execPaXori (m : Bool) (rd ra : Fin 32) (imm : BitVec 16) (s : State) : Out := immOp m rd ra (imm.zeroExtend 32) (fun a k => a ^^^ k) s
/-- SLTI. -/
def execPaSlti (m : Bool) (rd ra : Fin 32) (imm : BitVec 16) (s : State) : Out := immOp m rd ra (imm.signExtend 32) (fun a k => boolWord (ltS a k)) s
/-- SLTIU. -/
def execPaSltiu (m : Bool) (rd ra : Fin 32) (imm : BitVec 16) (s : State) : Out := immOp m rd ra (imm.signExtend 32) (fun a k => boolWord (ltU a k)) s
/-- LUI. -/
def execPaLui (m : Bool) (rd : Fin 32) (imm : BitVec 16) (s : State) : Out := immOp m rd 0 (imm.zeroExtend 32 <<< 16) (fun _ k => k) s
/-- SLLI: the shift amount is the rb field. -/
def execPaSlli (m : Bool) (rd ra : Fin 32) (sh : BitVec 5) (s : State) : Out := immOp m rd ra (sh.zeroExtend 32) sll s
/-- SRLI: the shift amount is the rb field. -/
def execPaSrli (m : Bool) (rd ra : Fin 32) (sh : BitVec 5) (s : State) : Out := immOp m rd ra (sh.zeroExtend 32) srl s
/-- SRAI: the shift amount is the rb field. -/
def execPaSrai (m : Bool) (rd ra : Fin 32) (sh : BitVec 5) (s : State) : Out := immOp m rd ra (sh.zeroExtend 32) sra s
/-- MUL. -/
def execPaMul (m : Bool) (rd ra rb : Fin 32) (s : State) : Out := regOp m rd ra rb (fun a b => a * b) s
/-- MULH. -/
def execPaMulh (m : Bool) (rd ra rb : Fin 32) (s : State) : Out := regOp m rd ra rb (mulh) s
/-- MULHU. -/
def execPaMulhu (m : Bool) (rd ra rb : Fin 32) (s : State) : Out := regOp m rd ra rb (mulhu) s
/-- DIV. -/
def execPaDiv (m : Bool) (rd ra rb : Fin 32) (s : State) : Out := regOp m rd ra rb (divS) s
/-- DIVU. -/
def execPaDivu (m : Bool) (rd ra rb : Fin 32) (s : State) : Out := regOp m rd ra rb (divU) s
/-- REM. -/
def execPaRem (m : Bool) (rd ra rb : Fin 32) (s : State) : Out := regOp m rd ra rb (remS) s
/-- REMU. -/
def execPaRemu (m : Bool) (rd ra rb : Fin 32) (s : State) : Out := regOp m rd ra rb (remU) s

/-! Loads and stores (R334, R345). -/

/-- LB. -/
def execPaLb (m : Bool) (rd ra : Fin 32) (imm : BitVec 16) (s : State) : Out := loadOp m ra imm 1 (fun c v => c.setG rd.val (ofInt (signedOf 8 v))) s
/-- LBU. -/
def execPaLbu (m : Bool) (rd ra : Fin 32) (imm : BitVec 16) (s : State) : Out := loadOp m ra imm 1 (fun c v => c.setG rd.val (BitVec.ofNat 32 v)) s
/-- LH. -/
def execPaLh (m : Bool) (rd ra : Fin 32) (imm : BitVec 16) (s : State) : Out := loadOp m ra imm 2 (fun c v => c.setG rd.val (ofInt (signedOf 16 v))) s
/-- LHU. -/
def execPaLhu (m : Bool) (rd ra : Fin 32) (imm : BitVec 16) (s : State) : Out := loadOp m ra imm 2 (fun c v => c.setG rd.val (BitVec.ofNat 32 v)) s
/-- LW. -/
def execPaLw (m : Bool) (rd ra : Fin 32) (imm : BitVec 16) (s : State) : Out := loadOp m ra imm 4 (fun c v => c.setG rd.val (BitVec.ofNat 32 v)) s
/-- FLW. -/
def execPaFlw (m : Bool) (rd ra : Fin 32) (imm : BitVec 16) (s : State) : Out := loadOp m ra imm 4 (fun c v => c.setF rd.val (BitVec.ofNat 32 v)) s
/-- SB. -/
def execPaSb (m : Bool) (rs ra : Fin 32) (imm : BitVec 16) (s : State) : Out := storeOp m ra imm 1 (fun c => c.gr rs.val) s
/-- SH. -/
def execPaSh (m : Bool) (rs ra : Fin 32) (imm : BitVec 16) (s : State) : Out := storeOp m ra imm 2 (fun c => c.gr rs.val) s
/-- SW. -/
def execPaSw (m : Bool) (rs ra : Fin 32) (imm : BitVec 16) (s : State) : Out := storeOp m ra imm 4 (fun c => c.gr rs.val) s
/-- FSW. -/
def execPaFsw (m : Bool) (rs ra : Fin 32) (imm : BitVec 16) (s : State) : Out := storeOp m ra imm 4 (fun c => c.fr rs.val) s
/-- GSW. -/
def execPaGsw (t : Nat) (m : Bool) (rs ra : Fin 32) (imm : BitVec 16) (s : State) : Out :=
  act s fun s => s.instr m fun c s => s.guarded m t (effAddr c ra imm) (c.gr rs.val)

/-! Branches and jumps (R337). -/

/-- BEQ. -/
def execPaBeq (m : Bool) (ra rb : Fin 32) (off : BitVec 16) (s : State) : Out := branchOp m ra rb off (fun a b => a == b) s
/-- BNE. -/
def execPaBne (m : Bool) (ra rb : Fin 32) (off : BitVec 16) (s : State) : Out := branchOp m ra rb off (fun a b => a != b) s
/-- BLT. -/
def execPaBlt (m : Bool) (ra rb : Fin 32) (off : BitVec 16) (s : State) : Out := branchOp m ra rb off (ltS) s
/-- BGE. -/
def execPaBge (m : Bool) (ra rb : Fin 32) (off : BitVec 16) (s : State) : Out := branchOp m ra rb off (fun a b => !ltS a b) s
/-- BLTU. -/
def execPaBltu (m : Bool) (ra rb : Fin 32) (off : BitVec 16) (s : State) : Out := branchOp m ra rb off (ltU) s
/-- BGEU. -/
def execPaBgeu (m : Bool) (ra rb : Fin 32) (off : BitVec 16) (s : State) : Out := branchOp m ra rb off (fun a b => !ltU a b) s
/-- JAL. -/
def execPaJal (m : Bool) (off : BitVec 26) (s : State) : Out :=
  act s fun s => s.instr m fun c s => s.jump m (c.setG 31 (c.pc + 4)) (c.pc + off.signExtend 32 * 4)
/-- JALR: a target that is no multiple of 4 is cause 0x3. -/
def execPaJalr (m : Bool) (rd ra : Fin 32) (imm : BitVec 16) (s : State) : Out :=
  act s fun s => s.instr m fun c s =>
    let t := c.gr ra.val + imm.signExtend 32
    if t.toNat % 4 ≠ 0 then s.fail m 3 t else s.jump m (c.setG rd.val (c.pc + 4)) t

/-! System instructions (R338 to R340). -/

/-- KCALL: cause 0xA, SR_TVAL := g4, SR_TPC the next instruction. -/
def execPaKcall (m : Bool) (s : State) : Out :=
  act s fun s => s.instr m fun c s => s.exception m 0xA (c.pc + 4) (c.gr 4)
/-- TRET. -/
def execPaTret (m : Bool) (s : State) : Out := privOp m s fun c s => (s.setCore m c.ret).retire m
/-- BRK: cause 0xB, or with a debug session open a halt of the main core (R363) (DEDUCED, assumption 131). -/
def execPaBrk (m : Bool) (s : State) : Out :=
  act s fun s => s.instr m fun c s =>
    if s.dbgOpen then (if m then s.haltMain else s.haltSettle) else s.fail m 0xB c.pc
/-- FENCE: no transaction of this model outlasts its instruction (DEDUCED, assumption 127). -/
def execPaFence (m : Bool) (s : State) : Out := act s fun s => s.instr m fun c s => s.complete m c
/-- WAIT: in K; stops fetching until a line is pending. -/
def execPaWait (m : Bool) (s : State) : Out :=
  act s fun s => s.instr m fun c s =>
    if c.mode ≠ .k then s.fail m 2 c.tval else s.complete m { c with waiting := s.pendWord m == 0 }
/-- GETSR: an sr that names no system register is an illegal instruction (R331); a read of SR_TVAL is the report of an
interconnect access error (R327). -/
def execPaGetsr (m : Bool) (rd : Fin 32) (sr : BitVec 11) (s : State) : Out :=
  act s fun s => s.instr m fun c s =>
    if !srValid sr.toNat then s.fail m 1 c.tval
    else if c.mode = .u then s.fail m 2 c.tval
    else
      let s := s.complete m (c.setG rd.val (c.getSr (s.pendWord m) sr.toNat))
      if sr.toNat = 4 then s.autoClear Fid.accessError (if m then 0 else 1) else s
/-- PUTSR. -/
def execPaPutsr (m : Bool) (ra : Fin 32) (sr : BitVec 11) (s : State) : Out :=
  act s fun s => s.instr m fun c s =>
    if !srValid sr.toNat then s.fail m 1 c.tval
    else if c.mode = .u then s.fail m 2 c.tval
    else s.complete m (c.putSr (c.mode = .k) sr.toNat (c.gr ra.val))

/-! Floating point (R341, R342). -/

/-- FADD. -/
def execPaFadd (m : Bool) (fd fa fb : Fin 32) (rm : Fin 4) (t : Bool) (s : State) : Out := fpOp m fd fa fb t (f32Add rm.val) s
/-- FSUB. -/
def execPaFsub (m : Bool) (fd fa fb : Fin 32) (rm : Fin 4) (t : Bool) (s : State) : Out := fpOp m fd fa fb t (fun a b => f32Add rm.val a b.neg) s
/-- FMUL. -/
def execPaFmul (m : Bool) (fd fa fb : Fin 32) (rm : Fin 4) (t : Bool) (s : State) : Out := fpOp m fd fa fb t (f32Mul rm.val) s
/-- FDIV. -/
def execPaFdiv (m : Bool) (fd fa fb : Fin 32) (rm : Fin 4) (t : Bool) (s : State) : Out := fpOp m fd fa fb t (f32Div rm.val) s
/-- FSQRT. -/
def execPaFsqrt (m : Bool) (fd fa : Fin 32) (rm : Fin 4) (t : Bool) (s : State) : Out := fpOp m fd fa fa t (fun a _ => f32Sqrt rm.val a) s
/-- FMIN. -/
def execPaFmin (m : Bool) (fd fa fb : Fin 32) (s : State) : Out :=
  act s fun s => s.instr m fun c s =>
    s.complete m (c.setF fd.val (BitVec.ofNat 32 (f32MinMax false (c.fr fa.val).toNat (c.fr fb.val).toNat)))
/-- FMAX. -/
def execPaFmax (m : Bool) (fd fa fb : Fin 32) (s : State) : Out :=
  act s fun s => s.instr m fun c s =>
    s.complete m (c.setF fd.val (BitVec.ofNat 32 (f32MinMax true (c.fr fa.val).toNat (c.fr fb.val).toNat)))
/-- FNEG. -/
def execPaFneg (m : Bool) (fd fa : Fin 32) (s : State) : Out :=
  act s fun s => s.instr m fun c s => s.complete m (c.setF fd.val (BitVec.ofNat 32 (f32Neg (c.fr fa.val).toNat)))
/-- FABS. -/
def execPaFabs (m : Bool) (fd fa : Fin 32) (s : State) : Out :=
  act s fun s => s.instr m fun c s => s.complete m (c.setF fd.val (BitVec.ofNat 32 (f32Abs (c.fr fa.val).toNat)))
/-- FEQ. -/
def execPaFeq (m : Bool) (fd fa fb : Fin 32) (s : State) : Out := fpCmp m fd fa fb (F32.eqv) s
/-- FLT. -/
def execPaFlt (m : Bool) (fd fa fb : Fin 32) (s : State) : Out := fpCmp m fd fa fb (F32.lt) s
/-- FLE. -/
def execPaFle (m : Bool) (fd fa fb : Fin 32) (s : State) : Out := fpCmp m fd fa fb (fun a b => a.lt b || a.eqv b) s
/-- FCVTWS. -/
def execPaFcvtws (m : Bool) (fd fa : Fin 32) (rm : Fin 4) (t : Bool) (s : State) : Out :=
  act s fun s => s.instr m fun c s =>
    fpDone m t (f32ToInt rm.val (F32.ofBits (c.fr fa.val).toNat)) (fun c v => c.setG fd.val v) c s
/-- FCVTSW. -/
def execPaFcvtsw (m : Bool) (fd fa : Fin 32) (rm : Fin 4) (t : Bool) (s : State) : Out :=
  act s fun s => s.instr m fun c s =>
    fpDone m t (f32OfInt rm.val (c.gr fa.val).toInt) (fun c v => c.setF fd.val v) c s
/-- FMVXW. -/
def execPaFmvxw (m : Bool) (fd fa : Fin 32) (s : State) : Out :=
  act s fun s => s.instr m fun c s => s.complete m (c.setG fd.val (c.fr fa.val))
/-- FMVWX. -/
def execPaFmvwx (m : Bool) (fd fa : Fin 32) (s : State) : Out :=
  act s fun s => s.instr m fun c s => s.complete m (c.setF fd.val (c.gr fa.val))
/-- FMA. -/
def execPaFma (m : Bool) (fd fa fb fc : Fin 32) (rm : Fin 4) (t minus : Bool) (s : State) : Out :=
  act s fun s => s.instr m fun c s =>
    fpDone m t (f32Fma rm.val minus (F32.ofBits (c.fr fa.val).toNat) (F32.ofBits (c.fr fb.val).toNat)
      (F32.ofBits (c.fr fc.val).toNat)) (fun c v => c.setF fd.val v) c s

/-! Checkpoints (R343, R344, R358). -/

/-- The registers a mask names, ascending. -/
def named (mask : Word) : List Nat := (List.range 32).filter (fun n => mask.getLsbD n)

/-- The digest of R343 over an id, the two masks and the named registers (PRESUMED, assumption 130). -/
def Core.digest (c : Core) (id : Nat) (gm fm : Word) : Word :=
  let bytes := leBytes id 2 ++ leBytes gm.toNat 4 ++ leBytes fm.toNat 4
    ++ (named gm).flatMap (fun n => leBytes (c.gr n).toNat 4) ++ (named fm).flatMap (fun n => leBytes (c.fr n).toNat 4)
  BitVec.ofNat 32 (crc32 bytes)

/-- Z = 1: registers that the masks do not name become 0. -/
def Core.scrub (c : Core) (gm fm : Word) : Core :=
  let c := (List.range 32).foldl (fun (c : Core) n => if gm.getLsbD n then c else c.setG n 0) c
  (List.range 32).foldl (fun (c : Core) n => if fm.getLsbD n then c else c.setF n 0) c

/-- CKPT. -/
def execPaCkpt (t : Nat) (m z : Bool) (ga fm : Fin 32) (id : BitVec 11) (s : State) : Out :=
  act s fun s => s.instr m fun c s =>
    if c.mode = .u then s.fail m 2 c.tval
    else if 0x7F0 ≤ id.toNat ∧ c.mode ≠ .k then s.fail m 0xD (id.zeroExtend 32)
    else
      let gm := c.gr ga.val &&& 0xFFFFFFFE
      let fmask := c.gr fm.val
      match s.postPennant m id.toNat (c.digest id.toNat gm fmask) (s.cycAt t) with
      | none => s.bumpSat CMP_CNT_STALLP
      | some s' =>
        let c := s'.core m
        s'.complete m (if z then c.scrub gm fmask else c)

/-- ILLEGAL_INSTRUCTION (R331): cause 0x1 (DEDUCED, assumption 122). -/
def execIllegalInstruction (m : Bool) (s : State) : Out := act s fun s => s.instr m fun c s => s.fail m 1 c.tval

end Sys2Proof.Machine
end

