-- ==== Sys2Proof/Machine/Images.lean ====
section
/-!
DEFINITION. OTP, program images and boot control records (R74 to R80, R84): what the kernel reads in them, the checks of
an image, and the slot records.
-/
namespace Sys2Proof.Machine

open Reg

/-! OTP (R84). -/

/-- The first twelve bytes of the die identity. -/
def State.dieId (s : State) : List Byte := s.bytes 0x08000000 12

/-- The majority of three bits. -/
def majority (a b c : Bool) : Bool := (a && b) || (a && c) || (b && c)

/-- Key `k` is revoked: bits [3:0] in three copies, here of one byte each (DEDUCED, assumption 51). -/
def State.keyRevoked (s : State) (k : Nat) : Bool :=
  let bitOf := fun (n : Nat) => (s.byte (0x08001080 + n)).getLsbD k
  majority (bitOf 0) (bitOf 1) (bitOf 2)

/-- Thermometer bit `k` of the rollback counter (DEDUCED, assumption 51). -/
def State.rollbackBit (s : State) (k : Nat) : Bool :=
  let bitOf := fun (n : Nat) => (s.byte (0x08001090 + 8 * n + k / 8)).getLsbD (k % 8)
  majority (bitOf 0) (bitOf 1) (bitOf 2)

/-- The rollback counter: the thermometer bits that are burnt. -/
def State.rollback (s : State) : Nat := (List.range 64).countP s.rollbackBit

/-- Thermometer bits are burnt one at a time until the counter reaches a version. -/
def State.burnRollback (s : State) (v : Nat) : State :=
  let s := (List.range v).foldl (fun s k =>
    [0, 1, 2].foldl (fun s n =>
      let a := 0x08001090 + 8 * n + k / 8
      s.setByte a (s.byte a ||| BitVec.ofNat 8 (2 ^ (k % 8)))) s) s
  s.w CPM_BOOTSTAT_ROLLBACK s.rollback

/-! Images (R74, R75). -/

def slotSize : Nat := 1835008

/-- The address of slot A (false) or B (true). -/
def slotBase (b : Bool) : Nat := if b then 0x101C0000 else 0x10000000

/-- The header fields that later rules use. -/
structure ImageHeader where
  minStep : Nat
  keyIdx : Nat
  secver : Nat
  flags : Nat
  imgLen : Nat
  codeAddr : Nat
  codeLen : Nat
  clePLen : Nat
  cleDLen : Nat
  dataLen : Nat
  entry : Nat
  version : Nat
  trialT : Nat
deriving DecidableEq, Repr

/-- The header of a slot. -/
def State.header (s : State) (b : Bool) : ImageHeader :=
  let a := slotBase b
  { minStep := s.readLE (a + 0x08) 1, keyIdx := s.readLE (a + 0x09) 1, secver := s.readLE (a + 0x0A) 1
    flags := s.readLE (a + 0x0B) 1, imgLen := s.readLE (a + 0x0C) 4, codeAddr := s.readLE (a + 0x10) 4
    codeLen := s.readLE (a + 0x14) 4, clePLen := s.readLE (a + 0x18) 4, cleDLen := s.readLE (a + 0x1C) 4
    dataLen := s.readLE (a + 0x20) 4, entry := s.readLE (a + 0x24) 4, version := s.readLE (a + 0x28) 4
    trialT := s.readLE (a + 0x2C) 2 }

/-- MAGIC, FMT, DEVID, MINSTEP, SECVER and the rules of R74 and R75 on lengths and places. -/
def State.headerOk (s : State) (b : Bool) : Bool :=
  let a := slotBase b
  let h := s.header b
  (s.readLE a 4 == 0x4D494454 && s.readLE (a + 0x04) 2 == 1 && s.readLE (a + 0x06) 2 == 0x7144)
  && (decide (h.minStep ≤ Config.step) && decide (h.keyIdx < 4) && decide (h.secver < 64) && decide (s.rollback ≤ h.secver))
  && (decide (h.imgLen ≤ slotSize) && decide (h.codeLen ≤ 524288) && decide (h.clePLen ≤ 16384)
    && decide (h.cleDLen ≤ 49152) && decide (256 + h.codeLen + h.dataLen + h.clePLen + h.cleDLen = h.imgLen))
  && (decide (h.codeAddr % 16 = 0) && decide (0x20010000 ≤ h.codeAddr)
    && decide (h.codeAddr + h.codeLen + h.dataLen ≤ 0x20100000)
    && decide (h.codeAddr ≤ h.entry) && decide (h.entry < h.codeAddr + h.codeLen))

/-- A 256-bit number of the header, like all its fields little-endian (R74). -/
def State.bigAt (s : State) (a : Nat) : Nat := s.readLE a 32

/-- The signer: its key stands in OTP and is not revoked. -/
def State.signerOk (s : State) (b : Bool) : Bool :=
  let a := slotBase b
  let k := s.readLE (a + 0x09) 1
  decide (k < 4) && !s.keyRevoked k && sha256 (s.bytes (a + 0x60) 64) == s.bytes (0x08001000 + 32 * k) 32

/-- DIGEST matches and SIG verifies, on a key that lies on the curve. -/
def State.signatureOk (s : State) (b : Bool) : Bool :=
  let a := slotBase b
  let x := s.bigAt (a + 0x60)
  let y := s.bigAt (a + 0x80)
  sha256 (s.bytes (a + 0x100) ((s.header b).imgLen - 256)) == s.bytes (a + 0x40) 32 && onCurve x y
    && ecdsaOk x y (s.bigAt (a + 0xA0)) (s.bigAt (a + 0xC0)) (sha256 (s.bytes a 0xA0))

/-- A unit of the slot's image holds an uncorrectable error (R83, R322). -/
def State.slotWorn (s : State) (b : Bool) : Bool :=
  s.cores.badWords.any (fun x => within (x / 16 * 16) (slotBase b) (max 256 (s.header b).imgLen))

/-- The image of a slot was read: an uncorrectable error in it is a fault (R327). -/
def State.noteWorn (s : State) (b : Bool) : State := if s.slotWorn b then s.raise Fid.flashUncorrectable else s

/-- Every check of R75, on an image that reads without an uncorrectable error (R327). -/
def State.imageOk (s : State) (b : Bool) : Bool := (s.headerOk b && (s.signerOk b && s.signatureOk b)) && !s.slotWorn b

/-- Copy bytes within memory. -/
def State.copyBytes (s : State) (dst src n : Nat) : State := s.writeBytes dst (s.bytes src n)

/-- The CLE sections of a slot into CLE local memory (R49, R74). -/
def State.loadCle (s : State) (b : Bool) : State :=
  let h := s.header b
  let a := slotBase b + 256 + h.codeLen + h.dataLen
  (s.copyBytes 0x30000000 a h.clePLen).copyBytes 0x30004000 (a + h.clePLen) h.cleDLen

/-- The code and data of a slot into SRAM (R72, R77). -/
def State.loadCode (s : State) (b : Bool) : State :=
  let h := s.header b
  s.copyBytes h.codeAddr (slotBase b + 256) (h.codeLen + h.dataLen)

/-- The booted slot. -/
def State.bootSlot (s : State) : Bool := s.b CPM_BOOTSTAT_SLOT

end Sys2Proof.Machine
end

