-- ==== Sys2Proof/Machine/Roles.lean ====
section
/-!
DEFINITION. Roles, sessions and what they leave in the journal (R454 to R458, R462), and the parameter store (R459 to R461,
R501).
-/
namespace Sys2Proof.Machine

open Reg

/-! Sessions (R455). -/

/-- SESTO, in ms (PRESUMED, assumption 43). -/
def State.sestoMs (s : State) : Nat := 1000 * s.param 0x0800 300

/-- ROL_SES1 to ROL_SES4 follow the sessions. -/
def State.sessRegs (s : State) : State :=
  (List.range 4).foldl (fun s i =>
    let n := i + 1
    match s.kern.sessions.find? (fun x => x.n == n) with
    | some x =>
      let node := match x.chan with | .node a => a | _ => 0
      (((s.w (ROL_SES_ROLE n) (roleRank x.role)).w (ROL_SES_CHAN n) (chanCode x.chan)).w (ROL_SES_NODE n) node).w
        (ROL_SES_IDLE n) (min 65535 (ceilDiv (s.sestoMs - x.idleMs) 1000))
    | none => (((s.w (ROL_SES_ROLE n) 0).w (ROL_SES_CHAN n) 0).w (ROL_SES_NODE n) 0).w (ROL_SES_IDLE n) 0) s

/-- ROL_LOCK follows the refusals. -/
def State.lockRegs (s : State) : State :=
  (s.w ROL_LOCK_LOCKI (ceilDiv s.kern.lockI 1000)).w ROL_LOCK_LOCKM (ceilDiv s.kern.lockM 1000)

/-- The role that a requester's session gives: session 0 is the Installer for the program and the Operator for every other
channel; a session of another channel, or none, gives no role. -/
def State.sessRole (s : State) (who : Chan) (n : Nat) : Option Role :=
  if n = 0 then some (if who = .program then .installer else .operator)
  else match s.kern.sessions.find? (fun x => x.n == n && x.chan == who) with
    | some x => some x.role
    | none => none

/-- A request on a session begins its idle time anew. -/
def State.touch (s : State) (n : Nat) : State :=
  (s.modKern (fun k => { k with sessions := k.sessions.map (fun x => if x.n == n then { x with idleMs := 0 } else x) })).sessRegs

/-! Folded records of register writes and refusals (R462). -/

/-- The journal record of a fold. -/
def State.journalFold (s : State) (x : Fold) : State :=
  s.journalled (roleByte x.role x.chan x.sess) 0x7F06 x.refusal (leBytes x.addr 4 ++ leBytes x.old.toNat 4)
    (leBytes x.addr 4 ++ leBytes x.new.toNat 4)

/-- Note a write (refusal 0) or a refusal of a register: one record per register and session each second, a write's with
its last value, a refusal's with the first value attempted. -/
def State.noteFold (s : State) (x : Fold) : State :=
  let same := fun (y : Fold) => y.addr == x.addr && y.sess == x.sess && y.chan == x.chan && ((y.refusal == 0) == (x.refusal == 0))
  if s.kern.folds.any same then
    if x.refusal = 0 then
      s.modKern (fun k => { k with folds := k.folds.map (fun y => if same y then { y with new := x.new } else y) })
    else s
  else s.modKern (fun k => { k with folds := k.folds ++ [x] })

/-- Folds that some condition picks are journalled and end. -/
def State.flushFolds (s : State) (p : Fold → Bool) : State :=
  let l := s.kern.folds.filter p
  l.foldl State.journalFold (s.modKern (fun k => { k with folds := k.folds.filter (fun x => !p x) }))

/-- A session is dropped (R455): its folds are journalled, the host is told of one of its own (R449), and no later session of its
number confirms the block it committed (R461). -/
def State.dropSess (s : State) (n : Nat) : State :=
  let s := s.flushFolds (fun x => x.sess == n)
  let s := if s.live .host && s.kern.sessions.any (fun x => x.n == n && x.chan == .host) then s.setBit HSP_IRQ_EVT 4 else s
  let s := s.modKern (fun k => { k with
    sessions := k.sessions.filter (fun x => x.n != n)
    block := k.block.map (fun p => if p.sess = n then { p with sess := 0 } else p) })
  s.sessRegs

/-- Every session is dropped. -/
def State.dropAllSess (s : State) : State := [1, 2, 3, 4].foldl State.dropSess s

/-- SESSION_TIMEOUT (R455): SESTO without a request on a session. -/
def execSessionTimeout (n : Fin 5) (s : State) : Host.Outcome State Fault Refusal :=
  act s fun s => s.when (s.kern.sessions.any (fun x => x.n == n.val && decide (s.sestoMs ≤ x.idleMs))) fun s => s.dropSess n.val

/-! Role keys and challenges (R456 to R458, R465). -/

def State.keyOf (s : State) (r : Role) : List Byte := if r = .maker then s.kern.keyM else s.kern.keyI
def State.lockOf (s : State) (r : Role) : Nat := if r = .maker then s.kern.lockM else s.kern.lockI
def State.failsOf (s : State) (r : Role) : Nat := if r = .maker then s.kern.failM else s.kern.failI

/-- The role of a code of R457. -/
def roleOfCode (n : Nat) : Option Role := if n = 2 then some .installer else if n = 3 then some .maker else none

/-- The refusal that a count of consecutive failures begins, in ms. -/
def lockMs (n : Nat) : Nat := if n < 3 then 0 else if 12 ≤ n then 3600000 else min 3600000 (10000 * 2 ^ (n - 3))

def State.setFails (s : State) (r : Role) (n lock : Nat) : State :=
  (s.modKern (fun k => if r = .maker then { k with failM := n, lockM := lock } else { k with failI := n, lockI := lock })).lockRegs

/-- A failed response is counted; from the third in a row on, challenges for the role are refused for a while. -/
def State.noteFail (s : State) (r : Role) : State :=
  let n := s.failsOf r + 1
  let s := s.setFails r n (lockMs n)
  if 3 ≤ n then s.raise Fid.authLockout (roleRank r) else s

/-- The nonce for a counter: the first 16 bytes of SHA-256 over the die identity and the counter. -/
def State.nonceOf (s : State) (counter : Nat) : List Byte := (sha256 (s.dieId ++ leBytes counter 8)).take 16

/-- The tag that a response must carry (R457). -/
def State.tagFor (s : State) (x : Nonce) : List Byte :=
  let node := match x.chan with | .node a => a | _ => 0
  cmac32 (s.keyOf x.role) (x.bytes ++ leBytes (roleRank x.role) 1 ++ leBytes (chanCode x.chan) 1 ++ leBytes node 2 ++ s.dieId)

/-! The parameter store (R459 to R461). -/

/-- The group of an item. -/
def groupOf (item : Nat) : Nat := item / 256 % 128

/-- Items that need the Maker within their Installer group (R240). -/
def makerItem (item : Nat) : Bool := [0x0108, 0x0110, 0x0113, 0x0114, 0x0115].contains item

/-- The least role for an item (R454); none for the kernel's own. -/
def itemRole (item : Nat) : Option Role :=
  match groupOf item with
  | 1 => some (if makerItem item then .maker else .installer)
  | 2 => some .maker
  | 3 => some .maker
  | 4 => some .installer
  | 5 => some .installer
  | 6 => some .installer
  | 7 => some .maker
  | 8 => some .maker
  | _ => none

/-- Whole amperes of IMAX over n, rounded toward zero (DEDUCED, assumption 184). -/
def State.imaxOver (s : State) (n : Nat) : Nat := (s.imax.divNat n).floor.toNat

/-- The default of an item that nothing has written (R240, R395, R459): ID_MIN is −IMAX, ISGN_DB and HALL0 are 2 % of it. -/
def State.itemDefault (s : State) (item : Nat) : Nat :=
  let field := [64, 10, 20, 64, 30, 3, 100, 200, 3, 10] ++ [100, 300, 150, 200, 40, 1000, 3, 500, 5000, 200]
    ++ [90, 1024, 973, 20000]
  let safety := [0x42480000, 20, 0x41F00000, 8, 64, 0x41200000, 4, 0, 0, 0] ++ [0, 0, 0, 0]
  let ss1 := [0x42480000, 0x41C80000, 0x41200000, 0x3F800000, 24, 1]
  if 0x0100 ≤ item ∧ item < 0x0118 then field.getD (item - 0x0100) 0
  else if item = 0x0118 then (BitVec.ofInt 32 (-(s.imaxOver 1 : Int))).toNat
  else if item = 0x0119 then s.imaxOver 50
  else if item = 0x011A then 2000
  else if item = 0x030E then (f32Round 0 false (s.imax.divNat 50).num.toNat (s.imax.divNat 50).den 0).1
  else if 0x0300 ≤ item ∧ item < 0x030E then safety.getD (item - 0x0300) 0
  else if 0x030F ≤ item ∧ item < 0x0315 then ss1.getD (item - 0x030F) 0
  else if item = 0x0800 then 300
  else Config.itemDefault item % 2 ^ 32

/-- An item's value. -/
def State.itemValue (s : State) (item : Nat) : Nat := s.param item (s.itemDefault item)

/-- The range of an item of the field-control group (R240). -/
def State.fieldItemOk (s : State) (n w : Nat) : Bool :=
  let amps := decide (1 ≤ w) && (Frac.ofInt w).le s.imax
  let signed := Frac.ofInt (signedOf 32 w)
  match n with
  | 0 => natWithin w 8 255 | 1 => natWithin w 1 1000 | 2 => natWithin w 1 500 | 3 => natWithin w 8 4096
  | 4 => natWithin w 1 1000 | 5 => natWithin w 1 50 | 6 => natWithin w 10 2000 | 7 => natWithin w 10 10000
  | 8 => natWithin w 1 15 | 9 => natWithin w 1 600 | 10 => amps | 11 => natWithin w 10 5000
  | 12 => amps | 13 => natWithin w 1 10000 | 14 => natWithin w 2 500 | 15 => natWithin w 100 10000
  | 16 => natWithin w 1 15 | 17 => natWithin w 0 10000 | 18 => natWithin w 100 60000 | 19 => amps
  | 20 => natWithin w 50 100 | 21 => natWithin w 1024 1129 | 22 => natWithin w 512 1024 | 23 => natWithin w 1 1000000
  | 24 => s.imax.neg.le signed && signed.le (Frac.ofInt 0)
  | 25 => (Frac.ofInt w).le s.imax | 26 => natWithin w 100 100000
  | _ => false

/-- A word is within an item's range. -/
def State.itemOk (s : State) (item w : Nat) : Bool :=
  match groupOf item with
  | 1 => s.fieldItemOk (item % 256) w
  | 3 => s.safetyItemOk (item % 256) w
  | _ => Config.itemOk item w

/-- A word is within the Maker's envelope of an item; an envelope that is not written does not bound it. -/
def State.inEnvelope (s : State) (item w : Nat) : Bool :=
  let bound := fun (k : Nat) => sparseFind s.kern.params (0x0700 + Config.envelopeItem item k % 256)
  let x := signedOf 32 w
  (match bound 0 with | some l => decide (l.toInt ≤ x) | none => true)
    && (match bound 1 with | some h => decide (x ≤ h.toInt) | none => true)

/-- Write an item into the store. -/
def State.putItem (s : State) (item : Nat) (v : Word) : State :=
  s.modKern (fun k => { k with params := sparseInsert (sparseErase k.params item) item v })

/-- The Role M fields that a register-word item of the safety block loads (R395, R403, R501). -/
def wordAddr (item : Nat) : Option Nat :=
  if 0x0320 ≤ item ∧ item ≤ 0x0327 then some ((FLT_ESC_ID (item - 0x0320)).addr)
  else if item = 0x0340 then some SSS_CFG_HBTO.addr
  else if item = 0x0341 then some SSS_HYS_HYST.addr
  else if item = 0x0342 then some SSS_SS1_SS1TMAX.addr
  else if 0x0343 ≤ item ∧ item ≤ 0x0347 then some ((SAF_PAIR_TYPE (item - 0x0343)).addr)
  else if item = 0x0348 then some SAF_TP_TPP.addr
  else if item = 0x0349 then some SAF_OUT_OPEN.addr
  else if item = 0x034A then some SAF_OPT_OPP.addr
  else none

/-- An item of the safety block takes effect: its fields swap at their level. -/
def State.loadItem (s : State) (e : Nat × Word) : State :=
  match wordAddr e.1 with
  | some a => ((fieldsAt a).filter (fun f => f.kernelOnly && f.acc == .rws)).foldl (fun s f => s.rws f (fldOf f e.2.toNat)) s
  | none => s

/-- The items of a group in a store, in item order. -/
def groupItems (l : Sparse Word) (g : Nat) : Sparse Word := l.filter (fun e => groupOf e.1 == g)

/-- The safety block in force is loaded (R395) (DEDUCED, assumption 38). -/
def State.loadSafety (s : State) : State := (groupItems s.kern.params 3).foldl State.loadItem s

/-- What an item of a group with immediate effect does at its commit (R459): the no-overwrite setting, and the registers
that the Guidon and Halyard groups set. -/
def State.applyItem (s : State) (item : Nat) (v : Word) : State :=
  if item = 0x0802 then s.wb ROL_JSTS_NOOVW (v.getLsbD 0)
  else if groupOf item = 4 ∨ groupOf item = 5 then
    match fieldOf (Config.itemField item) with
    | some f => if f.acc = .rws && !f.kernelOnly then s.rws f (v.toNat % 2 ^ f.width) else s
    | none => s
  else s

/-- One committed item: journalled, written, in effect. -/
def State.commitItem (s : State) (rb : Nat) (e : Nat × Word) : State :=
  let old := leBytes (s.itemValue e.1) 4
  let s := s.journalled rb e.1 0 (digest9 old) (digest9 (leBytes e.2.toNat 4))
  (s.putItem e.1 e.2).applyItem e.1 e.2

/-- Staged items of a group in item order, the latest staging of each. -/
def Kernel.stagedOf (k : Kernel) (g : Nat) : Sparse Word :=
  (k.staged.filter (fun x => groupOf x.item == g)).foldl (fun l x => sparseInsert (sparseErase l x.item) x.item x.value) []

/-- The CRC of R461 over a block. -/
def blockCrc (l : Sparse Word) : Nat := crc32 (l.flatMap (fun e => leBytes e.2.toNat 4))

end Sys2Proof.Machine
end

