-- ==== Sys2Proof/Machine/Kernel.lean ====
section
/-!
DEFINITION. The kernel's services (R323 to R326): what each one does, the queue and the tickets, and how a call returns.
-/
namespace Sys2Proof.Machine

open Reg

/-- A call: its requester and session with the role they give, and its arguments g5 to g8. -/
structure Call where
  who : Chan
  sess : Nat
  role : Role
  a5 : Word
  a6 : Word
  a7 : Word
  a8 : Word
deriving DecidableEq, Repr

/-- g4 to g6 of a return (R324). -/
structure Reply where
  st : Nat
  g5 : Word := 0
  g6 : Word := 0
deriving DecidableEq, Repr

def okReply : Reply := ⟨0, 0, 0⟩
def denied : Reply := ⟨3, 0, 0⟩
def invalid : Reply := ⟨4, 0, 0⟩
def fullReply : Reply := ⟨6, 0, 0⟩
def busyReply : Reply := ⟨2, 0, 0⟩
/-- FAIL, with the reason that the device gives for cause `k` of a service (DESIGN CHOICE, assumption 25). -/
def failed (num k : Nat) : Reply := ⟨5, BitVec.ofNat 32 (Config.failReason num k), 0⟩
/-- Work that waits for something: a block mask or a TID. -/
def waitsFor (arg : Nat) : Reply := ⟨1, BitVec.ofNat 32 arg, 0⟩

def Call.roleByte (c : Call) : Nat := Sys2Proof.Machine.roleByte c.role c.who c.sess
def Call.atLeast (c : Call) (r : Role) : Bool := decide (roleRank r ≤ roleRank c.role)

/-- A refusal for want of role is journalled (R462): the item, or the service's number where there is none
(DEDUCED, assumption 36). -/
def State.refuseRole (s : State) (c : Call) (item : Nat) : State × Reply := (s.journalled c.roleByte item 3 [] [], denied)

/-! Identity, boot slot, discharge, reset (R80, R120, R326, R361). -/

/-- 0x00: the device id in g5[15:0], the step in g5[23:16], the kernel's version in g5[31:24], the image's version in g6
(DESIGN CHOICE, assumption 150). -/
def State.svcIdentity (s : State) (_ : Call) : State × Reply :=
  (s, ⟨0, BitVec.ofNat 32 (0x7144 + 65536 * Config.step + 16777216 * (Config.kernelVersion % 256)),
    BitVec.ofNat 32 s.cpm.imgVersion⟩)

/-- Flash work that the completion of a call's ticket carries out or ends. -/
def State.askFlash (s : State) (x : FlashWork) : State := s.modKern (fun k => { k with flash := k.flash ++ [x] })

/-- 0x02: the booted slot in TRIAL becomes CONFIRMED and preferred; the program alone may call it (R80). A CONFIRMED slot's
record holds 0 attempts (DESIGN CHOICE, assumption 147). -/
def State.svcConfirm (s : State) (c : Call) : State × Reply :=
  if !s.b CPM_BOOTSTAT_TRIAL || c.who != .program then (s, denied)
  else
    let (s', ok) := s.journal c.roleByte 0x7F03 (nat1 s.bootSlot) [] []
    if !ok then (s', fullReply)
    else
      let r := { (s'.bootRec).set s.bootSlot .confirmed 0 with preferB := s.bootSlot }
      let s := if s.cpm.imgAdvance then s'.burnRollback (s.r CPM_BOOTSTAT_SECVER) else s'
      let s := (s.putRec r).w CPM_BOOTSTAT_TRIAL 0
      (({ s with cpm := { s.cpm with trialRun := false } }).askFlash .record, okReply)

/-- 0x03: the kernel writes DIS_CTRL.REQ, guarded. -/
def State.svcDischarge (s : State) (_ : Call) : State × Reply :=
  if s.kernelPasses then (s.kernelWrote.disRequest, okReply) else (s, failed 0x03 0)

/-- 0x04: the kernel writes CPM_RSTREQ, guarded: it fails while a compare fault is held. -/
def State.svcReset (s : State) (_ : Call) : State × Reply :=
  if s.b CMP_STS_MIS then (s, failed 0x04 0) else (s.switchedReset .soft, okReply)

/-- 0x05: a ticket's result, or PENDING. -/
def State.svcTicket (s : State) (c : Call) : State × Reply :=
  match s.kern.tickets.find? (fun t => t.n == c.a5.toNat && t.chan == c.who) with
  | some t =>
    match t.done with
    | some (st, g5, g6) => (s, ⟨st, g5, g6⟩)
    | none => (s, ⟨1, c.a5, 0⟩)
  | none => (s, invalid)

/-! Parameters (R459 to R461, R464, R465). -/

/-- An item id that names a group. -/
def itemNamed (item : Nat) : Bool := decide (item < 32768) && natWithin (groupOf item) 1 9

/-- 0x10. -/
def State.svcParamRead (s : State) (c : Call) : State × Reply :=
  if itemNamed c.a5.toNat then (s, ⟨0, BitVec.ofNat 32 (s.itemValue c.a5.toNat), 0⟩) else (s, invalid)

/-- JOURNAL_ERASE (R464): the sectors whose records all lie at or below a SEQ go, and the erase is the next record. -/
def State.eraseJournal (s : State) (c : Call) (seq : Nat) : State × Reply :=
  if !c.atLeast .maker then s.refuseRole c 0x0880
  else
    let l := s.kern.journal
    let keep := l.filter (fun r => l.any (fun x => x.sector == r.sector && decide (seq < x.seq)))
    let s := (s.modKern (fun k => { k with journal := keep })).journalRegs
    let (s, ok) := s.journal c.roleByte 0x0880 0 [] (digest9 (leBytes seq 4))
    if ok then (s.autoClear Fid.journalFull, okReply) else (s, fullReply)

/-- A key record in SRAM, in this model's layout: DEVID at 0, the role at 2, the version at 3, the die identity or all ones
at 4, the key at 16, the signature over bytes 0 to 63 at 64 (PRESUMED, assumption 29). -/
def State.keyRecordOk (s : State) (a : Nat) : Bool :=
  let id := s.bytes (a + 4) 12
  let b := slotBase s.bootSlot
  let x := s.bigAt (b + 0x60)
  let y := s.bigAt (b + 0x80)
  (s.readLE a 2 == 0x7144 && (id == s.dieId || id == List.replicate 12 0xFF))
    && (s.signerOk s.bootSlot && (onCurve x y && ecdsaOk x y (s.bigAt (a + 64)) (s.bigAt (a + 96)) (sha256 (s.bytes a 64))))

/-- KEY_INSTALL (R465): a role key, when its record's signature verifies and its version is newer
(PRESUMED, assumption 29, DEDUCED, assumption 39). -/
def State.installKey (s : State) (c : Call) (a : Nat) : State × Reply :=
  let v := s.readLE (a + 3) 1
  match roleOfCode (s.readLE (a + 2) 1) with
  | none => (s, invalid)
  | some r =>
    if !(within a 0x20000000 (0x100000 - 127)) then (s, invalid)
    else if !(decide ((if r = .maker then s.kern.verM else s.kern.verI) < v) && s.keyRecordOk a) then (s, failed 0x11 1)
    else
      let key := s.bytes (a + 16) 16
      let (s', ok) := s.journal c.roleByte 0x7F04 (roleRank r) (digest9 (s.keyOf r)) (digest9 key)
      if !ok then (s', fullReply)
      else
        let s := s'.modKern (fun k => if r = .maker then { k with keyM := key, verM := v } else { k with keyI := key, verI := v })
        let s := s.w (if r = .maker then ROL_KEY_KVERM else ROL_KEY_KVERI) v
        ((s.w ROL_KEY_KVALID 1).autoClear Fid.roleKeyInvalid, okReply)

/-- 0x11: an item is staged behind those before it, each of which is journalled at the commit (R325, R460); items 0x0880
and 0x0881 act at once. -/
def State.svcParamWrite (s : State) (c : Call) : State × Reply :=
  let item := c.a5.toNat
  if item = 0x0880 then s.eraseJournal c c.a6.toNat
  else if item = 0x0881 then s.installKey c c.a6.toNat
  else if !itemNamed item then (s, invalid)
  else match itemRole item with
    | none => (s, denied)
    | some r =>
      if !c.atLeast r then s.refuseRole c item
      else if !s.itemOk item c.a6.toNat then (s, invalid)
      else if c.role = .installer && !s.inEnvelope item c.a6.toNat then (s, invalid)
      else (s.modKern (fun k => { k with staged := k.staged ++ [⟨item, c.a6, c.sess, c.role⟩] }),
        okReply)

/-- The role that a commit of a group needs: the Maker where one of its staged items does. -/
def State.groupRole (s : State) (g : Nat) : Role :=
  if (s.kern.stagedOf g).any (fun e => itemRole e.1 == some .maker) || [2, 3, 7, 8].contains g then .maker else .installer

/-- A commit of group 0x03 leaves the block PENDING (R461). -/
def State.commitSafety (s : State) (c : Call) : State × Reply :=
  let items := (s.kern.stagedOf 3).foldl (fun l e => sparseInsert (sparseErase l e.1) e.1 e.2) (groupItems s.kern.params 3)
  let crc := blockCrc items
  let old := fun (l : Sparse Word) (item : Nat) => match sparseFind l item with | some v => v.toNat | none => s.itemDefault item
  let s := ((s.kern.staged.filter (fun x => groupOf x.item == 3)).foldl (fun (p : State × Sparse Word) x =>
    (p.1.journalled c.roleByte x.item 0 (digest9 (leBytes (old p.2 x.item) 4)) (digest9 (leBytes x.value.toNat 4)),
     sparseInsert (sparseErase p.2 x.item) x.item x.value)) (s, s.kern.params)).1
  (s.modKern (fun k => { k with staged := k.staged.filter (fun x => groupOf x.item != 3),
                                block := some ⟨items, crc, c.sess, s.cpm.msTick⟩ }), ⟨0, BitVec.ofNat 32 crc, 0⟩)

/-- The confirmation of a pending block (R461) (DESIGN CHOICE, assumption 37). -/
def State.confirmSafety (s : State) (c : Call) (p : PendingBlock) : State × Reply :=
  if p.sess = c.sess && decide (s.cpm.msTick ≤ p.atMs + 600000) && s.offOrSafe && decide (c.a6.toNat = p.crc) then
    let (s', ok) := s.journal c.roleByte 0x0300 0 [] (digest9 (leBytes p.crc 4))
    if !ok then (s', fullReply)
    else
      let s := s'.modKern (fun k => { k with params := k.params.filter (fun e => groupOf e.1 != 3), block := none, blockOk := true })
      let s := p.items.foldl (fun s e => s.putItem e.1 e.2) s
      let s := (s.loadSafety).w CPM_BOOTSTAT_PARBAD 0
      (s.autoClear Fid.paramInvalid, okReply)
  else (s, failed 0x12 0)

/-- 0x12: a staged group is committed, or the pending safety block confirmed (DESIGN CHOICE, assumption 37). -/
def State.svcCommit (s : State) (c : Call) : State × Reply :=
  let g := c.a5.toNat
  if !natWithin g 1 8 then (s, if g = 9 then denied else invalid)
  else if !c.atLeast (s.groupRole g) then s.refuseRole c (256 * g)
  else if s.journalRefuses then ((s.journalled c.roleByte (256 * g) 0 [] []), fullReply)
  else if g = 3 then
    match (s.kern.stagedOf 3).isEmpty, s.kern.block with
    | true, some p => s.confirmSafety c p
    | _, _ => s.commitSafety c
  else
    let writes := s.kern.staged.filter (fun x => groupOf x.item == g)
    let s := writes.foldl (fun s x => s.commitItem c.roleByte (x.item, x.value)) s
    let s := if g = 1 ∧ s.storedFieldOk then s.autoClear Fid.fieldParams else s
    (s.modKern (fun k => { k with staged := k.staged.filter (fun x => groupOf x.item != g) }), okReply)

/-! The journal (R326, R462). -/

/-- 0x20: the program's own record, its item in g5 and its value in g6. -/
def State.svcJournalAppend (s : State) (c : Call) : State × Reply :=
  if 0x7F00 ≤ c.a5.toNat then (s, invalid)
  else
    let (s, ok) := s.journal c.roleByte c.a5.toNat 0 [] (digest9 (leBytes c.a6.toNat 4))
    (s, if ok then okReply else fullReply)

/-- 0x21: a record by its SEQ (DESIGN CHOICE, assumption 26). -/
def State.svcJournalRead (s : State) (c : Call) : State × Reply :=
  match s.kern.journal.find? (fun x => x.seq == c.a5.toNat) with
  | some x =>
    let n := blockNat x.bytes
    (s, ⟨0, BitVec.ofNat 32 (Config.resultWord n 0), BitVec.ofNat 32 (Config.resultWord n 1)⟩)
  | none => (s, invalid)

/-! Burgee (R455 to R458). -/

/-- 0x30: a nonce for a role. -/
def State.svcChallenge (s : State) (c : Call) : State × Reply :=
  match roleOfCode c.a5.toNat with
  | none => (s, invalid)
  | some r =>
    if s.lockOf r ≠ 0 ∨ s.keyOf r = [] then (s, denied)
    else
      let k := (s.kern.challenge + 1) % 2 ^ 64
      let x := s.nonceOf k
      let s := s.modKern (fun q => { q with
        challenge := k
        nonces := q.nonces.filter (fun y => y.chan != c.who) ++ [⟨c.who, r, x, s.cpm.msTick⟩] })
      (s, ⟨0, BitVec.ofNat 32 (Config.resultWord (blockNat x) 0), BitVec.ofNat 32 (Config.resultWord (blockNat x) 1)⟩)

/-- The number of the session that a response opens: its own when it is elevated anew, else the lowest free one. -/
def State.sessFree (s : State) (c : Call) : Option Nat :=
  if s.kern.sessions.any (fun x => x.n == c.sess && x.chan == c.who) then some c.sess
  else [1, 2, 3, 4].find? (fun n => !s.kern.sessions.any (fun x => x.n == n))

/-- A response whose tag matches opens a session, after its record. -/
def State.elevate (s : State) (c : Call) (r : Role) : State × Reply :=
  match s.sessFree c with
  | none => (s, busyReply)
  | some n =>
    let (s', ok) := s.journal (Sys2Proof.Machine.roleByte r c.who n) 0x7F01 (roleRank r) [] []
    if !ok then (s', fullReply)
    else
      let s := if n = c.sess then s'.dropSess n else s'
      let s := s.modKern (fun k => { k with sessions := k.sessions ++ [⟨n, r, c.who, 0⟩] })
      ((((s.setFails r 0 0).autoClear Fid.authLockout (roleRank r)).sessRegs), ⟨0, BitVec.ofNat 32 n, 0⟩)

/-- 0x31: the tag in g5 to g8, its first byte lowest in g5. A response after 10 s fails for its role; one without a nonce
fails for none (DEDUCED, assumption 170). -/
def State.svcResponse (s : State) (c : Call) : State × Reply :=
  match s.kern.nonces.find? (fun x => x.chan == c.who) with
  | none =>
    let (s, ok) := s.journal c.roleByte 0x7F02 0 [] []
    (s, if ok then failed 0x31 0 else fullReply)
  | some x =>
    let s := s.modKern (fun k => { k with nonces := k.nonces.filter (fun y => y.chan != c.who) })
    let tag := leBytes c.a5.toNat 4 ++ leBytes c.a6.toNat 4 ++ leBytes c.a7.toNat 4 ++ leBytes c.a8.toNat 4
    if tag == s.tagFor x && decide (s.cpm.msTick ≤ x.atMs + 10000) then s.elevate c x.role
    else
      let (s, ok) := s.journal c.roleByte 0x7F02 (roleRank x.role) [] []
      let s := s.noteFail x.role
      (s, if ok then failed 0x31 1 else fullReply)

/-- 0x32: the session in g5, of the same channel, is dropped. -/
def State.svcDrop (s : State) (c : Call) : State × Reply :=
  if s.kern.sessions.any (fun x => x.n == c.a5.toNat && x.chan == c.who) then (s.dropSess c.a5.toNat, okReply)
  else (s, invalid)

/-! Self-test (R429, R435). -/

/-- 0x40: the blocks in g5 become pending; the ticket waits for them (DEDUCED, assumption 109). -/
def State.svcSelfTest (s : State) (c : Call) : State × Reply :=
  if s.dbgOpen ∨ 2 ≤ s.r THM_STS_DLEVEL ∨ s.b SSS_STS_TBUSY then (s, denied)
  else (s.bstAsk (c.a5.toNat % 2 ^ 17) (c.who == .host), waitsFor (c.a5.toNat % 2 ^ 17))

/-- 0x41: the result words. -/
def State.svcSelfResult (s : State) (_ : Call) : State × Reply :=
  (s, ⟨0, BitVec.ofNat 32 (s.readReg BST_RES0_RES.addr), BitVec.ofNat 32 (s.readReg BST_RES1_RES.addr)⟩)

/-! Halyard (R295, R299, R301, R303). -/

/-- TIDs that may not be used: outstanding, or completed less than TXTO ago (DEDUCED, assumption 120). -/
def State.tidBusy (s : State) (t : Nat) : Bool :=
  s.hly.trans.any (fun x => x.tid == t && x.done.isNone)
    || s.hly.tidFreed.any (fun e => e.1 == t && decide (s.nowU < e.2 + 200000 * max 1 (s.r HLY_ACFG_TXTO)))

/-- The next TID in increasing order modulo 256 (DEDUCED, assumption 120). -/
def State.nextTid (s : State) : Option Nat :=
  ((List.range 256).map (fun k => (s.hly.tidNext + k) % 256)).find? (fun t => !s.tidBusy t)

/-- A request leaves for its destination, or for this device's own queue. -/
def State.issue (s : State) (f : AcFrame) : State :=
  if f.dst = s.r HLY_NODE_ADDR then
    if s.hly.requests.length < 16 then { s with hly := { s.hly with requests := s.hly.requests ++ [f] } } else s.respond f 1 []
  else s.queueFrame (s.routePort f.dst) { frame := f }

/-- 0x50: a request. g5 holds the destination in [11:0], BCAST in [12], the code in [23:16]; g6 ADDR; g7 and g8 the SRAM
address and the length of the payload. -/
def State.svcHalyard (s : State) (c : Call) : State × Reply :=
  let dst := c.a5.toNat % 4096
  let bcast := c.a5.getLsbD 12
  let code := c.a5.toNat / 65536 % 256
  let plen := c.a8.toNat
  let known := match s.hly.table with | some t => (t.index dst).isSome | none => false
  if 256 < plen ∨ ¬ natWithin code 1 3 then (s, invalid)
  else if 64 ≤ s.outstanding then (s.bumpSat HLY_ACQ_BUSYCNT, busyReply)
  else if bcast || !known then (s, ⟨5, 3, 0⟩)
  else match s.nextTid with
    | none => (s.bumpSat HLY_ACQ_BUSYCNT, busyReply)
    | some tid =>
      let f : AcFrame := ⟨false, 0, dst, false, s.r HLY_NODE_ADDR, tid, code, 0, c.a6.toNat, s.bytes c.a7.toNat plen⟩
      let s := s.modHly fun h => { h with
        trans := h.trans.filter (fun x => x.tid != tid) ++ [⟨tid, s.nowU, 0, none⟩]
        tidNext := (tid + 1) % 256
        tidFreed := h.tidFreed.filter (fun e => e.1 != tid) }
      let s := s.w HLY_ACQ_OUTST s.outstanding
      (s.issue f, waitsFor tid)

/-- 0x51: the producer whose address g5 holds; where its SEQ stands is not known (DESIGN CHOICE, assumption 41). -/
def State.svcProducer (s : State) (c : Call) : State × Reply :=
  let (v, s) := s.freeNat
  let a := c.a5.toNat % 4096
  (s.modHly fun h => { h with producers := h.producers.filter (fun p => p.src != a) ++ [⟨a, v % 65536, 0⟩] }, okReply)

/-- 0x52: the owner asks every node of the pending table. -/
def State.svcSlotTable (s : State) (_ : Call) : State × Reply :=
  if s.r HLY_STS_RSTATE = 3 ∧ s.hly.pending.isSome then (s, waitsFor 0) else (s, denied)

/-! The ISO 11783 client (R278, R453). -/

/-- The client's controller at 250 kbit/s, classic frames, on the bus (R451) (PRESUMED, assumption 42). -/
def State.isoSetup (s : State) : State :=
  let k := s.isoCan
  let put := fun (s : State) (x : Fld × Nat) => s.rws x.1 x.2
  [(CAN_NBT_BRP k, 19), (CAN_NBT_TSEG1 k, 12), (CAN_NBT_TSEG2 k, 1), (CAN_CTRL_FDEN k, 0), (CAN_CTRL_BRSEN k, 0),
    (CAN_CTRL_MON k, 0), (CAN_CTRL_ROM k, 0), (CAN_CTRL_EN k, 1)].foldl put s

/-- 0x60: g5 is 1 to start and 0 to stop (PRESUMED, assumption 42). -/
def State.svcIso (s : State) (c : Call) : State × Reply :=
  if c.a5 = 1 then
    if s.gdn.iso = .claiming ∨ s.gdn.iso = .running then (s, okReply)
    else ({ s.isoSetup with gdn := { s.gdn with iso := .claiming, isoAddr := s.param 0x0602 0 % 256, isoAt := s.cpm.msTick,
                                                isoSet := [], isoSent := [], isoWork := false } }, okReply)
  else if c.a5 = 0 then ({ s with gdn := { s.gdn with iso := .stopped } }, okReply)
  else (s, invalid)

/-! Images (R75, R76, R78, R81). -/

/-- The slot that an image call writes: the other one; in recovery, with no slot booted, the one that bit 0 of g8 names
(DESIGN CHOICE, assumption 148). -/
def State.imageSlot (s : State) (c : Call) : Bool := if s.cpm.phase = .recovery then c.a8.getLsbD 0 else !s.bootSlot

/-- In recovery, the download of images is off where the Maker has locked it (R84) (PRESUMED, assumption 149). -/
def State.downloadLocked (s : State) : Bool := s.cpm.phase == .recovery && (s.byte 0x080010B0).getLsbD 2

/-- 0x70: g7 bytes, whole units of 16, from the SRAM address in g6 to the slot offset in g5 (R83) (DEDUCED, assumption 49). They
are programmed at the ticket's completion. -/
def State.svcImageBlock (s : State) (c : Call) : State × Reply :=
  let b := s.imageSlot c
  let n := c.a7.toNat
  if s.downloadLocked then (s, denied)
  else if slotSize < c.a5.toNat + n ∨ c.a5.toNat % 16 ≠ 0 ∨ n % 16 ≠ 0 ∨ ¬ (0x20002000 ≤ c.a6.toNat ∧ c.a6.toNat + n ≤ 0x20100000) then
    (s, invalid)
  else
    let (s, ok) := s.journal c.roleByte 0x7F03 (nat1 b) [] (digest9 (leBytes c.a5.toNat 4))
    if ok then (s.askFlash (.program (slotBase b + c.a5.toNat) (s.bytes c.a6.toNat n)), okReply) else (s, fullReply)

/-- 0x71: the written image is checked at the ticket's completion. -/
def State.svcImageFinal (s : State) (c : Call) : State × Reply :=
  if s.downloadLocked then (s, denied) else (s.askFlash (.finalise (s.imageSlot c) c.roleByte), okReply)

/-- Whether a slot holds a block that was programmed after the slot was last finalised. -/
def Kernel.newIn (k : Kernel) (b : Bool) : Bool := if b then k.newB else k.newA

def State.setNew (s : State) (b v : Bool) : State :=
  s.modKern (fun k => if b then { k with newB := v } else { k with newA := v })

/-- A checked image's slot is set to TRIAL with three tries, preferred (DEDUCED, assumption 49); a CONFIRMED slot only when a
new image has been written into it (R80). -/
def State.finalise (s : State) (b : Bool) (role : Nat) : State × Reply :=
  if (s.bootRec.state b == .confirmed && !s.kern.newIn b) || !s.imageOk b then (s.noteWorn b, failed 0x71 0)
  else
    let (s, ok) := s.journal role 0x7F03 (nat1 b) [] ((s.bytes (slotBase b + 0x40) 9))
    if ok then ((s.putRec { (s.bootRec).set b .trial 3 with preferB := b }).setNew b false, okReply) else (s, fullReply)

/-- The oldest flash work is carried out. -/
def State.flashStep (s : State) : State × Reply :=
  let t := s.modKern (fun k => { k with flash := k.flash.drop 1 })
  match s.kern.flash with
  | .program _ [] :: _ => (t, okReply)
  | .program a l :: _ => ((t.program a l).setNew (decide (a < slotBase false)) true, okReply)
  | .finalise b role :: _ => t.finalise b role
  | _ => (t, okReply)

/-- The services whose completion carries out flash work. -/
def flashService (num : Nat) : Bool := [0x02, 0x70, 0x71].contains num

/-! The service table (R326). -/

/-- The least role of a service; those of items, groups and the like are judged inside (DEDUCED, assumption 35). -/
def serviceRole (num : Nat) : Option Role :=
  match num with
  | 0x02 => some .maker | 0x04 => some .installer | 0x20 => some .installer | 0x51 => some .maker
  | 0x52 => some .installer | 0x60 => some .installer | 0x70 => some .maker | 0x71 => some .maker
  | n => if [0x00, 0x03, 0x05, 0x10, 0x11, 0x12, 0x21, 0x30, 0x31, 0x32, 0x40, 0x41, 0x50].contains n then some .operator else none

/-- The services that take a ticket. -/
def takesTicket (num : Nat) : Bool := [0x02, 0x11, 0x12, 0x20, 0x31, 0x40, 0x50, 0x52, 0x70, 0x71].contains num

/-- What recovery serves (R81): status, the journal as it is read, Maker authentication, image download, software reset; a
challenge of another role is not served (DESIGN CHOICE, assumption 44). -/
def recoveryServes (num : Nat) (c : Call) : Bool :=
  [0x00, 0x04, 0x05, 0x21, 0x31, 0x32, 0x70, 0x71].contains num || (num == 0x30 && roleOfCode c.a5.toNat == some .maker)

/-- What a service does (DESIGN CHOICE, assumption 30). -/
def State.runService (s : State) (num : Nat) (c : Call) : State × Reply :=
  match num with
  | 0x00 => s.svcIdentity c
  | 0x02 => s.svcConfirm c
  | 0x03 => s.svcDischarge c
  | 0x04 => s.svcReset c
  | 0x05 => s.svcTicket c
  | 0x10 => s.svcParamRead c
  | 0x11 => s.svcParamWrite c
  | 0x12 => s.svcCommit c
  | 0x20 => s.svcJournalAppend c
  | 0x21 => s.svcJournalRead c
  | 0x30 => s.svcChallenge c
  | 0x31 => s.svcResponse c
  | 0x32 => s.svcDrop c
  | 0x40 => s.svcSelfTest c
  | 0x41 => s.svcSelfResult c
  | 0x50 => s.svcHalyard c
  | 0x51 => s.svcProducer c
  | 0x52 => s.svcSlotTable c
  | 0x60 => s.svcIso c
  | 0x70 => s.svcImageBlock c
  | 0x71 => s.svcImageFinal c
  | _ => (s, invalid)

/-! Queue and tickets (R324, R325). -/

/-- The ticket that accepted work takes: the lowest that has no result waiting to be read, else the lowest completed
(DESIGN CHOICE, assumption 32). -/
def State.freeTicket (s : State) : Option Nat :=
  match (List.range 8).find? (fun n => !s.kern.tickets.any (fun t => t.n == n)) with
  | some n => some n
  | none => (List.range 8).find? (fun n => !s.kern.tickets.any (fun t => t.n == n && t.done.isNone))

/-- Accepted work joins the queue under its ticket; a Halyard request's transaction notes it. -/
def State.addWork (s : State) (num n : Nat) (who : Chan) (r : Reply) : State :=
  let w : Work := ⟨num, n, if r.st = 1 then r.g5.toNat else 0, who, r.st, r.g5, r.g6⟩
  let s := s.modKern (fun k => { k with queue := k.queue ++ [w], tickets := k.tickets.filter (fun t => t.n != n) ++ [⟨n, who, none⟩] })
  if num = 0x50 ∧ r.st = 1 then
    s.modHly fun h => { h with trans := h.trans.map (fun x => if x.tid == w.arg && x.done.isNone then { x with ticket := n } else x) }
  else s

/-- What a call comes to: denied where recovery does not serve it, INVAL for a number without a service, refused for want of
role, or done. -/
def State.judgeService (s : State) (num : Nat) (c : Call) : State × Reply :=
  if s.cpm.phase = .recovery && !recoveryServes num c then (s, denied)
  else match serviceRole num with
    | none => (s, invalid)
    | some least => if c.atLeast least then s.runService num c else s.refuseRole c num

/-- A call by number; `always` takes a ticket for any service, as a SERVICE frame does (R445). A call that is denied,
invalid or refused BUSY has no ticket, except under `always` (DESIGN CHOICE, assumption 31). -/
def State.callService (s : State) (num : Nat) (c : Call) (always : Bool) : State × Reply :=
  let s := s.touch c.sess
  if takesTicket num || always then
    match s.freeTicket with
    | none => (s, busyReply)
    | some n =>
      if 16 ≤ s.kern.queue.length then (s, busyReply)
      else
        let (s, r) := s.judgeService num c
        if ((r.st = 2 || r.st = 3 || r.st = 4) && !always) || s.cpm.phase == .inReset then (s, r)
        else (s.addWork num n c.who r, ⟨1, BitVec.ofNat 32 n, 0⟩)
  else s.judgeService num c

/-! Calls of the program (R323, R360). -/

/-- A core stands in the kernel's handler of a kernel call. -/
def Core.inCall (c : Core) : Bool := c.mode = .k && c.inTrap && c.tcause == 0xA && c.tstatus.toNat % 4 != 0

/-- DESIGN CHOICE, assumption 34. -/
def State.inCall (s : State) : Bool := s.cores.main.inCall && s.cores.chk.inCall

/-- The registers that a call compares at entry, g4 to g9. -/
def Core.callRegs (c : Core) : List Word := (List.range 6).map (fun k => c.gr (4 + k))

/-- A core takes the return of a call: g4 to g6, and 0 in g7 to g9; it goes back to S when it stood in the call. -/
def Core.takeReply (c : Core) (r : Reply) : Core :=
  let c' := (((((c.setG 4 (BitVec.ofNat 32 r.st)).setG 5 r.g5).setG 6 r.g6).setG 7 0).setG 8 0).setG 9 0
  if c.inCall then c'.ret else c'

def State.deliver (s : State) (r : Reply) : State :=
  s.modCores (fun k => { k with main := k.main.takeReply r, chk := k.chk.takeReply r })

/-- A call of the program on both cores: where both stand in a kernel call, its number and arguments are the registers of
both, compared as a Pennant; only the main core's has side effects (DESIGN CHOICE, assumption 34). -/
def State.programCall (s : State) (num sess : Nat) (a5 a6 a7 a8 : Word) : State :=
  let m := s.cores.main
  if s.inCall && m.callRegs != s.cores.chk.callRegs then
    s.cmpFail 4 Fid.pennantMismatch num (m.gr 4).toNat (s.cores.chk.gr 4).toNat
  else if s.inCall && m.gr 4 != BitVec.ofNat 32 num then s
  else
    let n := if s.inCall then (m.gr 9).toNat else sess
    let role := s.sessRole .program n
    let c : Call := if s.inCall then ⟨.program, n, role.getD .none, m.gr 5, m.gr 6, m.gr 7, m.gr 8⟩
      else ⟨.program, n, role.getD .none, a5, a6, a7, a8⟩
    let (s, r) := if role.isNone then (s, denied) else s.callService num c false
    if s.cpm.phase = .inReset then s else s.deliver r

/-- A service command: a call of the program, or a call of another requester, whose reply its own commands return. -/
def State.kernelCall (s : State) (num : Nat) (who : Chan) (sess : Nat) (a5 a6 a7 a8 : Word) : State :=
  let up := (s.cpm.dev == .run || s.cpm.dev == .idle) && (s.cpm.phase == .running || s.cpm.phase == .recovery)
  if !up then s
  else match who with
    | .program => if s.coresRun && s.cpm.phase == .running then s.programCall num sess a5 a6 a7 a8 else s
    | who =>
      match s.sessRole who sess with
      | some r => (s.callService num ⟨who, sess, r, a5, a6, a7, a8⟩ true).1
      | none => s

/-- The meaning that the service rows share. -/
def serviceCommand (num : Nat) (who : Chan) (sess : Fin 5) (a5 a6 a7 a8 : Word) (s : State) : Out :=
  act s fun s => s.kernelCall num who sess.val a5 a6 a7 a8

/-! The meanings. `who` and `sess` name the requester and its session, `a5` to `a8` its g5 to g8. -/

/-- IDENTITY (R326). -/
def execKIdentity (who : Chan) (sess : Fin 5) (a5 a6 a7 a8 : Word) (s : State) : Out := serviceCommand 0x00 who sess a5 a6 a7 a8 s
/-- CONFIRM (R80). -/
def execKConfirm (who : Chan) (sess : Fin 5) (a5 a6 a7 a8 : Word) (s : State) : Out := serviceCommand 0x02 who sess a5 a6 a7 a8 s
/-- KEY_OFF_DISCHARGE (R120). -/
def execKeyOffDischarge (who : Chan) (sess : Fin 5) (a5 a6 a7 a8 : Word) (s : State) : Out := serviceCommand 0x03 who sess a5 a6 a7 a8 s
/-- KERNEL_SOFTWARE_RESET (R326, R361). -/
def execKernelSoftwareReset (who : Chan) (sess : Fin 5) (a5 a6 a7 a8 : Word) (s : State) : Out := serviceCommand 0x04 who sess a5 a6 a7 a8 s
/-- TICKET_RESULT (R324). -/
def execTicketResult (who : Chan) (sess : Fin 5) (a5 a6 a7 a8 : Word) (s : State) : Out := serviceCommand 0x05 who sess a5 a6 a7 a8 s
/-- PARAMETER_READ (R326). -/
def execParameterRead (who : Chan) (sess : Fin 5) (a5 a6 a7 a8 : Word) (s : State) : Out := serviceCommand 0x10 who sess a5 a6 a7 a8 s
/-- PARAMETER_WRITE (R460, R464, R465). -/
def execParameterWrite (who : Chan) (sess : Fin 5) (a5 a6 a7 a8 : Word) (s : State) : Out := serviceCommand 0x11 who sess a5 a6 a7 a8 s
/-- COMMIT (R460, R461). -/
def execKCommit (who : Chan) (sess : Fin 5) (a5 a6 a7 a8 : Word) (s : State) : Out := serviceCommand 0x12 who sess a5 a6 a7 a8 s
/-- JOURNAL_APPEND (R326). -/
def execJournalAppend (who : Chan) (sess : Fin 5) (a5 a6 a7 a8 : Word) (s : State) : Out := serviceCommand 0x20 who sess a5 a6 a7 a8 s
/-- JOURNAL_READ (R326). -/
def execJournalRead (who : Chan) (sess : Fin 5) (a5 a6 a7 a8 : Word) (s : State) : Out := serviceCommand 0x21 who sess a5 a6 a7 a8 s
/-- BURGEE_CHALLENGE (R456). -/
def execBurgeeChallenge (who : Chan) (sess : Fin 5) (a5 a6 a7 a8 : Word) (s : State) : Out := serviceCommand 0x30 who sess a5 a6 a7 a8 s
/-- BURGEE_RESPONSE (R457, R458). -/
def execBurgeeResponse (who : Chan) (sess : Fin 5) (a5 a6 a7 a8 : Word) (s : State) : Out := serviceCommand 0x31 who sess a5 a6 a7 a8 s
/-- DROP_SESSION (R455). -/
def execDropSession (who : Chan) (sess : Fin 5) (a5 a6 a7 a8 : Word) (s : State) : Out := serviceCommand 0x32 who sess a5 a6 a7 a8 s
/-- SELF_TEST_REQUEST (R435). -/
def execSelfTestRequest (who : Chan) (sess : Fin 5) (a5 a6 a7 a8 : Word) (s : State) : Out := serviceCommand 0x40 who sess a5 a6 a7 a8 s
/-- SELF_TEST_RESULT (R435). -/
def execSelfTestResult (who : Chan) (sess : Fin 5) (a5 a6 a7 a8 : Word) (s : State) : Out := serviceCommand 0x41 who sess a5 a6 a7 a8 s
/-- HALYARD_REQUEST (R301). -/
def execHalyardRequest (who : Chan) (sess : Fin 5) (a5 a6 a7 a8 : Word) (s : State) : Out := serviceCommand 0x50 who sess a5 a6 a7 a8 s
/-- REGISTER_PRODUCER (R303). -/
def execRegisterProducer (who : Chan) (sess : Fin 5) (a5 a6 a7 a8 : Word) (s : State) : Out := serviceCommand 0x51 who sess a5 a6 a7 a8 s
/-- SWITCH_SLOT_TABLE (R295). -/
def execSwitchSlotTable (who : Chan) (sess : Fin 5) (a5 a6 a7 a8 : Word) (s : State) : Out := serviceCommand 0x52 who sess a5 a6 a7 a8 s
/-- ISO_CLIENT (R278). -/
def execIsoClient (who : Chan) (sess : Fin 5) (a5 a6 a7 a8 : Word) (s : State) : Out := serviceCommand 0x60 who sess a5 a6 a7 a8 s
/-- IMAGE_BLOCK_WRITE (R76). -/
def execImageBlockWrite (who : Chan) (sess : Fin 5) (a5 a6 a7 a8 : Word) (s : State) : Out := serviceCommand 0x70 who sess a5 a6 a7 a8 s
/-- IMAGE_FINALISE (R75, R78). -/
def execImageFinalise (who : Chan) (sess : Fin 5) (a5 a6 a7 a8 : Word) (s : State) : Out := serviceCommand 0x71 who sess a5 a6 a7 a8 s

/-! Completion (R324, R449). -/

/-- What ended work returns: a self-test passes when every named block did; a request returns its response's code and
first word. -/
def State.workResult (s : State) (w : Work) (confirmed : Bool) : Option (State × Reply) :=
  if w.st = 0 ∧ flashService w.num then some s.flashStep
  else if w.st ≠ 1 then some (s, ⟨w.st, w.g5, w.g6⟩)
  else if w.num = 0x40 then
    let blocks := (List.range 17).filter (bit w.arg)
    if blocks.any (fun k => (s.bstBlock k).phase != .none) then none
    else some (s, if blocks.all (fun k => s.bstCode k == 1) then okReply else failed 0x40 0)
  else if w.num = 0x50 then
    match s.hly.trans.find? (fun x => x.tid == w.arg && x.ticket == w.ticket) with
    | some x =>
      match x.done with
      | some (code, _, data) => some (s, ⟨if code = 0 then 0 else 5, BitVec.ofNat 32 code, BitVec.ofNat 32 (leAt data 0 4)⟩)
      | none => none
    | none => some (s, failed 0x50 0)
  else if confirmed then
    some (match s.hly.pending with
      | some t => s.modHly fun h => { h with table := some t, pending := none }
      | none => s, okReply)
  else none

/-- The oldest work that waits for nothing goes first; work that waits completes when its end has come
(DESIGN CHOICE, assumption 31). -/
def State.mayComplete (s : State) (w : Work) : Bool :=
  w.st == 1 || (s.kern.queue.find? (fun x => x.st != 1)) == some w

/-- Line 23 at both cores, and the host's TICKET event for its own (DESIGN CHOICE, assumption 33). -/
def State.announce (s : State) (who : Chan) : State :=
  let raiseLine := fun (c : Core) => { c with lines := c.lines ||| BitVec.ofNat 32 (2 ^ 23) }
  let s := s.modCores (fun k => { k with main := raiseLine k.main, chk := raiseLine k.chk })
  if who = .host && s.live .host then s.setBit HSP_IRQ_EVT 2 else s

/-- The work of ticket `n` completes, when it may. -/
def State.completeTicket (s : State) (n : Nat) (confirmed : Bool) : State :=
  match s.kern.queue.find? (fun w => w.ticket == n) with
  | none => s
  | some w =>
    if !s.mayComplete w then s
    else match s.workResult w confirmed with
      | none => s
      | some (s, r) =>
        let s := s.modKern (fun k => { k with
          queue := k.queue.erase w
          tickets := k.tickets.map (fun t => if t.n == n then { t with done := some (r.st, r.g5, r.g6) } else t) })
        s.announce w.chan

/-- TICKET_COMPLETE (R324): the work of ticket `n` completes. `confirmed` says, for a switch of the slot table, that every
node in the new table has confirmed holding it by acyclic response (R295). The kernel works in RUN and in IDLE (R319). -/
def execTicketComplete (n : Fin 8) (confirmed : Bool) (s : State) : Out :=
  act s fun s => s.when s.driveAwake fun s => s.completeTicket n.val confirmed

/-- The flash work under way and what is queued ahead of it completes (R83). -/
def State.finishFlash (s : State) : State :=
  (s.kern.queue.filter (fun w => w.st != 1)).foldl (fun s w => s.completeTicket w.ticket false) s

end Sys2Proof.Machine
end

