-- ==== Sys2Proof/Machine/Host.lean ====
section
/-!
DEFINITION. The host port (R444 to R449, R466, R467): what a role may read and write, the frames, and what they leave in
the journal (R462).
-/
namespace Sys2Proof.Machine

open Reg

/-! What an outside requester may reach (R448). -/

/-- The ROM, the OTP, the SRAM kernel area and the key sector. -/
def hostHidden (a : Nat) : Bool := kernelRegion a

/-- A word as a role outside the cores reads it: a STATUS code when it does not. -/
inductive Got where
  | word (w : Nat)
  | status (code : Nat)
deriving DecidableEq, Repr

/-- A bus error of an initiator outside the cores is a fault too, which ends with the status that its reply carries (R327)
(DEDUCED, assumption 186). -/
def State.outsideError (s : State) : State := (s.raise Fid.accessError 2).autoClear Fid.accessError 2

/-- Words from an address up; the first that is hidden or a bus error ends the read with its code (DEDUCED, assumption 48). -/
def State.hostWords (s : State) (a : Nat) : Nat → List Word → State × (Nat × List Word)
  | 0, l => (s, (0, l.reverse))
  | n + 1, l =>
    if hostHidden a then (s, (3, []))
    else match s.busRead a true with
      | (none, u) => (if s.answers a then u else u.outsideError, (5, []))
      | (some w, s) => s.hostWords (a + 4) n (BitVec.ofNat 32 w :: l)

/-- The present value of a word as R448 judges a change against it: the shadow of an RWS field. -/
def State.seenWord (s : State) (a : Nat) : Nat :=
  if kindOf a == .window && (s.liveWord a).isNone then
    (fieldsAt a).foldl (fun w f =>
      w + (if f.acc = .rws then s.shadowOf f else s.readField f) % 2 ^ f.width * 2 ^ f.lo) 0
  else if kindOf a == .window then s.readWin a else s.readLE a 4

/-- The code of a write to an address before it is tried: 0 when the region takes the role's write. In recovery a frame writes
the SRAM that an image block comes from, and the reset request (R81) (DEDUCED, assumption 48, DESIGN CHOICE, assumption 44). -/
def State.hostMay (s : State) (r : Role) (a : Nat) : Nat :=
  if s.cpm.phase = .recovery && !(kindOf a == .sram || a == CPM_RSTREQ_KEY.addr) then 3
  else match kindOf a with
  | .window => if s.answers a then 0 else 5
  | .sram => if 0x20010000 ≤ a ∧ roleRank .installer ≤ roleRank r then 0 else 3
  | .cle => if roleRank .maker ≤ roleRank r then (if s.answers a then 0 else 5) else 3
  | .none => 5
  | _ => 3

/-- What a frame's write of words found: what was taken and withheld, and the words that were withheld or written. -/
structure Wrote where
  judged : Judged := {}
  withheld : List (Nat × Nat × Nat) := []
  written : List (Nat × Nat × Nat) := []
deriving DecidableEq, Repr

/-- The words of a frame in increasing address order. -/
def State.hostPut (s : State) (r : Role) (a : Nat) : List Word → Wrote → State × Wrote
  | [], x => (s, x)
  | w :: l, x =>
    let old := s.seenWord a
    let (s, j) : State × Judged :=
      if kindOf a == .window then s.writeWin (.host r) a w.toNat else ((s.busWrite (.host r) a w.toNat 4).1, ⟨true, false⟩)
    let x := { judged := x.judged.and j
               withheld := if j.withheld then x.withheld ++ [(a, old, w.toNat)] else x.withheld
               written := if j.taken && kindOf a == .window then x.written ++ [(a, old, s.seenWord a)] else x.written }
    s.hostPut r (a + 4) l x

/-- The status of a write (R446, R448). -/
def Wrote.status (x : Wrote) : Nat := if x.judged.withheld then (if x.judged.taken then 4 else 3) else 0

/-- The records of a write (R462): what a session wrote, and what was withheld. -/
def State.hostFolds (s : State) (who : Chan) (sess : Nat) (r : Role) (x : Wrote) : State :=
  let s := if roleRank .installer ≤ roleRank r then
      x.written.foldl (fun s e =>
        s.noteFold ⟨sess, who, e.1, BitVec.ofNat 32 e.2.1, BitVec.ofNat 32 e.2.2, 0, r, s.cpm.msTick⟩) s
    else s
  x.withheld.foldl (fun s e =>
    s.noteFold ⟨sess, who, e.1, BitVec.ofNat 32 e.2.1, BitVec.ofNat 32 e.2.2, x.status, r, s.cpm.msTick⟩) s

/-- A write by a role outside the cores: regions first, then the words; a journal that refuses records refuses what a raised
role writes (R464) (DEDUCED, assumption 46). -/
def State.hostWrite (s : State) (who : Chan) (sess : Nat) (r : Role) (a : Nat) (l : List Word) : State × Nat :=
  let codes := (List.range l.length).map (fun k => s.hostMay r (a + 4 * k))
  match codes.find? (· != 0) with
  | some 3 =>
    let x : Wrote := ⟨⟨false, true⟩, [(a, s.seenWord a, (l.headD 0).toNat)], []⟩
    (if hostHidden a then s else s.hostFolds who sess r x, 3)
  | some c => (s.outsideError, c)
  | none =>
    if s.journalRefuses && roleRank .installer ≤ roleRank r then (s.journalled (roleByte r who sess) 0x7F06 6 [] [], 3)
    else
      let (s, x) := s.hostPut r a l {}
      (s.hostFolds who sess r x, x.status)

/-! Clears (R409). -/

/-- A clear by the host: what want of role withholds is journalled as a refusal, on session 0, the Operator's (R409, R462). -/
def State.hostClear (s : State) (r : Role) (w : Nat) : State :=
  let (u, j) := s.writeFltClr (.host r) w
  if j.withheld then
    u.noteFold ⟨0, .host, FLT_CLR_ID.addr, 0, BitVec.ofNat 32 w, if j.taken then 4 else 3, r, s.cpm.msTick⟩
  else u

/-- FAULT_CLEAR (R409, R410): a guarded write of FLT_CLR.ID. -/
def execFaultClear (who : Agent) (id : BitVec 16) (s : State) : Host.Outcome State Fault Refusal :=
  act s fun s => s.when (s.mayWrite who FLT_CLR_ID) fun s =>
    match who with
    | .host r => s.hostClear r id.toNat
    | _ => s.faultClear who id.toNat

/-- CLEAR_ALL (R409, R410): a guarded write of FLT_CLR.ALL. -/
def execClearAll (who : Agent) (s : State) : Host.Outcome State Fault Refusal :=
  act s fun s => s.when (s.mayWrite who FLT_CLR_ALL) fun s =>
    match who with
    | .host r => s.hostClear r 65536
    | _ => s.clearAll who

/-! Frames (R444 to R447). -/

def State.modHsp (s : State) (f : Hsp → Hsp) : State := { s with hsp := f s.hsp }

/-- The port takes frames: HOST is on and not under test, and the kernel accepts frames (R449)
(DESIGN CHOICE, assumption 44, DEDUCED, assumption 137). -/
def State.hostLive (s : State) : Bool :=
  s.live .host && !s.tested 14 && (s.cpm.phase == .running || s.cpm.phase == .recovery)
    && (s.cpm.dev == .run || s.cpm.dev == .idle)

/-- The bytes of words as the port carries them (R444). -/
def wordBytes (l : List Word) : List Byte := l.flatMap (fun w => leBytes w.toNat 4)

/-- What the device drives: STATUS, words, and a CRC-8 over both (R445). -/
def State.driveReply (s : State) (code : Nat) (words : List Word) : State :=
  s.modHsp fun h => { h with status := code, words := words, ticket := 0, crc := crc8 (leBytes code 1 ++ wordBytes words) }

/-- A reply with a ticket byte in place of words. -/
def State.driveTicket (s : State) (ticket : Nat) : State :=
  s.modHsp fun h => { h with status := 0, words := [], ticket := ticket, crc := crc8 (leBytes 0 1 ++ leBytes ticket 1) }

/-- HCRC of a header: CRC-8 over CMD, ADDR and N (R445). -/
def headCrc (op : Nat) (x : FrameHead) : Nat :=
  crc8 (leBytes (op + 32 * x.tail.sess.val) 1 ++ leBytes x.addr.toNat 4 ++ [x.tail.n])

/-- HCRC holds. -/
def headOk (x : FrameHead) (op : Nat) : Bool := x.tail.crc.toNat == headCrc op x

/-- DCRC of a frame's words holds (R445, R446). -/
def dcrcOk (words : List Word) (crc : Byte) : Bool := crc.toNat == crc8 (wordBytes words)

/-- A CRC failure is counted; sixteen within a second are a fault (R466). -/
def State.crcFail (s : State) (f : Fld) (code : Nat) : State :=
  let s := s.bumpSat f
  let l := s.hsp.fails.filter (fun t => decide (s.cpm.msTick < t + 1000)) ++ [s.cpm.msTick]
  let s := (s.modHsp fun h => { h with fails := l }).driveReply code []
  if 16 ≤ l.length then s.raise Fid.hostFrameErrors else s

/-- A frame whose header holds: any frame but a READ of the held address discards late data (R447) (DEDUCED, assumption 136). -/
def State.frameIn (s : State) (hcrcOk : Bool) (keep : Bool) (body : State → State) : State :=
  if !s.hostLive then s
  else
    let s := if keep && hcrcOk then s else s.modHsp fun h => { h with late := none }
    if hcrcOk then body s else s.crcFail HSP_STS_HCRCCNT 1

/-- The role of a frame's session; none when it names one of another channel. -/
def State.frameRole (s : State) (n : Nat) : Option Role := s.sessRole .host n

/-- A frame of a session that the host may name: a request on that session (R448, R455). -/
def State.onSession (s : State) (n : Nat) (body : Role → State → State) : State :=
  match s.frameRole n with
  | none => (s.modHsp fun h => { h with late := none }).driveReply 3 []
  | some r => body r (s.touch n)

/-- A read's data may come after the turnaround: with a DUMMY below 16 clocks, or below 17 from a window in AON (R447, R467). -/
def State.mayLate (s : State) (a : Nat) : Bool :=
  let d := max 4 (s.r HSP_CFG_DUMMY)
  decide (d < 16) || (kindOf a == .window && (winDomain (winNo a)).isNone && decide (d < 17))

/-- READ (R445, R447, R448): `late` says that the data did not return by the end of the turnaround
(DESIGN CHOICE, assumption 45, DEDUCED, assumption 136). -/
def execHostRead (hcrc : Byte) (sess : Fin 8) (addr : Word) (n : Byte) (late : Bool) (s : State) : Out :=
  act s fun s =>
    let a := addr.toNat
    let held := match s.hsp.late with | some (x, _) => x == a | none => false
    s.frameIn (headOk ⟨addr, ⟨sess, n, hcrc⟩⟩ 1) held fun s =>
      if a % 4 ≠ 0 ∨ 64 ≤ n.toNat then s.driveReply 8 []
      else s.onSession sess.val fun _ s =>
        if s.cpm.phase = .recovery then s.driveReply 3 []
        else match s.hsp.late with
        | some (_, l) => (s.driveReply 0 l).modHsp fun h => { h with late := none }
        | none =>
          let (s, code, l) := s.hostWords a (n.toNat + 1) []
          if code ≠ 0 then s.driveReply code []
          else if late && s.mayLate a then
            (s.driveReply 6 (List.replicate l.length 0)).modHsp fun h => { h with late := some (a, l) }
          else s.driveReply 0 l

/-- WRITE (R445, R446, R448): the words are held until DCRC has checked (DESIGN CHOICE, assumption 45). -/
def execHostWrite (hcrc : Byte) (sess : Fin 8) (addr : Word) (words : List Word) (dcrc : Byte) (s : State) : Out :=
  act s fun s => s.frameIn (headOk ⟨addr, ⟨sess, BitVec.ofNat 8 (words.length - 1), hcrc⟩⟩ 2) false fun s =>
    if !dcrcOk words dcrc then s.crcFail HSP_STS_DCRCCNT 2
    else if addr.toNat % 4 ≠ 0 ∨ words.isEmpty ∨ 64 < words.length then s.driveReply 8 []
    else s.onSession sess.val fun r s =>
      let (s, code) := s.hostWrite .host sess.val r addr.toNat words
      s.driveReply code []

/-- The tickets of the host's completed requests, a mask (R445). -/
def State.hostTickets (s : State) : Nat :=
  s.kern.tickets.foldl (fun m t => if t.chan == .host && t.done.isSome then bitSet m t.n else m) 0

/-- STATUS (R445, R449): the block of four words; READY clears. -/
def execHostStatus (head : FrameHead) (s : State) : Out :=
  act s fun s => s.frameIn (headOk head 3) false fun s => s.onSession head.tail.sess.val fun _ s =>
    let w := fun (n : Nat) => BitVec.ofNat 32 n
    let l := [w (s.r SSS_ENSIGN_ENSIGN), w (s.r HSP_IRQ_EVT), w (s.readReg FLT_STS_QLEVEL.addr), w s.hostTickets]
    (s.driveReply 0 l).clrBit HSP_IRQ_EVT 0

/-- SERVICE (R445): always a ticket, from the kernel's queue; the last of its six words is not used. -/
def execHostService (head : FrameHead) (last num a5 a6 a7 a8 : Word) (dcrc : Byte) (s : State) : Out :=
  act s fun s => s.frameIn (headOk head 4) false fun s =>
    if !dcrcOk [num, a5, a6, a7, a8, last] dcrc then s.crcFail HSP_STS_DCRCCNT 2
    else s.onSession head.tail.sess.val fun r s =>
      let (s, x) := s.callService num.toNat ⟨.host, head.tail.sess.val, r, a5, a6, a7, a8⟩ true
      if x.st = 2 then s.driveReply 7 [] else s.driveTicket x.g5.toNat

/-- RESULT (R445): the g4 to g6 of a ticket of the host's; of one it does not hold, INVAL. -/
def execHostResult (tail : FrameTail) (ticket : Word) (s : State) : Out :=
  act s fun s => s.frameIn (headOk ⟨ticket, tail⟩ 5) false fun s => s.onSession tail.sess.val fun _ s =>
    let (s, x) := s.svcTicket ⟨.host, 0, .operator, ticket, 0, 0, 0⟩
    s.driveReply 0 [BitVec.ofNat 32 x.st, x.g5, x.g6]

/-- FRAME_ABORT (R444): HSCS rises early. -/
def execFrameAbort (s : State) : Out := act s fun s => s.when s.hostLive fun s => s.bumpSat HSP_STS_ABORTCNT

/-- HOST_FRAME_ERRORS_QUIET (R466): one second without a CRC failure. -/
def execHostFrameErrorsQuiet (s : State) : Out :=
  act s fun s => s.when (s.hsp.fails.all (fun t => decide (t + 1000 ≤ s.cpm.msTick))) fun s =>
    (s.modHsp fun h => { h with fails := [] }).autoClear Fid.hostFrameErrors

end Sys2Proof.Machine
end

