-- ==== Sys2Proof/Machine/Frames.lean ====
section
/-!
DEFINITION. The frame entry that each core takes for itself (R353, R354, R359, R364), the kernel's work in it (R226, R379, R382,
R217, R430, R301), and the other interrupts of the cores (R318, R355, R363).
-/
namespace Sys2Proof.Machine

open Reg

/-! Requests of other nodes to this device (R298, R301, R454, R455). -/

/-- The role of a node: that of its highest session, else the Operator. -/
def State.nodeRole (s : State) (a : Nat) : Role × Nat :=
  match s.kern.sessions.find? (fun x => x.chan == .node a && x.role == .maker) with
  | some x => (.maker, x.n)
  | none => match s.kern.sessions.find? (fun x => x.chan == .node a) with
    | some x => (x.role, x.n)
    | none => (.operator, 0)

/-- The words of a payload. -/
def payloadWords (l : List Byte) : List Word := (List.range (l.length / 4)).map (fun k => BitVec.ofNat 32 (leAt l (4 * k) 4))

/-- One request: a read returns the word at ADDR, a write takes the payload's words under R448, a notify is received
(DEDUCED, assumption 47). -/
def State.serveRequest (s : State) (f : AcFrame) : State :=
  let (role, n) := s.nodeRole f.src
  let s := s.touch n
  if f.code = 1 then
    let (s, code, l) := s.hostWords (f.addr / 4 * 4) 1 []
    if code = 0 then s.respond f 0 (leBytes (l.headD 0).toNat 4) else s.respond f (if code = 3 then 4 else 3) []
  else if f.code = 2 then
    let (s, code) := s.hostWrite (.node f.src) n role (f.addr / 4 * 4) (payloadWords f.payload)
    s.respond f (if code = 0 then 0 else if code = 5 then 3 else 4) []
  else s.respond f 0 []

/-- The kernel serves the requests that wait, in their order (DEDUCED, assumption 47). -/
def State.serveRequests (s : State) : State :=
  if s.hlyLive then
    let l := s.hly.requests
    l.foldl State.serveRequest (s.modHly fun h => { h with requests := [] })
  else s

/-! The kernel's work (R226, R379, R382, R405, R430). -/

/-- SP1 of an orderly thermal stop: no torque, torque mode, the rate that the stop began with (R430) (DEDUCED, assumption 107). -/
def State.orderKernel (s : State) : State :=
  if s.b THM_STS_ORDER && s.drv == .run && s.kernelPasses then
    s.putSp 1 (stageOf [⟨0, 1⟩, ⟨0, 1⟩, ⟨s.thm.stopRate, 65536⟩])
  else s

/-- What the kernel does once both cores have entered the frame of a boundary of these levels. -/
def State.kernelFrame (s : State) (levels : List Level) : State :=
  let s := if levels.contains .L then (s.monLoop).driveLoop else s
  if levels.contains .O then (((((s.monOuter).driveOuter).ss1Kernel).orderKernel).relOffKernel).serveRequests else s

/-! The frame entry (R353). -/

/-- The software lines that CMP_FRAMEL assigns to levels: codes 1 to 8 are lines 24 to 31. -/
def State.frameLines (s : State) (levels : List Level) : Nat :=
  levels.foldl (fun m l =>
    let code := s.r CMP_FRAMEL_LINE / 16 ^ levelBit l % 16
    if 1 ≤ code ∧ code ≤ 8 then bitSet m (23 + code) else m) 0

/-- The Pennants that the kernel posts from a frame entry: 0x7F1 at L, 0x7F0 at O (R359). -/
def frameIds (levels : List Level) : List Nat :=
  (if levels.contains .L then [0x7F1] else []) ++ (if levels.contains .O then [0x7F0] else [])

/-- A core may take its frame entry now (R317, R318, R355, R362, R363). -/
def State.frameReady (s : State) (isMain : Bool) : Bool :=
  let c := s.core isMain
  s.live .cm && s.live .ck && (s.cpm.dev == .run || s.cpm.dev == .idle) && s.cpm.phase == .running && !c.locked && !s.dbgHolds isMain && c.frameDue.isSome && c.ien.getLsbD 1
    && decide (0 < c.ipl) && !c.inTrap && s.mayTake isMain 1
    && (isMain || !s.cores.inReplay || s.cores.replay.head? == some (1, c.retired))

/-- What replay notes of an interrupt that a core takes (R363). -/
def State.replayNote (s : State) (isMain : Bool) (n : Nat) : State :=
  if !s.cores.inReplay then s
  else if isMain then s.modCores (fun c => { c with replay := c.replay ++ [(n, c.main.retired)] })
  else s.modCores (fun c => { c with replay := c.replay.drop 1 })

/-- A core comes back from its frame entry: the trap's record stays, the view is the new boundary's, and the software lines
of the levels stand. -/
def Core.entered (c : Core) (lines : Nat) : Core :=
  { c with
    tpc := c.pc, tstatus := c.status, tcause := 17, waiting := false
    taken := setAt c.taken 1 (c.takes 1 + 1), frameDue := none, view := none
    lines := c.lines ||| BitVec.ofNat 32 lines }

/-- The frame entry of one core; `d1` and `d0` are the digests of its kernel state for 0x7F1 and 0x7F0. A core whose queue of
Pennants is full stalls. -/
def State.enterFrame (s : State) (isMain : Bool) (t : Nat) (d1 d0 : Word) : State :=
  let c := s.core isMain
  let levels := c.frameDue.getD []
  let ids := frameIds levels
  if 16 < c.pennants.length + ids.length then s.bumpSat CMP_CNT_STALLP
  else
    let s := s.replayNote isMain 1
    let s := (s.setCore isMain ((s.core isMain).entered (s.frameLines levels))).rxFlush
    let s := if !isMain && s.cores.inReplay && !s.dbgOpen then
        s.modCores (fun c => { c with inReplay := false, log := [], replay := [] }) else s
    let s := if (s.core (!isMain)).frameDue.isNone then s.kernelFrame levels else s
    ids.foldl (fun s id => (s.postPennant isMain id (if id = 0x7F1 then d1 else d0) (s.cycAt t)).getD s) s

/-- FRAME_ENTRY (R353): in IDLE it wakes the device first (R53). `t` is the instant of the posts in SYS cycles after the last tick boundary. -/
def execFrameEntry (m : Bool) (t : Nat) (d1 d0 : Word) (s : State) : Out :=
  act s fun s => s.when (s.frameReady m) fun s => ((s.idleEnd).at (t / 2)).enterFrame m t d1 d0

/-! Other interrupts (R318, R355, R363). -/

/-- A core takes the line that R318 gives; the frame entry has its own row. In replay the checker takes the main core's
interrupts at their counts. -/
def State.interrupt (s : State) (m : Bool) : State :=
  s.when (s.coresRun && !(s.core m).locked && !s.dbgHolds m) fun s =>
    match s.nextLine m with
    | none => s
    | some n =>
      if n = 1 ∧ (s.core m).frameDue.isSome then s
      else if !m && s.cores.inReplay && s.cores.replay.head? != some (n, s.cores.chk.retired) then s
      else (s.replayNote m n).takeLine m n

end Sys2Proof.Machine
end

