-- ==== Sys2Proof/Machine/Boot.lean ====
section
/-!
DEFINITION. Power-on, supplies, resets and boot (R26 to R33, R45, R46, R69 to R82, R419).
-/
namespace Sys2Proof.Machine

open Reg

/-! VAON power-on reset (R32, R60, R69, R70, R404, R463). -/

/-- Memory that keeps its contents without power: OTP and flash. -/
def stays (a : Nat) : Bool :=
  match kindOf a with
  | .otp => true
  | .flash => true
  | _ => false

/-- What the kernel's stores in flash keep across a loss of power. -/
def Kernel.powerOn (k : Kernel) : Kernel := { k.restart with firstRec := true }

/-- Every block at its reset state; flash, OTP and the kernel's stores keep theirs, and the supplies stand where they stood. -/
def State.powerOn (s : State) : State :=
  { ({} : State) with
    mem := s.mem.filter (fun e => stays e.1)
    cpm := { vio := s.cpm.vio, vdda := s.cpm.vdda, vddc := s.cpm.vddc, vdds := s.cpm.vdds, held := s.cpm.held }
    cores := { badWords := s.cores.badWords.filter stays, softWords := s.cores.softWords.filter stays }
    kern := s.kern.powerOn
    free := s.free
    pending := s.pending }

/-- VAON_POR. -/
def execVaonPor (s : State) : Out := act s fun s => s.tearFlash.powerOn

/-! Supplies (R26, R45, R46, R384, R419). -/

def State.setSupply (s : State) (x : Supply) (v : Bool) : State :=
  match x with
  | .vio => { s with cpm := { s.cpm with vio := v } }
  | .vdda => { s with cpm := { s.cpm with vdda := v } }
  | .vddc => { s with cpm := { s.cpm with vddc := v } }
  | .vdds => { s with cpm := { s.cpm with vdds := v } }

/-- A result flag of FCV, PCV or the resolver falls with VDDA (R45) (DEDUCED, assumption 53). -/
def State.analogLost (s : State) : State :=
  let s := (List.range 16).foldl (fun s n => s.w (FCV_RES_VALID n) 0) s
  let s := (List.range 16).foldl (fun s n => s.w (PCV_RES_VALID n) 0) s
  let s := (List.range 3).foldl (fun s n => s.w (PCV_HALLR_VALID n) 0) s
  s.modPos (fun p => { p with resValid := false, resGood := 0 })

/-- VDDS falls with HLY powered: HLY alone is reset, its ports idle, and a cold boot follows; the SSS takes its safe state
first (R45, R69, R70). -/
def State.ringReset (s : State) : State :=
  let s := (((((s.enterSafe).bstAbort 13).resetFaults (clearedBy true)).tearFlash).linkTo 0 0).linkTo 1 0
  let s := (s.resetClear .hly).w CPM_RSTCAUSE_SUPPLY 1
  let s := [Domain.sys, .cm, .ck].foldl (fun s d => s.setBit CPM_STATE_DOMON (domBit d)) s
  { s with cpm := { s.cpm with inReset := bitSet s.cpm.inReset (domBit .hly), hlyNap := false
                               bank0Held := s.cpm.bank0Held || s.cpm.dev == DevState.nap } }.restart

/-- SUPPLY_LOW (R45): a supply falls below its threshold. VDDA's fault is raised only where SYS runs (DESIGN CHOICE,
assumption 172). In DORMANT and PARKED a loss of VIO finds no domain to reset, and the device sleeps on until VIO returns (R26)
(DEDUCED, assumption 53). -/
def State.supplyLow (s : State) (x : Supply) : State :=
  let s := s.setSupply x false
  let s := { s with cpm := { s.cpm with held := s.cpm.held.filter (· != x) } }
  match x with
  | .vio =>
    let s := (s.safVioLost).w SSS_STS_VIOLOST 1
    if s.cpm.dev = .dormant ∨ s.cpm.dev = .parked then s else s.switchedReset .supply
  | .vddc => s.switchedReset .supply (keepHly := true)
  | .vdds => if s.on .hly || bit s.cpm.rising (domBit .hly) then s.ringReset else s
  | .vdda => if s.live .sys then ([6, 7, 8].foldl State.bstAbort s.analogLost).raise Fid.vddaLow else s

/-- SUPPLY_LOW. -/
def execSupplyLow (x : Supply) (s : State) : Out := act s fun s => s.supplyLow x

/-- A supply has been valid for the hold time. -/
def State.supplyHeld (s : State) (x : Supply) : State :=
  if s.cpm.held.contains x then s else { s with cpm := { s.cpm with held := s.cpm.held ++ [x] } }

/-- VIO and VDDC have been held: what SYS, CM and CK need to leave reset (R46). -/
def State.bootPower (s : State) : Bool := s.cpm.held.contains .vio && s.cpm.held.contains .vddc

/-- SUPPLY_RETURN (R419): a supply is above its threshold plus its hysteresis again. -/
def execSupplyReturn (x : Supply) (s : State) : Out :=
  act s fun s =>
    let s := s.setSupply x true
    if x = .vdda then s.autoClear Fid.vddaLow else s

/-! Resets (R31, R69 to R71, R80). -/

/-- NRST, low for longer than its filter; the pin works while VIO is present (R25). -/
def execNrst (s : State) : Out := act s fun s => s.when s.cpm.vio fun s => s.switchedReset .nrst

/-- SOFTWARE_RESET: a guarded write of CPM_RSTREQ.KEY; the cores' writes no longer pass after a compare fault (R361). -/
def execSoftwareReset (who : Agent) (key : BitVec 8) (s : State) : Out :=
  act s fun s => s.when (s.live .sys && s.mayWrite who CPM_RSTREQ_KEY && key == 0x5A) fun s => s.switchedReset .soft

/-- The attempt that a boot which did not reach its handover costs (R79, R80). -/
def State.countAttempt (s : State) : State :=
  let r := s.bootRec
  let b := if r.state r.preferB = .empty ∨ r.state r.preferB = .failed then !r.preferB else r.preferB
  if r.state b = .trial && decide (0 < r.tries b) then s.putRec (r.set b .trial (r.tries b - 1)) else s

/-- BOOT_WATCHDOG: no handover within 35 ms of SYS's release (DEDUCED, assumption 62). -/
def execBootWatchdog (s : State) : Out :=
  act s fun s => s.when (s.cpm.phase == .inReset || s.cpm.phase == .rom) fun s => (s.countAttempt).switchedReset .bootWatchdog

/-- TRIAL_WATCHDOG (R80): the deadline has passed and the confirm service has not been called. -/
def execTrialWatchdog (s : State) : Out := act s fun s =>
  s.when (s.cpm.trialRun && decide (s.cpm.trialEnd ≤ s.cpm.msTick)) fun s => s.switchedReset .trialWatchdog

/-- The TAP is clocked: SYS is on, and its pads have VIO (R25, R34). -/
def State.tapLive (s : State) : Bool := s.on .sys && s.cpm.vio

/-- TAP_RESET: the JTAG TAP controller alone leaves EXTEST. -/
def execTapReset (s : State) : Out := act s fun s => s.when s.tapLive fun s => { s with pwm := { s.pwm with extest := false } }

/-- A level that a pad's driver gives against anything outside; none where a pull, a high impedance or an edge leaves it open. -/
def PadLevel.firm : PadLevel → Option Bool
  | .high => some true
  | .low => some false
  | _ => none

/-- The pads that the device drives firmly, by pin number (R22), with their levels; NFAULT and HIRQ pull low only. -/
def State.firmPads (s : State) : List (Nat × Bool) :=
  let p := s.pins
  let from' := fun (k : Nat) (l : List PadLevel) => (l.zipIdx k).map (fun (e : PadLevel × Nat) => (e.2, e.1.firm))
  let bridge : List (Nat × Bool) :=
    [(2, p.padA.hi), (3, p.padA.lo), (4, p.padB.hi), (5, p.padB.lo), (7, p.padC.hi), (8, p.padC.lo),
      (9, p.gdenH), (10, p.gdenL), (11, p.adis)]
  let rest : List (Nat × Option Bool) :=
    [(21, p.out.sdck0.firm), (26, p.out.sdck1.firm)] ++ from' 31 p.out.ax0 ++ from' 37 p.out.ax1
    ++ [(55, p.out.tpo0.firm), (56, p.out.tpo1.firm), (57, p.out.sfo0.firm), (59, p.out.sfo1.firm),
      (65, if p.nfaultLow then some false else none)] ++ from' 77 p.out.hsd
    ++ [(81, if p.hirqLow then some false else none), (83, p.out.can0tx.firm), (85, p.out.can1tx.firm),
      (101, p.out.swck.firm), (103, p.out.swde.firm)]
  bridge ++ rest.filterMap (fun e => e.2.map (fun v => (e.1, v)))

/-- The pins that are high: by the device's firm drivers, else as the pins are seen from outside. -/
def State.highPads (s : State) (seen : List Nat) : List Nat :=
  let firm := s.firmPads
  (firm.filter (fun e => e.2)).map (fun e => e.1) ++ seen.filter (fun n => !firm.any (fun e => e.1 == n))

/-- BOUNDARY_SCAN (R33): the cells capture the pads' levels; the TAP takes EXTEST or leaves it, with the cells of the six PWM
pads and the other pins whose cells hold a 1. `scan.high` names the pins that are high from outside, the inputs among them. -/
def execBoundaryScan (extest : Bool) (cells : BitVec 6) (scan : Scan) (s : State) : Out :=
  act s fun s => s.when s.tapLive fun s =>
    { s with pwm := { s.pwm with extest := extest, cells := cells.toNat, pinCells := scan.cells, captured := s.highPads scan.high } }

/-! Slot choice (R79). -/

/-- Step 7: the verdict on a slot whose header and signer stand is written to CPM_BOOTOK; `differ` names the slots on which the
two cores reach different verdicts, whose guarded writes do not pass. -/
def State.noteVerdict (s : State) (b : Bool) (differ : Nat) : State :=
  if s.headerOk b && s.signerOk b && !bit differ (boolBit b 0) then s.kernelWrote.wb CPM_BOOTOK_OK (s.signatureOk b) else s

/-- One slot of R79: whether it boots. -/
def State.trySlot (s : State) (b : Bool) (differ : Nat) : State × Bool :=
  let r := s.bootRec
  let check := fun (s : State) =>
    let s := s.noteVerdict b differ
    if s.imageOk b && !bit differ (boolBit b 0) then (s, true)
    else
      let s := s.noteWorn b
      let r := s.bootRec
      (s.putRec (r.set b .failed (r.tries b)), false)
  match r.state b with
  | .empty => (s, false)
  | .failed => (s, false)
  | .confirmed => check s
  | .trial => if r.tries b = 0 then (s.putRec (r.set b .failed 0), false) else check (s.putRec (r.set b .trial (r.tries b - 1)))

/-- SLOT_CHOICE: the preferred slot, then the other; none is recovery. -/
def State.chooseSlot (s : State) (differ : Nat) : State × Option Bool :=
  let s := s.noteRecs
  let p := s.bootRec.preferB
  match s.trySlot p differ with
  | (s, true) => (s, some p)
  | (s, false) => match s.trySlot (!p) differ with
    | (s, true) => (s, some (!p))
    | (s, false) => (s, none)

/-! The steps of the boot (R72, R81, R82). -/

/-- Steps 1 and 3: SYS, CM and CK leave reset, the domains that CPM_DOMREQ asks for with them; XO and MPLL are confirmed. -/
def State.bootRelease (s : State) : State :=
  let hly := if s.cpm.held.contains .vdds then 0 else bitSet 0 (domBit .hly)
  let s := s.w CPM_CLKSTAT_CLKOK (s.r CPM_CLKSTAT_CLKOK ||| 3)
  { s with cpm := { s.cpm with phase := .rom, inReset := hly, rising := 0, sysOnWrc := false } }

/-- Step 4: SRAM is written to zero, bank 0 unless it was in retention; no SECDED error is left in it. -/
def State.bootClear (s : State) : State :=
  let lo := if s.cpm.bank0Held then 0x20010000 else 0x20000000
  let s := s.clearRange lo (0x20100000 - lo)
  { s with cores := { s.cores with badWords := s.cores.badWords.filter (fun a => a < lo || !isSram a)
                                   softWords := s.cores.softWords.filter (fun a => a < lo || !isSram a) }
           cpm := { s.cpm with bank0Held := false } }

/-- The booted image's header fields that later rules use. -/
def State.noteImage (s : State) (b : Bool) : State :=
  let h := s.header b
  let trial := s.bootRec.state b = .trial
  let s := ((s.wb CPM_BOOTSTAT_SLOT b).wb CPM_BOOTSTAT_TRIAL trial).w CPM_BOOTSTAT_SECVER h.secver
  { s with cpm := { s.cpm with
      trialRun := trial, imgAdvance := h.flags.testBit 0, imgVersion := h.version } }

/-- The device's life in seconds is that of the journal's newest record (R463). -/
def State.restoreTime (s : State) : State :=
  match s.kern.journal.getLast? with
  | some x => s.modKern (fun k => { k with lifeMs := 1000 * (x.time % 2147483648) })
  | none => s

/-- The kernel's view of its stores, after a boot and after DORMANT: the settings of the safety block, roles and journal
(R395, R459, R463, R465, R468). The safety block's fields swap at their levels
(DEDUCED, assumption 38, assumption 39, PRESUMED, assumption 43). -/
def State.loadStores (s : State) : State :=
  let s := s.restoreTime.loadSafety.wb ROL_JSTS_NOOVW (s.param 0x0802 0 % 2 == 1)
  let s := ((s.w ROL_KEY_KVERI s.kern.verI).w ROL_KEY_KVERM s.kern.verM).wb ROL_KEY_KVALID
    (s.kern.keyI != [] || s.kern.keyM != [])
  let s := ((s.journalRegs).lockRegs).sessRegs
  (List.range 4).foldl (fun s k => s.w (THM_LIFE_HOURS k) (s.param (0x0900 + k) 0)) s

/-- Step 8: the stores are loaded and checked; a cold boot counts (DEDUCED, assumption 40). -/
def State.bootStores (s : State) : State :=
  let s := (s.loadStores).w THM_KEYS_KEYS (s.param 0x0904 0 + 1)
  let s := if s.b ROL_KEY_KVALID then s else s.raise Fid.roleKeyInvalid
  if s.kern.blockOk then s else (s.w CPM_BOOTSTAT_PARBAD 1).raise Fid.paramInvalid

/-- Step 9: the verdicts of blocks 0 to 3 of self-test; a set bit fails its block. -/
def State.bootTest (s : State) (bad : Nat) : State :=
  (List.range 4).foldl (fun s k =>
    if bit bad k then ((s.bstRes k 2).setBit BST_STS_ISO k).raise (bstFault k) k
    else (s.bstRes k 1).autoClear (bstFault k) k) s

/-- Registers that the kernel leaves behind at a handover: open values, the same in both cores; g0 is 0
(DESIGN CHOICE, assumption 3). -/
def handRegs (base : Nat) : Vector Word 32 × Vector Word 32 :=
  (Vector.ofFn (fun (i : Fin 32) => if i = 0 then 0 else BitVec.ofNat 32 (Config.freeValue (base + i.val))),
   Vector.ofFn (fun (i : Fin 32) => BitVec.ofNat 32 (Config.freeValue (base + 32 + i.val))))

/-- Both cores start in S at an address, with the frame entry's line enabled at priority 0 (DESIGN CHOICE, assumption 3). -/
def State.startCores (s : State) (pc : Word) : State :=
  let (g, f) := handRegs s.free
  let start := fun (c : Core) => { c with
    g := g, f := f, pc := pc, status := 0x11, ien := 2, ipri := c.ipri.set 0 0xFFFFFF0F }
  ({ s with free := s.free + 64 }).modCores (fun c => { c with main := start c.main, chk := start c.chk })

/-- The heartbeats begin afresh: the counts of the cores and of FLT run from here (R372). -/
def State.startBeats (s : State) : State :=
  s.modSss (fun x => { x with stopped := false, goodOuter := 0, beatAt := ⟨s.nowU, s.nowU, x.beatAt.saf⟩ })

/-- Step 10: the handover. A trial's deadline is TRIALT s away, 60 s when it is 0 (R74, R80) (DEDUCED, assumption 62). -/
def State.handover (s : State) (b : Bool) (us : Nat) : State :=
  let s := (s.startCores (BitVec.ofNat 32 ((s.header b).entry / 4 * 4))).w CPM_RSTCAUSE_POR 0
  let t := (s.header b).trialT
  let s := { s with cpm := { s.cpm with phase := .running, trialEnd := s.cpm.msTick + 1000 * (if t = 0 then 60 else t) } }
  let s := ((s.w CPM_BOOTSTAT_BOOTUS (min 65535 us)).setHbto).startBeats
  let s := ({ s with cpm := { s.cpm with relOff := true } }).modSss (fun x => { x with bootTest := true, passed := 0 })
  if s.live .host then s.setBit HSP_IRQ_EVT 0 else s

/-- CAN at a whole number of kbit/s with 16 quanta a bit, the sample point at 87.5 %, from its fields' next boundaries on
(R81, R90, R451) (DEDUCED, assumption 135). -/
def State.canBaud (s : State) (c kbit : Nat) : State :=
  [(CAN_NBT_BRP c, 5000 / max 1 kbit - 1), (CAN_NBT_TSEG1 c, 12), (CAN_NBT_TSEG2 c, 1), (CAN_CTRL_EN c, 1)].foldl
    (fun s x => s.rws x.1 x.2) s

/-- RECOVERY (R81): the drive is kept in OFF, HOST is on, both CAN controllers are enabled (DEDUCED, assumption 62); BOOTUS keeps
the last boot's figure (DESIGN CHOICE, assumption 175). -/
def State.recover (s : State) : State :=
  let s := (s.w CPM_BOOTSTAT_RECOV 1).setBit CPM_STATE_DOMON (domBit .host)
  let s := ({ s with cpm := { s.cpm with phase := .recovery, trialRun := false } }).recoverOff
  let kbit := s.param 0x0801 250
  ((s.canBaud 0 kbit).canBaud 1 kbit).setBit HSP_IRQ_EVT 0

/-- An uncorrectable error stands in OTP between two offsets (R84). -/
def State.otpWorn (s : State) (lo hi : Nat) : Bool :=
  s.cores.badWords.any (fun w => decide (0x08000000 + lo ≤ w) && decide (w < 0x08000000 + hi))

/-- Step 2: OTP is read; the trims are the default ones where theirs cannot be, and the rollback counter shows (R84, R85). -/
def State.bootOtp (s : State) (trimBad : Bool) : State :=
  let s := { s with cpm := { s.cpm with defTrims := trimBad } }
  let s := if trimBad then s.raise Fid.otpTrim else s.autoClear Fid.otpTrim
  s.w CPM_BOOTSTAT_ROLLBACK s.rollback

/-- Step 6: the kernel powers CLE and keeps it requested, and copies the image's sections (DEDUCED, assumption 151). -/
def State.bootImage (s : State) (b : Bool) : State :=
  let s := (s.setBit CPM_STATE_DOMON (domBit .cle)).setBit CPM_DOMREQ_REQ 0
  (s.loadCode b).loadCle b

/-- The two cores' Pennants disagree in the boot ROM: no guarded write passes any more (R72, R358, R361); the boot then goes to
recovery without a choice of slot (DESIGN CHOICE, assumption 174). -/
def State.bootMismatch (s : State) : State :=
  let (id, s) := s.freeNat
  let (m, s) := s.freeNat
  let (k, s) := s.freeNat
  s.cmpFail 4 Fid.pennantMismatch id m k

/-- COLD_BOOT (R72): every step, in order. `otpBad` and `trimBad` say what of OTP is uncorrectable beside the words that the
model knows (R84), `katOk` that the SHA-256 engine's known-answer test passes, `bad` the blocks of the boot's self-test that
fail, `us` the boot's duration, `differ` the slots on which the cores' verdicts differ, `pennant` that a Pennant of the two does
not match (DEDUCED, assumption 11, DESIGN CHOICE, assumption 65). -/
def State.boot (s : State) (otpBad trimBad katOk : Bool) (bad us differ : Nat) (pennant : Bool) : State :=
  let worn := s.otpWorn 0 0x40 || s.otpWorn 0x1000 0x1080 || s.otpWorn 0x1090 0x10A8
  let s := ((s.bootRelease).bootOtp (trimBad || s.otpWorn 0x40 0x1000)).autoClear Fid.xoLoss
  let s := s.bootClear
  if otpBad || worn || !katOk then s.recover
  else if pennant then (s.bootMismatch.loadStores).recover
  else
    let (s, slot) := s.chooseSlot differ
    match slot with
    | none => (s.loadStores).recover
    | some b => ((((s.noteImage b).bootImage b).bootStores).bootTest bad).emptyBuffer.handover b us

/-- DEDUCED, assumption 11, DESIGN CHOICE, assumption 65. -/
def execColdBoot (otpBad trimBad katOk : Bool) (found : BootChecks) (us : Nat) (s : State) : Out :=
  act s fun s =>
    s.when ((s.cpm.phase == .inReset || s.cpm.phase == .rom) && s.bootPower && s.cpm.dev == .run) fun s =>
      s.boot otpBad trimBad katOk found.bad.toNat us found.differ.toNat found.pennant

end Sys2Proof.Machine
end

