-- ==== Sys2Proof/Machine/Power.lean ====
section
/-!
DEFINITION. Sleep and wake (R50 to R55, R77), the clocks and their faults (R59, R60, R419), the 1 ms tick (R60), the inputs of
SAF (R384), and the STOPMAX time (R16).
-/
namespace Sys2Proof.Machine

open Reg

/-! Sleep (R50 to R55). Times are in 2⁻¹⁵ ns, of which an ARC period holds 10⁹. -/

def arcT (n : Nat) : Int := (n : Int) * 1000000000
def nsT (n : Nat) : Int := (n : Int) * 32768

/-- Time to the AON count that a register names; 0 names none. The count of the last MS_TICK stands for the present one, and a
count that has passed comes again after the counter's wrap (DESIGN CHOICE, assumption 161). -/
def State.untilAon (s : State) (f : Fld) : Option Int :=
  if s.r f = 0 then none else some (arcT ((s.r f + 2 ^ 32 - s.cpm.aon % 2 ^ 32) % 2 ^ 32))

/-- The earlier of two times, where none is never. -/
def sooner (a b : Option Int) : Option Int :=
  match a, b with
  | none, b => b
  | a, none => a
  | some x, some y => some (min x y)

/-- t_avail; none when no event is known. `slotNs` is the time to the node's next ring slot. -/
def State.availT (s : State) (slotNs : Option Nat) : Option Int :=
  let slot := if s.ringMember then slotNs.map nsT else none
  (sooner (sooner (s.untilAon CPM_TIMEREV_TIMEREV) slot) (s.untilAon CPM_HDLN_HDLN)).map
    (fun x => x - nsT (1000 * s.r CPM_SLEEPCFG_MARGIN))

/-- The state encoding of R68. -/
def devCode : DevState → Nat
  | .run => 0 | .idle => 1 | .nap => 2 | .dormant => 3 | .parked => 4

/-- Latency and break-even of a sleep state (R54). -/
def State.sleepCost (s : State) (d : DevState) : Int :=
  match d with
  | .run => 0
  | .idle => nsT 250
  | .nap => nsT 220000
  | .dormant => nsT 13500000
  | .parked => nsT (40006000000 + 1000 * s.r CPM_BOOTSTAT_BOOTUS)

/-- The domains that a sleep state switches off, in the order of power-down (R50): HLY stays on for a ring member in NAP. -/
def State.sleepDomains (s : State) (d : DevState) : List Domain :=
  [.host, .impl, .pwm, .sense, .cle] ++ (if d = .nap && s.ringMember then [] else [.hly])

/-- The services whose work writes the journal or the parameter store: confirm, the two of parameters, journal append, elevation. -/
def writesStore (num : Nat) : Bool := [0x02, 0x11, 0x12, 0x20, 0x31].contains num

/-- The conditions of R54, with those of R47 and R120 for each domain that goes off (DEDUCED, assumption 59). A test that is asked
for or waits counts as BIST running, and queued work of a service that writes the store as a write in progress (DESIGN CHOICE,
assumption 162). -/
def State.maySleep (s : State) (d : DevState) : Bool :=
  let idle := s.offOrSafe && !s.anyBst
  let nap := idle && (s.sleepDomains .nap).all (fun x => !s.on x || s.mayOff x)
  let deep := idle && !s.ringMember && (s.sleepDomains .dormant).all (fun x => !s.on x || s.mayOff x)
  match d with
  | .run => true
  | .idle => idle
  | .nap => nap
  | .dormant => deep
  | .parked => deep && s.kern.queue.all (fun x => !writesStore x.num) && s.cpm.onArc

/-- The deepest state allowed: SLPCAP, and IDLE while ARC is out of range (R419) (DEDUCED, assumption 59). -/
def State.sleepCap (s : State) : Nat := if s.cpm.arcBad then min 1 (s.r CPM_SLEEPCFG_SLPCAP) else s.r CPM_SLEEPCFG_SLPCAP

/-- SLEEP_DEPTH_CHOICE (R55). -/
def State.sleepDepth (s : State) (slotNs : Option Nat) : DevState :=
  let fits := fun (d : DevState) => match s.availT slotNs with
    | some t => decide (s.sleepCost d ≤ t)
    | none => true
  (([DevState.parked, .dormant, .nap, .idle]).find? (fun d =>
    decide (devCode d ≤ s.sleepCap) && s.maySleep d && fits d)).getD .run

/-- The domains that a sleep state leaves without power, in the order of power-down; SYS, CM and CK keep what the kernel
keeps in retention (DEDUCED, assumption 57). -/
def State.sleepOff (s : State) (d : DevState) : State :=
  let s := (s.sleepDomains d).foldl (fun s x => if s.on x || bit s.cpm.rising (domBit x) then s.domainOff x else s) s
  ((s.clrBit CPM_STATE_DOMON 2).clrBit CPM_STATE_DOMON 1).clrBit CPM_STATE_DOMON 0

/-- Before PARKED the kernel moves every fault record into the journal (R418). -/
def State.flushRecords (s : State) : State :=
  let s := s.modFlt (fun f => { f with fifo := [], buffer := f.buffer ++ f.fifo })
  s.emptyBuffer

/-- Entry into a sleep state (R49, R50, R432, R455) (DEDUCED, assumption 56, assumption 57). -/
def State.enterSleep (s : State) (d : DevState) : State :=
  match d with
  | .run => s
  | .idle => (s.deliver okReply).modCpm (fun c => { c with dev := .idle })
  | .nap =>
    let s := (s.deliver okReply).sleepOff .nap
    { s with cpm := { s.cpm with dev := .nap, hlyNap := s.on .hly }
             sss := { s.sss with stopped := true }
             hoi := { s.hoi with wakeH := s.hoi.wakeH || !s.on .hly } }
  | d =>
    let s := if d = .parked then s.flushRecords else s
    let s := (((s.finishFlash).saveLife).dropAllSess).sleepOff d
    { s with cpm := { s.cpm with dev := d, bank0Held := decide (d = .dormant), codeReload := false, cleReload := false }
             sss := { s.sss with stopped := true } }

/-- SLEEP (R51, R55): service 0x01 on both cores; the guarded write of CPM_SLEEP must pass. `slotNs` is the time to this
node's next ring slot (DEDUCED, assumption 35). -/
def execSleep (slotNs : Option Nat) (s : State) : Out :=
  act s fun s => s.when (s.coresRun && s.cpm.phase == .running) fun s =>
    let m := s.cores.main
    if s.inCall && m.callRegs != s.cores.chk.callRegs then
      s.cmpFail 4 Fid.pennantMismatch 1 (m.gr 4).toNat (s.cores.chk.gr 4).toNat
    else if s.inCall && m.gr 4 != 1 then s
    else if !s.kernelPasses then s.deliver (failed 0x01 0)
    else match s.sleepDepth slotNs with
      | .run => s.deliver okReply
      | d => s.kernelWrote.enterSleep d

/-! Wake (R50 to R53, R77, R85). -/

/-- The requested domains power up again (R48). -/
def State.domainsBack (s : State) : State :=
  requestable.foldl (fun s d => if s.requested d then s.domainRise d else s) s

/-- SYS, CM and CK are clocked again. -/
def State.sysBack (s : State) : State := ((s.setBit CPM_STATE_DOMON 0).setBit CPM_STATE_DOMON 1).setBit CPM_STATE_DOMON 2

/-- The wake from DORMANT: the switched domains are reset, and the kernel resumes the program in bank 0, at a place that the
spec leaves to the kernel (R69, R77, R101) (DEDUCED, assumption 54, DESIGN CHOICE, assumption 55, DEDUCED, assumption 56). -/
def State.dormantWake (s : State) : State :=
  let old := s
  let s := (s.switchedReset .dormWake false).bootRelease
  let s := [CPM_BOOTSTAT_SLOT, CPM_BOOTSTAT_TRIAL, CPM_BOOTSTAT_PARBAD, CPM_BOOTSTAT_ROLLBACK, CPM_BOOTSTAT_SECVER, CPM_BOOTSTAT_BOOTUS,
    HOI_TICKCNT_TICKCNT, THM_KEYS_KEYS].foldl (fun s f => s.w f (old.r f)) s
  let s := (s.bootClear).loadStores
  let (x, s) := s.freeNat
  let s := s.startCores (BitVec.ofNat 32 (0x20002000 + 4 * (x % 14336)))
  let s := ((s.setHbto).startBeats).setBit HSP_IRQ_EVT 0
  { s with cpm := { s.cpm with phase := .running, dev := .run, codeReload := true, trialRun := old.cpm.trialRun }
           hoi := { s.hoi with wakeH := true } }

/-- The device is in DORMANT or PARKED. -/
def State.deep (s : State) : Bool := s.cpm.dev == .dormant || s.cpm.dev == .parked

/-- Every wake returns the device to RUN; from PARKED the boot follows. Without VIO and VDDC held the domains cannot come
up: from DORMANT and PARKED the source stands recorded, and the wake follows when both are (R26, R46, R101)
(DEDUCED, assumption 58). -/
def State.wake (s : State) : State :=
  if s.deep && !s.bootPower then s.modCpm (fun c => { c with wakeDue := true })
  else
  let s := (s.w CPM_STATE_LASTSLP (devCode s.cpm.dev)).modCpm (fun c => { c with wakeDue := false })
  match s.cpm.dev with
  | .run => s
  | .idle => s.idleEnd
  | .nap =>
    let s := ((s.modCpm (fun c => { c with dev := .run, hlyNap := false })).sysBack).domainsBack
    s.startBeats
  | .dormant => s.dormantWake
  | .parked => (s.switchedReset .parkWake).modHoi (fun h => { h with wakeH := true })

/-- The device is in NAP, DORMANT or PARKED. -/
def State.asleep (s : State) : Bool := s.cpm.dev == .nap || s.cpm.dev == .dormant || s.cpm.dev == .parked

/-- WAKE_PIN: WAKE rises and passes its filter. -/
def execWakePin (s : State) : Out := act s fun s => s.when (s.asleep && s.cpm.vio) fun s => (s.w CPM_WAKESRC_WAKEPIN 1).wake

/-- CAN_WAKE (R37): CAN0RX or CAN1RX held dominant. -/
def execCanWake (c : Fin 2) (s : State) : Out :=
  act s fun s => s.when (s.asleep && s.cpm.vio) fun s => (s.setBit CPM_WAKESRC_CANRX c.val).wake

/-- TIMER_COMPARE. -/
def execTimerCompare (s : State) : Out :=
  act s fun s => s.when (s.asleep && s.r CPM_TIMEREV_TIMEREV != 0) fun s => (s.w CPM_WAKESRC_TIMER 1).wake

/-- HOST_DEADLINE. -/
def execHostDeadline (s : State) : Out :=
  act s fun s => s.when (s.asleep && s.r CPM_HDLN_HDLN != 0) fun s => (s.w CPM_WAKESRC_HOSTDL 1).wake

/-- VIO_RETURN (R26): VIO is back; it wakes the device from DORMANT and PARKED. -/
def execVioReturn (s : State) : Out :=
  act s fun s =>
    let s := (s.setSupply .vio true).supplyHeld .vio
    s.when s.deep fun s => (s.w CPM_WAKESRC_VIORET 1).wake

/-- SUPPLY_HOLD (R46): a supply has stayed above its threshold for 100 µs. HLY comes out of a reset by VDDS alone; a wake that
waited for the supplies follows. -/
def execSupplyHold (x : Supply) (s : State) : Out :=
  act s fun s =>
    let s := (s.setSupply x true).supplyHeld x
    let s := if x = .vdds ∧ s.cpm.phase ≠ .inReset then s.modCpm (fun c => { c with inReset := bitClr c.inReset (domBit .hly) })
      else s
    s.when (s.deep && s.cpm.wakeDue && s.bootPower) State.wake

/-- RING_SLOT_WAKE: the next ring slot of a member in NAP. -/
def execRingSlotWake (s : State) : Out :=
  act s fun s => s.when (s.cpm.dev == .nap && s.ringMember) fun s => (s.w CPM_WAKESRC_SLOT 1).wake

/-- CODE_RELOAD_COMPLETE (R77): what the booted slot holds above bank 0 is in SRAM again. -/
def execCodeReloadComplete (s : State) : Out :=
  act s fun s => s.when s.cpm.codeReload fun s => (s.loadCode s.bootSlot).modCpm (fun c => { c with codeReload := false })

/-- CLE_RELOAD_COMPLETE (R49): the CLE memories hold the booted slot's sections, and every PEN bit is 0. -/
def execCleReloadComplete (s : State) : Out :=
  act s fun s => s.when (s.cpm.cleReload && s.live .cle) fun s =>
    ((s.loadCle s.bootSlot).w CLE_CTRL_PEN 0).modCpm (fun c => { c with cleReload := false })

/-! Interrupts in IDLE (R53). -/

/-- An enabled interrupt is pending at a core (DEDUCED, assumption 58). -/
def State.idleWakes (s : State) : Bool :=
  [true, false].any (fun m => (List.range 32).any (fun n => s.linePending m n && (s.core m).ien.getLsbD n))

/-- INTERRUPT_TAKEN (R318): a core takes the line that R318 gives; in IDLE an enabled interrupt first wakes the device. -/
def execInterruptTaken (m : Bool) (s : State) : Out :=
  act s fun s =>
    let s := if s.cpm.dev = .idle && s.idleWakes then s.wake else s
    s.interrupt m

/-! Clocks (R59, R60, R419). -/

/-- XO_LOSS: SYS runs from WRC so that the kernel can record the fault. -/
def execXoLoss (s : State) : Out :=
  act s fun s => s.when (s.live .sys) fun s =>
    ((s.clrBit CPM_CLKSTAT_CLKOK 0).modCpm (fun c => { c with sysOnWrc := true })).raise Fid.xoLoss

/-- PLL_UNLOCK: the MPLL, or with `hly` the SPLL, loses lock. -/
def execPllUnlock (hly : Bool) (s : State) : Out :=
  act s fun s => s.when (s.live .sys) fun s =>
    if hly then ((((s.clrBit CPM_CLKSTAT_CLKOK 2).linkTo 0 0).linkTo 1 0)).raise Fid.spllUnlock
    else (s.clrBit CPM_CLKSTAT_CLKOK 1).raise Fid.mpllUnlock

/-- PLL_LOCK: lock is regained; "SPLL unlock" clears with it. -/
def execPllLock (hly : Bool) (s : State) : Out :=
  act s fun s => s.when (s.live .sys) fun s =>
    if hly then (s.setBit CPM_CLKSTAT_CLKOK 2).autoClear Fid.spllUnlock else s.setBit CPM_CLKSTAT_CLKOK 1

/-- CLOCK_OUT_OF_RANGE: WRC, or with `arc` ARC, once it has started (R60). The bit of WRC in CLKOK returns only with VAON POR
(DESIGN CHOICE, assumption 173). -/
def execClockOutOfRange (arc : Bool) (s : State) : Out :=
  act s fun s => s.when (s.live .sys) fun s =>
    if !arc then (s.clrBit CPM_CLKSTAT_CLKOK 3).raise Fid.wrcRange
    else if s.cpm.onArc then
      ((s.clrBit CPM_CLKSTAT_CLKOK 4).modCpm (fun c => { c with arcBad := true })).raise Fid.arcRange
    else s

/-- ARC_WITHIN_LIMITS: for one second. -/
def execArcWithinLimits (s : State) : Out :=
  act s fun s => s.when s.cpm.arcBad fun s =>
    ((s.setBit CPM_CLKSTAT_CLKOK 4).modCpm (fun c => { c with arcBad := false })).autoClear Fid.arcRange

/-- ARC_STARTED (R60): AON moves to ARC at the next 1 ms tick (DEDUCED, assumption 64). -/
def execArcStarted (s : State) : Out := act s fun s => s.modCpm (fun c => { c with arcStarted := true })

/-! The 1 ms tick (R60). -/

/-- The AON count at tick k: floor(k × 32.768). -/
def tickAon (k : Nat) : Nat := k * 4096 / 125

/-- The kernel's clocks: seconds of life, refusals of challenges, idle sessions, folded records, an address claim. -/
def State.kernelMs (s : State) : State :=
  let s := (s.modKern (fun k => { k with
    lifeMs := k.lifeMs + 1, lockI := k.lockI - 1, lockM := k.lockM - 1
    sessions := k.sessions.map (fun x => { x with idleMs := x.idleMs + 1 }) }))
  if s.live .sys then
    let s := ((s.flushFolds (fun x => decide (x.atMs + 1000 ≤ s.cpm.msTick))).lockRegs).sessRegs
    if s.gdn.iso = .claiming && decide (s.gdn.isoAt + 250 ≤ s.cpm.msTick) then
      { s with gdn := { s.gdn with iso := .running, isoHeard := s.cpm.msTick } } else s
  else s

/-- MS_TICK: the SSS reselects, SAF runs its checks with the levels read at SFB0 and SFB1; `t` is the instant in u after the
last tick boundary (DEDUCED, assumption 64). -/
def execMsTick (t : Nat) (sfb0 sfb1 : Bool) (s : State) : Out :=
  act s fun s =>
    let s := s.at t
    let k := s.cpm.msTick + 1
    let periods := tickAon k - tickAon s.cpm.msTick
    let s := s.modCpm (fun c => { c with msTick := k, aon := tickAon k })
    let s := if s.cpm.arcStarted && !s.cpm.onArc then
      (s.setBit CPM_CLKSTAT_CLKOK 4).modCpm (fun c => { c with onArc := true }) else s
    let s := (s.sssTick periods).safTick s.cpm.aon sfb0 sfb1
    let s := if s.disLive then s.disElapse else s
    let s := if s.live .sys then s.fresh 0x140 else s
    (if s.live .sense then s.singlePathMs else s).kernelMs

/-! Inputs of SAF, and standstill (R16, R53, R384). -/

/-- SAFETY_INPUT_CHANGE (R384): an input has had a level for a number of samples; stable for its filter, the level is
accepted, `stamp` ARC periods after VAON POR; a change of a configured pair's state wakes the device (R53). `t` is the
instant in u after the last tick boundary. -/
def execSafetyInputChange (t : Nat) (run : InputRun) (stamp : Nat) (level : Bool) (s : State) : Out :=
  act s fun s =>
    let s := s.at t
    let n := run.n.val
    s.when (s.inputStable n run.samples && s.cpm.vio) fun s =>
      let s := s.modCpm (fun c => { c with aon := max c.aon stamp })
      let was := (s.chan n).level
      let s := s.safInput n stamp level
      s.when (s.asleep && s.safInUse (n / 2) && was != level) fun s => (s.w CPM_WAKESRC_SFI 1).wake

/-- STOPMAX, in ms. -/
def State.stopMaxMs (s : State) : Nat := 10000 * max 1 (s.r CPM_SLEEPCFG_STOPMAX)

/-- STOPMAX_EXPIRY (R16): no speed source has been valid for STOPMAX. -/
def execStopmaxExpiry (s : State) : Out :=
  act s fun s => s.when (match s.cpm.stopFrom with
      | some a => s.cpm.coasting && decide (a + s.stopMaxMs ≤ s.cpm.msTick)
      | none => false) fun s =>
    (s.w CPM_STATE_UNCONF 1).modCpm (fun c => { c with unconf := true })

end Sys2Proof.Machine
end

