-- ==== Sys2Proof/Machine/Dispatch.lean ====
section
/-!
DEFINITION. The dispatcher: one arm per command, each a direct call of the command's meaning.
-/
namespace Sys2Proof.Machine

/-- The effect of a command on everything but the queue. -/
def exec (i : Instr) (s : State) : Host.Outcome State Fault Refusal :=
  match i with
  | .vaonPor => Sys2Proof.Machine.execVaonPor s
  | .supplyLow x => Sys2Proof.Machine.execSupplyLow x s
  | .supplyHold x => Sys2Proof.Machine.execSupplyHold x s
  | .nrst => Sys2Proof.Machine.execNrst s
  | .softwareReset who key => Sys2Proof.Machine.execSoftwareReset who key s
  | .bootWatchdog => Sys2Proof.Machine.execBootWatchdog s
  | .trialWatchdog => Sys2Proof.Machine.execTrialWatchdog s
  | .tapReset => Sys2Proof.Machine.execTapReset s
  | .coldBoot otpBad trimBad katOk found us => Sys2Proof.Machine.execColdBoot otpBad trimBad katOk found us s
  | .arcStarted => Sys2Proof.Machine.execArcStarted s
  | .xoLoss => Sys2Proof.Machine.execXoLoss s
  | .pllUnlock hly => Sys2Proof.Machine.execPllUnlock hly s
  | .clockOutOfRange arc => Sys2Proof.Machine.execClockOutOfRange arc s
  | .domainRequest who req => Sys2Proof.Machine.execDomainRequest who req s
  | .domainPowerUp d => Sys2Proof.Machine.execDomainPowerUp d s
  | .stopmaxExpiry => Sys2Proof.Machine.execStopmaxExpiry s
  | .sleep slotNs => Sys2Proof.Machine.execSleep slotNs s
  | .wakePin => Sys2Proof.Machine.execWakePin s
  | .canWake c => Sys2Proof.Machine.execCanWake c s
  | .timerCompare => Sys2Proof.Machine.execTimerCompare s
  | .hostDeadline => Sys2Proof.Machine.execHostDeadline s
  | .vioReturn => Sys2Proof.Machine.execVioReturn s
  | .ringSlotWake => Sys2Proof.Machine.execRingSlotWake s
  | .codeReloadComplete => Sys2Proof.Machine.execCodeReloadComplete s
  | .cleReloadComplete => Sys2Proof.Machine.execCleReloadComplete s
  | .implNap t => Sys2Proof.Machine.execImplNap t s
  | .hlyNap => Sys2Proof.Machine.execHlyNap s
  | .hlyNapWake => Sys2Proof.Machine.execHlyNapWake s
  | .boundary vd s4 s5 mw => Sys2Proof.Machine.execBoundary vd s4 s5 mw s
  | .cutOff l => Sys2Proof.Machine.execCutOff l s
  | .hoiFrameWrite who value => Sys2Proof.Machine.execHoiFrameWrite who value s
  | .hoiOpen ini mask => Sys2Proof.Machine.execHoiOpen ini mask s
  | .hoiCommit ini mask => Sys2Proof.Machine.execHoiCommit ini mask s
  | .forcedCommit l => Sys2Proof.Machine.execForcedCommit l s
  | .frameLockLost => Sys2Proof.Machine.execFrameLockLost s
  | .registerWrite who addr value => Sys2Proof.Machine.execRegisterWrite who addr value s
  | .pwmRun who value => Sys2Proof.Machine.execPwmRun who value s
  | .pwmEdge t n => Sys2Proof.Machine.execPwmEdge t n s
  | .complementTurnOn t n => Sys2Proof.Machine.execComplementTurnOn t n s
  | .snCrossing t n high => Sys2Proof.Machine.execSnCrossing t n high s
  | .snWatchTimeout t n => Sys2Proof.Machine.execSnWatchTimeout t n s
  | .readbackCheck t n isHigh node => Sys2Proof.Machine.execReadbackCheck t n isHigh node s
  | .tripInput t run => Sys2Proof.Machine.execTripInput t run s
  | .tripAscTurnOn t => Sys2Proof.Machine.execTripAscTurnOn t s
  | .tripClear who mask => Sys2Proof.Machine.execTripClear who mask s
  | .dischargeRequest who => Sys2Proof.Machine.execDischargeRequest who s
  | .openconf t who => Sys2Proof.Machine.execOpenconf t who s
  | .probeStart t => Sys2Proof.Machine.execProbeStart t s
  | .probeTimeout t => Sys2Proof.Machine.execProbeTimeout t s
  | .confirmTimeout t => Sys2Proof.Machine.execConfirmTimeout t s
  | .halvingTimeout t => Sys2Proof.Machine.execHalvingTimeout t s
  | .dischargeTimeLimit t => Sys2Proof.Machine.execDischargeTimeLimit t s
  | .windowResult t n at0 ck0 at1 ck1 => Sys2Proof.Machine.execWindowResult t n at0 ck0 at1 ck1 s
  | .sinc2Output t n ck0 ck1 => Sys2Proof.Machine.execSinc2Output t n ck0 ck1 s
  | .bitstreamLost seen => Sys2Proof.Machine.execBitstreamLost seen s
  | .fallbackReturn => Sys2Proof.Machine.execFallbackReturn s
  | .singlePathTimeout => Sys2Proof.Machine.execSinglePathTimeout s
  | .cal who value => Sys2Proof.Machine.execCal who value s
  | .calComplete t a b c ha hb hc => Sys2Proof.Machine.execCalComplete t a b c ha hb hc s
  | .hallAverage t first lead before after => Sys2Proof.Machine.execHallAverage t first lead before after s
  | .hallRange codes => Sys2Proof.Machine.execHallRange codes s
  | .fcvScanStart m => Sys2Proof.Machine.execFcvScanStart m s
  | .fcvStart who mask => Sys2Proof.Machine.execFcvStart who mask s
  | .fcvReady m => Sys2Proof.Machine.execFcvReady m s
  | .fcvStartupTimeout m => Sys2Proof.Machine.execFcvStartupTimeout m s
  | .fcvResult t e codes => Sys2Proof.Machine.execFcvResult t e codes s
  | .resolverSample t lead pairs => Sys2Proof.Machine.execResolverSample t lead pairs s
  | .encoderCount t samples => Sys2Proof.Machine.execEncoderCount t samples s
  | .indexEvent t zWas z withIllegal withPreset => Sys2Proof.Machine.execIndexEvent t zWas z withIllegal withPreset s
  | .wireFault pair equalFor => Sys2Proof.Machine.execWireFault pair equalFor s
  | .wirefltClear who mask => Sys2Proof.Machine.execWirefltClear who mask s
  | .preset who value => Sys2Proof.Machine.execPreset who value s
  | .hallStateChange t code => Sys2Proof.Machine.execHallStateChange t code s
  | .hallIllegalPersist => Sys2Proof.Machine.execHallIllegalPersist s
  | .ssiWordEnd t low rises => Sys2Proof.Machine.execSsiWordEnd t low rises s
  | .ssiRetry t => Sys2Proof.Machine.execSsiRetry t s
  | .positionTimeout => Sys2Proof.Machine.execPositionTimeout s
  | .sentFrame t sync pulses pause => Sys2Proof.Machine.execSentFrame t sync pulses pause s
  | .sentslowRead => Sys2Proof.Machine.execSentslowRead s
  | .wheelCount t n samples => Sys2Proof.Machine.execWheelCount t n samples s
  | .ppsEdge t rising => Sys2Proof.Machine.execPpsEdge t rising s
  | .ppsLost t => Sys2Proof.Machine.execPpsLost t s
  | .speedTimeout t src => Sys2Proof.Machine.execSpeedTimeout t src s
  | .retpri who value => Sys2Proof.Machine.execRetpri who value s
  | .programTrigger t p => Sys2Proof.Machine.execProgramTrigger t p s
  | .outputPoint t p => Sys2Proof.Machine.execOutputPoint t p s
  | .cleNop => Sys2Proof.Machine.execCleNop s
  | .cleEnd t => Sys2Proof.Machine.execCleEnd t s
  | .cleBr mode lane target => Sys2Proof.Machine.execCleBr mode lane target s
  | .cleSetp p ofs => Sys2Proof.Machine.execCleSetp p ofs s
  | .cleLd d p inc ofs => Sys2Proof.Machine.execCleLd d p inc ofs s
  | .cleSt d p inc ofs => Sys2Proof.Machine.execCleSt d p inc ofs s
  | .cleLdi d e imm => Sys2Proof.Machine.execCleLdi d e imm s
  | .cleIn d port => Sys2Proof.Machine.execCleIn d port s
  | .cleOut a port => Sys2Proof.Machine.execCleOut a port s
  | .cleMov d a => Sys2Proof.Machine.execCleMov d a s
  | .cleLane d a n la lb => Sys2Proof.Machine.execCleLane d a n la lb s
  | .cleScl d a k => Sys2Proof.Machine.execCleScl d a k s
  | .cleNrm d a => Sys2Proof.Machine.execCleNrm d a s
  | .cleAdd d a b n => Sys2Proof.Machine.execCleAdd d a b n s
  | .cleSub d a b n => Sys2Proof.Machine.execCleSub d a b n s
  | .cleMul d a b n => Sys2Proof.Machine.execCleMul d a b n s
  | .cleMac d a b n => Sys2Proof.Machine.execCleMac d a b n s
  | .cleMacb d a b n lb => Sys2Proof.Machine.execCleMacb d a b n lb s
  | .cleSel d a b n => Sys2Proof.Machine.execCleSel d a b n s
  | .cleCmp a b cc => Sys2Proof.Machine.execCleCmp a b cc s
  | .cleLim d a b c n => Sys2Proof.Machine.execCleLim d a b c n s
  | .cleRmp d a b c n => Sys2Proof.Machine.execCleRmp d a b c n s
  | .clePi d a b c n => Sys2Proof.Machine.execClePi d a b c n s
  | .cleTlu d a p n la => Sys2Proof.Machine.execCleTlu d a p n la s
  | .cleClk d a n => Sys2Proof.Machine.execCleClk d a n s
  | .cleIck d a n => Sys2Proof.Machine.execCleIck d a n s
  | .clePrk d a b n => Sys2Proof.Machine.execClePrk d a b n s
  | .cleIpk d a b n => Sys2Proof.Machine.execCleIpk d a b n s
  | .cleScs d a la => Sys2Proof.Machine.execCleScs d a la s
  | .cleSvm d a b n => Sys2Proof.Machine.execCleSvm d a b n s
  | .cleRun who value => Sys2Proof.Machine.execCleRun who value s
  | .programEnable who mask => Sys2Proof.Machine.execProgramEnable who mask s
  | .codeCheckComplete p => Sys2Proof.Machine.execCodeCheckComplete p s
  | .chken who value => Sys2Proof.Machine.execChken who value s
  | .spdata who value => Sys2Proof.Machine.execSpdata who value s
  | .spdatag who value lane exp => Sys2Proof.Machine.execSpdatag who value lane exp s
  | .codeCheckPass p => Sys2Proof.Machine.execCodeCheckPass p s
  | .arithmeticCheck ok => Sys2Proof.Machine.execArithmeticCheck ok s
  | .selfCheckStarved => Sys2Proof.Machine.execSelfCheckStarved s
  | .buntingStart who value => Sys2Proof.Machine.execBuntingStart who value s
  | .buntingStop who value => Sys2Proof.Machine.execBuntingStop who value s
  | .frameEntry m t d1 d0 => Sys2Proof.Machine.execFrameEntry m t d1 d0 s
  | .measEnd t => Sys2Proof.Machine.execMeasEnd t s
  | .shortTimeout t => Sys2Proof.Machine.execShortTimeout t s
  | .alignEnd t => Sys2Proof.Machine.execAlignEnd t s
  | .startTimeout t => Sys2Proof.Machine.execStartTimeout t s
  | .retryWaitEnd t => Sys2Proof.Machine.execRetryWaitEnd t s
  | .rotorLost t => Sys2Proof.Machine.execRotorLost t s
  | .recatchDelayEnd t => Sys2Proof.Machine.execRecatchDelayEnd t s
  | .catchTimeout t => Sys2Proof.Machine.execCatchTimeout t s
  | .recatchHoldEnd t => Sys2Proof.Machine.execRecatchHoldEnd t s
  | .axisEvaluation t => Sys2Proof.Machine.execAxisEvaluation t s
  | .go n who => Sys2Proof.Machine.execGo n who s
  | .axisStop n who => Sys2Proof.Machine.execAxisStop n who s
  | .retarget n who target => Sys2Proof.Machine.execRetarget n who target s
  | .axisPreset n who value => Sys2Proof.Machine.execAxisPreset n who value s
  | .segmentWrite n who value => Sys2Proof.Machine.execSegmentWrite n who value s
  | .standstillCurrent n => Sys2Proof.Machine.execStandstillCurrent n s
  | .chopCrossing t n isA code => Sys2Proof.Machine.execChopCrossing t n isA code s
  | .axisOvercurrent n => Sys2Proof.Machine.execAxisOvercurrent n s
  | .axisOpenLoad n => Sys2Proof.Machine.execAxisOpenLoad n s
  | .axisDriverFault n => Sys2Proof.Machine.execAxisDriverFault n s
  | .fixSubmit who value => Sys2Proof.Machine.execFixSubmit who value s
  | .gnssAlignTimeout => Sys2Proof.Machine.execGnssAlignTimeout s
  | .sectionWrite who value => Sys2Proof.Machine.execSectionWrite who value s
  | .endpointWrite who value => Sys2Proof.Machine.execEndpointWrite who value s
  | .eventDispatch t => Sys2Proof.Machine.execEventDispatch t s
  | .master who value => Sys2Proof.Machine.execMaster who value s
  | .evfifoRead => Sys2Proof.Machine.execEvfifoRead s
  | .setpointReceived index value => Sys2Proof.Machine.execSetpointReceived index value s
  | .taskControllerLost => Sys2Proof.Machine.execTaskControllerLost s
  | .workStateReport => Sys2Proof.Machine.execWorkStateReport s
  | .canFrameReceived c id xtd rtr esi fdf brs dlc data => Sys2Proof.Machine.execCanFrameReceived c id xtd rtr esi fdf brs dlc data s
  | .transmissionRequest c who mask => Sys2Proof.Machine.execTransmissionRequest c who mask s
  | .canTransmitDone c k => Sys2Proof.Machine.execCanTransmitDone c k s
  | .busOffRecovery c => Sys2Proof.Machine.execBusOffRecovery c s
  | .linkDown loss => Sys2Proof.Machine.execLinkDown loss s
  | .linkTrain seen => Sys2Proof.Machine.execLinkTrain seen s
  | .delayFrame n sent returned turnaround => Sys2Proof.Machine.execDelayFrame n sent returned turnaround s
  | .linkUp seen => Sys2Proof.Machine.execLinkUp seen s
  | .trainTimeout n => Sys2Proof.Machine.execTrainTimeout n s
  | .cycleFrame t n sofUi frame eof codeErr ovf => Sys2Proof.Machine.execCycleFrame t n sofUi frame eof codeErr ovf s
  | .returningCopy t n frame eof codeErr => Sys2Proof.Machine.execReturningCopy t n frame eof codeErr s
  | .eventApply t => Sys2Proof.Machine.execEventApply t s
  | .memberLost => Sys2Proof.Machine.execMemberLost s
  | .roundLate => Sys2Proof.Machine.execRoundLate s
  | .safetyTimeout => Sys2Proof.Machine.execSafetyTimeout s
  | .acyclicFrame t n frame crc => Sys2Proof.Machine.execAcyclicFrame t n frame crc s
  | .acyclicSend t n => Sys2Proof.Machine.execAcyclicSend t n s
  | .ack n seq => Sys2Proof.Machine.execAck n seq s
  | .nak n seq => Sys2Proof.Machine.execNak n seq s
  | .ackTimeout t n seq => Sys2Proof.Machine.execAckTimeout t n seq s
  | .transactionTimeout t tid => Sys2Proof.Machine.execTransactionTimeout t tid s
  | .interruptTaken m => Sys2Proof.Machine.execInterruptTaken m s
  | .patrolScrub addr corrected arisen => Sys2Proof.Machine.execPatrolScrub addr corrected arisen s
  | .kIdentity who sess a5 a6 a7 a8 => Sys2Proof.Machine.execKIdentity who sess a5 a6 a7 a8 s
  | .kConfirm who sess a5 a6 a7 a8 => Sys2Proof.Machine.execKConfirm who sess a5 a6 a7 a8 s
  | .keyOffDischarge who sess a5 a6 a7 a8 => Sys2Proof.Machine.execKeyOffDischarge who sess a5 a6 a7 a8 s
  | .kernelSoftwareReset who sess a5 a6 a7 a8 => Sys2Proof.Machine.execKernelSoftwareReset who sess a5 a6 a7 a8 s
  | .ticketResult who sess a5 a6 a7 a8 => Sys2Proof.Machine.execTicketResult who sess a5 a6 a7 a8 s
  | .parameterRead who sess a5 a6 a7 a8 => Sys2Proof.Machine.execParameterRead who sess a5 a6 a7 a8 s
  | .parameterWrite who sess a5 a6 a7 a8 => Sys2Proof.Machine.execParameterWrite who sess a5 a6 a7 a8 s
  | .kCommit who sess a5 a6 a7 a8 => Sys2Proof.Machine.execKCommit who sess a5 a6 a7 a8 s
  | .journalAppend who sess a5 a6 a7 a8 => Sys2Proof.Machine.execJournalAppend who sess a5 a6 a7 a8 s
  | .journalRead who sess a5 a6 a7 a8 => Sys2Proof.Machine.execJournalRead who sess a5 a6 a7 a8 s
  | .burgeeChallenge who sess a5 a6 a7 a8 => Sys2Proof.Machine.execBurgeeChallenge who sess a5 a6 a7 a8 s
  | .burgeeResponse who sess a5 a6 a7 a8 => Sys2Proof.Machine.execBurgeeResponse who sess a5 a6 a7 a8 s
  | .dropSession who sess a5 a6 a7 a8 => Sys2Proof.Machine.execDropSession who sess a5 a6 a7 a8 s
  | .selfTestRequest who sess a5 a6 a7 a8 => Sys2Proof.Machine.execSelfTestRequest who sess a5 a6 a7 a8 s
  | .selfTestResult who sess a5 a6 a7 a8 => Sys2Proof.Machine.execSelfTestResult who sess a5 a6 a7 a8 s
  | .halyardRequest who sess a5 a6 a7 a8 => Sys2Proof.Machine.execHalyardRequest who sess a5 a6 a7 a8 s
  | .registerProducer who sess a5 a6 a7 a8 => Sys2Proof.Machine.execRegisterProducer who sess a5 a6 a7 a8 s
  | .switchSlotTable who sess a5 a6 a7 a8 => Sys2Proof.Machine.execSwitchSlotTable who sess a5 a6 a7 a8 s
  | .isoClient who sess a5 a6 a7 a8 => Sys2Proof.Machine.execIsoClient who sess a5 a6 a7 a8 s
  | .imageBlockWrite who sess a5 a6 a7 a8 => Sys2Proof.Machine.execImageBlockWrite who sess a5 a6 a7 a8 s
  | .imageFinalise who sess a5 a6 a7 a8 => Sys2Proof.Machine.execImageFinalise who sess a5 a6 a7 a8 s
  | .ticketComplete n confirmed => Sys2Proof.Machine.execTicketComplete n confirmed s
  | .paAdd m rd ra rb => Sys2Proof.Machine.execPaAdd m rd ra rb s
  | .paSub m rd ra rb => Sys2Proof.Machine.execPaSub m rd ra rb s
  | .paAnd m rd ra rb => Sys2Proof.Machine.execPaAnd m rd ra rb s
  | .paOr m rd ra rb => Sys2Proof.Machine.execPaOr m rd ra rb s
  | .paXor m rd ra rb => Sys2Proof.Machine.execPaXor m rd ra rb s
  | .paSll m rd ra rb => Sys2Proof.Machine.execPaSll m rd ra rb s
  | .paSrl m rd ra rb => Sys2Proof.Machine.execPaSrl m rd ra rb s
  | .paSra m rd ra rb => Sys2Proof.Machine.execPaSra m rd ra rb s
  | .paSlt m rd ra rb => Sys2Proof.Machine.execPaSlt m rd ra rb s
  | .paSltu m rd ra rb => Sys2Proof.Machine.execPaSltu m rd ra rb s
  | .paMin m rd ra rb => Sys2Proof.Machine.execPaMin m rd ra rb s
  | .paMax m rd ra rb => Sys2Proof.Machine.execPaMax m rd ra rb s
  | .paMinu m rd ra rb => Sys2Proof.Machine.execPaMinu m rd ra rb s
  | .paMaxu m rd ra rb => Sys2Proof.Machine.execPaMaxu m rd ra rb s
  | .paAdds m rd ra rb => Sys2Proof.Machine.execPaAdds m rd ra rb s
  | .paSubs m rd ra rb => Sys2Proof.Machine.execPaSubs m rd ra rb s
  | .paAddi m rd ra imm => Sys2Proof.Machine.execPaAddi m rd ra imm s
  | .paAndi m rd ra imm => Sys2Proof.Machine.execPaAndi m rd ra imm s
  | .paOri m rd ra imm => Sys2Proof.Machine.execPaOri m rd ra imm s
  | .paXori m rd ra imm => Sys2Proof.Machine.execPaXori m rd ra imm s
  | .paSlti m rd ra imm => Sys2Proof.Machine.execPaSlti m rd ra imm s
  | .paSltiu m rd ra imm => Sys2Proof.Machine.execPaSltiu m rd ra imm s
  | .paLui m rd imm => Sys2Proof.Machine.execPaLui m rd imm s
  | .paSlli m rd ra sh => Sys2Proof.Machine.execPaSlli m rd ra sh s
  | .paSrli m rd ra sh => Sys2Proof.Machine.execPaSrli m rd ra sh s
  | .paSrai m rd ra sh => Sys2Proof.Machine.execPaSrai m rd ra sh s
  | .paMul m rd ra rb => Sys2Proof.Machine.execPaMul m rd ra rb s
  | .paMulh m rd ra rb => Sys2Proof.Machine.execPaMulh m rd ra rb s
  | .paMulhu m rd ra rb => Sys2Proof.Machine.execPaMulhu m rd ra rb s
  | .paDiv m rd ra rb => Sys2Proof.Machine.execPaDiv m rd ra rb s
  | .paDivu m rd ra rb => Sys2Proof.Machine.execPaDivu m rd ra rb s
  | .paRem m rd ra rb => Sys2Proof.Machine.execPaRem m rd ra rb s
  | .paRemu m rd ra rb => Sys2Proof.Machine.execPaRemu m rd ra rb s
  | .paLb m rd ra imm => Sys2Proof.Machine.execPaLb m rd ra imm s
  | .paLbu m rd ra imm => Sys2Proof.Machine.execPaLbu m rd ra imm s
  | .paLh m rd ra imm => Sys2Proof.Machine.execPaLh m rd ra imm s
  | .paLhu m rd ra imm => Sys2Proof.Machine.execPaLhu m rd ra imm s
  | .paLw m rd ra imm => Sys2Proof.Machine.execPaLw m rd ra imm s
  | .paFlw m rd ra imm => Sys2Proof.Machine.execPaFlw m rd ra imm s
  | .paSb m rs ra imm => Sys2Proof.Machine.execPaSb m rs ra imm s
  | .paSh m rs ra imm => Sys2Proof.Machine.execPaSh m rs ra imm s
  | .paSw m rs ra imm => Sys2Proof.Machine.execPaSw m rs ra imm s
  | .paFsw m rs ra imm => Sys2Proof.Machine.execPaFsw m rs ra imm s
  | .paGsw t m rs ra imm => Sys2Proof.Machine.execPaGsw t m rs ra imm s
  | .paBeq m ra rb off => Sys2Proof.Machine.execPaBeq m ra rb off s
  | .paBne m ra rb off => Sys2Proof.Machine.execPaBne m ra rb off s
  | .paBlt m ra rb off => Sys2Proof.Machine.execPaBlt m ra rb off s
  | .paBge m ra rb off => Sys2Proof.Machine.execPaBge m ra rb off s
  | .paBltu m ra rb off => Sys2Proof.Machine.execPaBltu m ra rb off s
  | .paBgeu m ra rb off => Sys2Proof.Machine.execPaBgeu m ra rb off s
  | .paJal m off => Sys2Proof.Machine.execPaJal m off s
  | .paJalr m rd ra imm => Sys2Proof.Machine.execPaJalr m rd ra imm s
  | .paKcall m => Sys2Proof.Machine.execPaKcall m s
  | .paTret m => Sys2Proof.Machine.execPaTret m s
  | .paBrk m => Sys2Proof.Machine.execPaBrk m s
  | .paFence m => Sys2Proof.Machine.execPaFence m s
  | .paWait m => Sys2Proof.Machine.execPaWait m s
  | .paGetsr m rd sr => Sys2Proof.Machine.execPaGetsr m rd sr s
  | .paPutsr m ra sr => Sys2Proof.Machine.execPaPutsr m ra sr s
  | .paFadd m fd fa fb rm t => Sys2Proof.Machine.execPaFadd m fd fa fb rm t s
  | .paFsub m fd fa fb rm t => Sys2Proof.Machine.execPaFsub m fd fa fb rm t s
  | .paFmul m fd fa fb rm t => Sys2Proof.Machine.execPaFmul m fd fa fb rm t s
  | .paFdiv m fd fa fb rm t => Sys2Proof.Machine.execPaFdiv m fd fa fb rm t s
  | .paFsqrt m fd fa rm t => Sys2Proof.Machine.execPaFsqrt m fd fa rm t s
  | .paFmin m fd fa fb => Sys2Proof.Machine.execPaFmin m fd fa fb s
  | .paFmax m fd fa fb => Sys2Proof.Machine.execPaFmax m fd fa fb s
  | .paFneg m fd fa => Sys2Proof.Machine.execPaFneg m fd fa s
  | .paFabs m fd fa => Sys2Proof.Machine.execPaFabs m fd fa s
  | .paFeq m fd fa fb => Sys2Proof.Machine.execPaFeq m fd fa fb s
  | .paFlt m fd fa fb => Sys2Proof.Machine.execPaFlt m fd fa fb s
  | .paFle m fd fa fb => Sys2Proof.Machine.execPaFle m fd fa fb s
  | .paFcvtws m fd fa rm t => Sys2Proof.Machine.execPaFcvtws m fd fa rm t s
  | .paFcvtsw m fd fa rm t => Sys2Proof.Machine.execPaFcvtsw m fd fa rm t s
  | .paFmvxw m fd fa => Sys2Proof.Machine.execPaFmvxw m fd fa s
  | .paFmvwx m fd fa => Sys2Proof.Machine.execPaFmvwx m fd fa s
  | .paFma m fd fa fb fc rm t minus => Sys2Proof.Machine.execPaFma m fd fa fb fc rm t minus s
  | .paCkpt t m z ga fm id => Sys2Proof.Machine.execPaCkpt t m z ga fm id s
  | .compareTimeout t => Sys2Proof.Machine.execCompareTimeout t s
  | .duplicatedRegionSet who value => Sys2Proof.Machine.execDuplicatedRegionSet who value s
  | .copyComplete => Sys2Proof.Machine.execCopyComplete s
  | .dbgOpen who value => Sys2Proof.Machine.execDbgOpen who value s
  | .dbgHalt who => Sys2Proof.Machine.execDbgHalt who s
  | .dbgResume who => Sys2Proof.Machine.execDbgResume who s
  | .dbgStep who => Sys2Proof.Machine.execDbgStep who s
  | .dbgBreakpointHit n => Sys2Proof.Machine.execDbgBreakpointHit n s
  | .dbgRegisterData who value => Sys2Proof.Machine.execDbgRegisterData who value s
  | .dbgMemoryData who value => Sys2Proof.Machine.execDbgMemoryData who value s
  | .arm who => Sys2Proof.Machine.execArm who s
  | .disarm who => Sys2Proof.Machine.execDisarm who s
  | .start t who => Sys2Proof.Machine.execStart t who s
  | .stop t who => Sys2Proof.Machine.execStop t who s
  | .sto who => Sys2Proof.Machine.execSto who s
  | .reloff who => Sys2Proof.Machine.execReloff who s
  | .relarm t who => Sys2Proof.Machine.execRelarm t who s
  | .windrel who => Sys2Proof.Machine.execWindrel who s
  | .heartbeatLoss t src => Sys2Proof.Machine.execHeartbeatLoss t src s
  | .msTick t sfb0 sfb1 => Sys2Proof.Machine.execMsTick t sfb0 sfb1 s
  | .ascTurnOn t => Sys2Proof.Machine.execAscTurnOn t s
  | .tableStale t => Sys2Proof.Machine.execTableStale t s
  | .ss1TimeLimit t => Sys2Proof.Machine.execSs1TimeLimit t s
  | .ss1NotStarted t => Sys2Proof.Machine.execSs1NotStarted t s
  | .testFreewheel pads => Sys2Proof.Machine.execTestFreewheel pads s
  | .testAscL pads => Sys2Proof.Machine.execTestAscL pads s
  | .testAscH pads => Sys2Proof.Machine.execTestAscH pads s
  | .testHeartbeatWithhold acted => Sys2Proof.Machine.execTestHeartbeatWithhold acted s
  | .latentTestDue => Sys2Proof.Machine.execLatentTestDue s
  | .swallowtailTest ends => Sys2Proof.Machine.execSwallowtailTest ends s
  | .safetyInputChange t run stamp level => Sys2Proof.Machine.execSafetyInputChange t run stamp level s
  | .testPulse line stamp seen => Sys2Proof.Machine.execTestPulse line stamp seen s
  | .offPulse line sfb => Sys2Proof.Machine.execOffPulse line sfb s
  | .safReset who mask => Sys2Proof.Machine.execSafReset who mask s
  | .outputOn who value => Sys2Proof.Machine.execOutputOn who value s
  | .queuedReaction => Sys2Proof.Machine.execQueuedReaction s
  | .faultClear who id => Sys2Proof.Machine.execFaultClear who id s
  | .clearAll who => Sys2Proof.Machine.execClearAll who s
  | .faultRecordMove => Sys2Proof.Machine.execFaultRecordMove s
  | .thermalModelStale => Sys2Proof.Machine.execThermalModelStale s
  | .orderlyStopEnd stop => Sys2Proof.Machine.execOrderlyStopEnd stop s
  | .reEnable who value => Sys2Proof.Machine.execReEnable who value s
  | .lifeCounterSave => Sys2Proof.Machine.execLifeCounterSave s
  | .bstRequest t who mask => Sys2Proof.Machine.execBstRequest t who mask s
  | .admissionScan t mw => Sys2Proof.Machine.execAdmissionScan t mw s
  | .admissionTimeout t k => Sys2Proof.Machine.execAdmissionTimeout t k s
  | .testComplete k ok => Sys2Proof.Machine.execTestComplete k ok s
  | .hostRead hcrc sess addr n late => Sys2Proof.Machine.execHostRead hcrc sess addr n late s
  | .hostWrite hcrc sess addr words dcrc => Sys2Proof.Machine.execHostWrite hcrc sess addr words dcrc s
  | .hostStatus head => Sys2Proof.Machine.execHostStatus head s
  | .hostService head last num a5 a6 a7 a8 dcrc => Sys2Proof.Machine.execHostService head last num a5 a6 a7 a8 dcrc s
  | .hostResult tail ticket => Sys2Proof.Machine.execHostResult tail ticket s
  | .frameAbort => Sys2Proof.Machine.execFrameAbort s
  | .sessionTimeout n => Sys2Proof.Machine.execSessionTimeout n s
  | .pllLock hly => Sys2Proof.Machine.execPllLock hly s
  | .arcWithinLimits => Sys2Proof.Machine.execArcWithinLimits s
  | .supplyReturn x => Sys2Proof.Machine.execSupplyReturn x s
  | .tripInputInactive t run => Sys2Proof.Machine.execTripInputInactive t run s
  | .canBusError c sending dominant => Sys2Proof.Machine.execCanBusError c sending dominant s
  | .pcvOverrun => Sys2Proof.Machine.execPcvOverrun s
  | .implNapWake => Sys2Proof.Machine.execImplNapWake s
  | .chopPhaseTimeout t n isA timer => Sys2Proof.Machine.execChopPhaseTimeout t n isA timer s
  | .bitstreamRestored n => Sys2Proof.Machine.execBitstreamRestored n s
  | .hostFrameErrorsQuiet => Sys2Proof.Machine.execHostFrameErrorsQuiet s
  | .boundaryScan extest cells scan => Sys2Proof.Machine.execBoundaryScan extest cells scan s
  | .illegalInstruction m => Sys2Proof.Machine.execIllegalInstruction m s
  | .cleIllegalOpcode op => Sys2Proof.Machine.execCleIllegalOpcode op s

end Sys2Proof.Machine
end

