-- ==== Sys2Proof/Machine/Step.lean ====
section
/-!
DEFINITION. One step: the command at the front of the queue takes its effect; an empty queue idles.
-/
namespace Sys2Proof.Machine

/-- Take the front command and run it with the queue's rest; on an empty queue the device stays as it is (DESIGN
CHOICE: everything that time does is a command of the table, a boundary, a tick or a timeout) (DESIGN CHOICE, assumption 1). -/
def step (s : State) : Host.Outcome State Fault Refusal :=
  match s.pending with
  | [] => .next s
  | c :: rest => exec c { s with pending := rest }

/-- The state with the command that a word spells at the front of its queue (DESIGN CHOICE, assumption 10). -/
def State.withFetchWord (s : State) (nbits w : Nat) : State :=
  match decodeTableWord nbits w with
  | some c => { s with pending := c :: s.pending }
  | none => s

end Sys2Proof.Machine
end

