-- ==== Sys2Proof/Safety.lean ====
section
/-!
DEFINITION. What counts as a safe state of the gate-drive group and its flags, in the terms the statements use (R5, R29 to R33,
R106, R414).
-/
namespace Sys2Proof.Machine

open Reg

/-- Both switches of a leg conduct. -/
def PadLeg.shoot (p : PadLeg) : Bool := p.hi && p.lo

/-- Some leg has both its pads active. -/
def State.shootThrough (s : State) : Bool := s.pins.padA.shoot || s.pins.padB.shoot || s.pins.padC.shoot

/-- The enables, the discharge pin, NFAULT, HIRQ and the other output pads are what the rest of the state gives them. -/
def State.pinsFollow (s : State) : Prop :=
  s.pins.gdenH = s.gdenH ∧ s.pins.gdenL = s.gdenL ∧ s.pins.adis = s.adis ∧ s.pins.nfaultLow = s.nfaultLow
    ∧ s.pins.hirqLow = s.hirqLow ∧ s.pins.out = s.outPads

/-- Both pads of a leg are off. -/
def PadLeg.isOff (p : PadLeg) : Prop := p.hi = false ∧ p.lo = false

/-- All six pads are off: the bridge coasts (R5). -/
def State.coasts (s : State) : Prop := s.pins.padA.isOff ∧ s.pins.padB.isOff ∧ s.pins.padC.isOff

/-- A run is safe at a state: no leg shoots through outside EXTEST, and the pins follow the state. -/
def State.safe (s : State) : Prop := (s.extestActive = false → s.shootThrough = false) ∧ s.pinsFollow

/-! The terms of the statements. -/

/-- The machine after a command whose effect on everything but the pins and the queue gives `x`. -/
def State.after (s x : State) : State := { settle x with pending := s.pending }

/-- Every register field but the ones listed keeps its active value. -/
def State.keepsRegs (s u : State) (l : List Fld) : Prop := ∀ f : Fld, f.key ∉ l.map Fld.key → u.r f = s.r f

/-- Every byte of memory keeps its value. -/
def State.keepsMem (s u : State) : Prop := ∀ a : Nat, u.byte a = s.byte a

/-- A fault is raised: its id is active, and FLT_LAST names it unless the queue overflowed with it (R404). -/
def State.raised (u : State) (id : Nat) : Prop := u.hasFault id = true

/-- The engine is up and `i` is its running instance, above `rest`, with a good instruction to fetch (R192, R197, R210). -/
def State.cleRuns (s : State) (i : Instance) (rest : List Instance) : Prop :=
  s.cleLive = true ∧ s.cle.started = i :: rest ∧ i.pc < 4096 ∧ s.badFetch i.pc = false

/-- The bank that an instance runs in (R197). -/
def State.bankOf (s : State) (i : Instance) : Bank := s.bank (s.prio i.prog)

/-- A core issues and fetches its next instruction: no wait, no denial, no bus error (R313, R317, R338, R348, R363). -/
def State.fetches (s : State) (m : Bool) : Prop :=
  s.issues m = true ∧ s.waits (s.core m).pc.toNat = false ∧ (s.core m).denied .fetch (s.core m).pc.toNat 4 = none ∧
    s.answers (s.redirect m (s.core m).pc.toNat) = true ∧ s.secded (s.redirect m (s.core m).pc.toNat) = none

/-- A core after its fetch: a turned bit of the word it fetched is counted, and SRAM has it written back (R322). -/
def State.fetched (s : State) (m : Bool) : State := s.seesWord m (s.redirect m (s.core m).pc.toNat)

/-- A core has run one instruction and stands as `c`; the other core stands as it did, and no register but DBG_STS.STATE, no
shadow and no fault has changed. -/
def State.ran (s u : State) (m : Bool) (c : Core) : Prop :=
  u.core m = { c with waiting := false, retired := (s.core m).retired + 1 } ∧ u.core (!m) = s.core (!m) ∧
    s.keepsRegs u [DBG_STS_STATE] ∧ u.shadow = s.shadow ∧ u.flt = s.flt

/-- A core takes an exception (R315, R316, R347), or with INTRAP set locks up (R317); `k` says that the kernel region decided. -/
def State.raises (s u : State) (m : Bool) (code : Nat) (resume tval : Word) (k : Bool) : Prop :=
  let c := s.core m
  let toK : Bool := c.mode == .k || code == 0xA || k
  let base : Nat := if toK then Config.kernelTable % 32 * 1024 else c.tbase.toNat
  (c.inTrap = false ∨ (s.core (!m)).locked = false → u.core (!m) = s.core (!m) ∧ s.keepsMem u) ∧
  (c.inTrap = false → u.core m = { c with
    tpc := resume, tstatus := c.status, tcause := BitVec.ofNat 32 code, tval := tval
    status := statusWord (if toK then 0 else 1) c.ie true c.ipl, pc := BitVec.ofNat 32 (base + 16 * code), waiting := false }) ∧
  (c.inTrap = true → (s.core (!m)).locked = false →
    u.core m = { c with tcause := BitVec.ofNat 32 (code + 64), waiting := false } ∧ u.raised Fid.coreLockup)

/-- The kernel serves the program's calls, and neither core stands in one: a service command's operands are its arguments
(R323, R360). -/
def State.serves (s : State) : Prop := s.coresRun = true ∧ s.cpm.phase = .running ∧ s.inCall = false

/-- A call has returned at once: g4 to g6 of both cores hold its reply and g7 to g9 are 0 (R324). -/
def State.replies (u : State) (st : Nat) (g5 g6 : Word) : Prop :=
  ∀ m, (u.core m).gr 4 = BitVec.ofNat 32 st ∧ (u.core m).gr 5 = g5 ∧ (u.core m).gr 6 = g6 ∧
    (u.core m).gr 7 = 0 ∧ (u.core m).gr 8 = 0 ∧ (u.core m).gr 9 = 0

/-- The queue takes work, and `n` is the ticket it gets (R325). -/
def State.room (s : State) (n : Nat) : Prop := s.freeTicket = some n ∧ s.kern.queue.length < 16

/-- A call of the program has been accepted: its work stands in the queue with the result its ticket will give, and the call
has returned PENDING with the ticket (R324). -/
def State.queued (s u : State) (num n arg st : Nat) (g5 g6 : Word) : Prop :=
  u.kern.queue = s.kern.queue ++ [⟨num, n, arg, .program, st, g5, g6⟩] ∧ (⟨n, .program, none⟩ : Ticket) ∈ u.kern.tickets ∧
    u.replies 1 (BitVec.ofNat 32 n) 0

/-- The switched domains `dom` are held in reset at the start of a boot, with the cause recorded and every other cause as it was;
OTP and SRAM stand where no flash work was under way, and the CLE memories are empty (R49, R71). -/
def State.heldInReset (s u : State) (cause : Fld) (dom on : Nat) : Prop :=
  u.cpm.phase = .inReset ∧ u.cpm.inReset = dom ∧ u.cpm.dev = .run ∧ u.r cause = 1 ∧ u.sss.stopped = true ∧
  u.r CPM_STATE_DOMON = on ∧
  (s.kern.flash = [] → ∀ a < 0x40000000, kindOf a ≠ .flash → kindOf a ≠ .cle → u.byte a = s.byte a) ∧
  (∀ a, kindOf a = .cle → u.byte a = State.reset.byte a) ∧
  (∀ f ∈ [CPM_RSTCAUSE_SUPPLY, CPM_RSTCAUSE_NRSTPIN, CPM_RSTCAUSE_SOFT, CPM_RSTCAUSE_BWDOG, CPM_RSTCAUSE_FLTRST,
    CPM_RSTCAUSE_PARKWAKE, CPM_RSTCAUSE_DORMWAKE, CPM_RSTCAUSE_TRIALWD, CPM_RSTCAUSE_POR], f ≠ cause → u.r f = s.r f)

/-- Flash stands where no program or erase is under way (R71). -/
def State.flashStands (s u : State) : Prop := s.kern.flash = [] → ∀ a, kindOf a = .flash → u.byte a = s.byte a

/-- The boot up to its slot choice: the switched domains released, OTP read, SRAM cleared (R72). -/
def State.bootReady (s : State) (trimBad : Bool) : State :=
  (((s.bootRelease).bootOtp (trimBad || s.otpWorn 0x40 0x1000)).autoClear Fid.xoLoss).bootClear

/-- OTP words other than the trims' hold an uncorrectable error that the machine knows of (R84). -/
def State.otpUnread (s : State) : Bool := s.otpWorn 0 0x40 || s.otpWorn 0x1000 0x1080 || s.otpWorn 0x1090 0x10A8

/-- What TRIP_INPUT finds of a source: enough equal samples of a pin, or OC or OV standing (R114). -/
def State.sourceSeen (s : State) (n samples : Nat) : Bool :=
  if n < 4 then s.filtered n samples else if n = 4 then s.ocOpen else s.ovStands

end Sys2Proof.Machine
end

