-- ==== Sys2Proof/WellFormed.lean ====
section
/-!
DEFINITION. Commands whose terms name an event that can happen. The types of the operands rule out most that cannot; the
checks here name the rest. A meaning is total all the same.
-/
namespace Sys2Proof

/-- No number stands twice. -/
def distinct : List Nat → Bool
  | [] => true
  | a :: l => !l.contains a && distinct l

/-- The checks, one arm per command that has one (DESIGN CHOICE, assumption 140). -/
def Instr.wellFormed (i : Instr) : Bool :=
  match i with
  | .registerWrite _ addr _ => addr.toNat % 4 == 0
  | .patrolScrub addr _ _ => addr.toNat % 4 == 0
  | .canFrameReceived _ _ _ rtr _ fdf _ _ data => !(fdf && rtr) && decide (data.length ≤ 64)
  | .acyclicFrame _ _ frame _ => decide (frame.payload.length ≤ 256)
  | .boundaryScan _ _ scan => distinct scan.cells && distinct scan.high
  | .cycleFrame _ _ _ frame _ _ _ => decide (frame.length ≤ 131072)
  | .returningCopy _ _ frame _ _ => decide (frame.length ≤ 131072)
  | _ => true

end Sys2Proof
end

