-- ==== Sys2Proof/Certificates/Slice0/Obligations.lean ====
section
/-!
DEFINITION. The statements for the provers: what the commands, the state and the whole machine do by the rules of the spec.
-/
open Sys2Proof Sys2Proof.Machine Sys2Proof.Reg

/-! The block as a whole. -/

/-- A step is the front command's effect with the queue's rest; on an empty queue the block idles (assumption 1). -/
def Obligations.StepRunsTheFrontCommand : Prop :=
  (∀ (c : Instr) (rest : List Instr) (s : State), s.pending = c :: rest → step s = exec c { s with pending := rest }) ∧
  (∀ s : State, s.pending = [] → step s = .next s)

/-- No command stops the device, no command touches the queue of waiting commands, and n waiting commands run in n steps. -/
def Obligations.EveryCommandAnswersAndKeepsTheQueue : Prop :=
  (∀ (c : Instr) (s : State), ∃ u, exec c s = .next u ∧ u.pending = s.pending) ∧
  ∀ s : State, ∃ u : State, Sys2Proof.core.run s.pending.length s = .next u ∧ u.pending = []

/-- Whatever command runs, no leg ever conducts on both sides outside EXTEST, and the pins the SSS, DIS, FLT and HSP own follow
their state. -/
def Obligations.LegsNeverShootThroughAndPinsFollow : Prop :=
  ∀ s u : State, s.safe → step s = .next u → u.safe

/-- The reset state meets the invariant, with the bridge coasting. -/
def Obligations.ResetStateIsSafe : Prop := State.reset.safe ∧ State.reset.coasts

/-- No forced pattern turns a switch on before its leg's dead time has passed. -/
def Obligations.ForcedSwitchWaitsItsDeadTime : Prop :=
  ∀ (t : Nat) (run : PinRun) (who : Agent) (mask : BitVec 6) (c : Instr) (s u : State),
    c ∈ [Instr.tripInput t run, .tripInputInactive t run, .tripAscTurnOn t, .tripClear who mask] → exec c s = .next u →
    u.cpm.vio = true → u.extestActive = false → u.b SSS_STS_OVR = false → u.latched ≠ [] →
    ∀ p ∈ [(s.pins.padA, u.pins.padA), (s.pins.padB, u.pins.padB), (s.pins.padC, u.pins.padC)],
      (p.2.hi = true → p.1.hi = false → p.1.lo = false ∧ p.1.offLo + u.r PWM_DTMAX_DTMAX ≤ u.nowF) ∧
      (p.2.lo = true → p.1.lo = false → p.1.hi = false ∧ p.1.offHi + u.r PWM_DTMAX_DTMAX ≤ u.nowF)

/-- The pads of a safe state held by the SSS, after every command. -/
def Obligations.OverridePatternOfTheSafeState : Prop :=
  ∀ (c : Instr) (s u : State), exec c s = .next u →
    u.cpm.vio = true → u.extestActive = false → u.b SSS_STS_OVR = true →
    (u.safest = .freewheel → u.patternOn = false → u.coasts) ∧
    (u.patternOn = true → ∀ q ∈ [u.pins.padA, u.pins.padB, u.pins.padC],
      (q.hi = true ↔ u.sss.pattern = .ascH) ∧ (q.lo = true ↔ u.sss.pattern = .ascL)) ∧
    (u.safest = .ascL → u.pins.padA.hi = false ∧ u.pins.padB.hi = false ∧ u.pins.padC.hi = false ∧
      (u.sss.ascOn = true → u.pins.padA.lo = true ∧ u.pins.padB.lo = true ∧ u.pins.padC.lo = true)) ∧
    (u.safest = .ascH → u.pins.padA.lo = false ∧ u.pins.padB.lo = false ∧ u.pins.padC.lo = false ∧
      (u.sss.ascOn = true → u.pins.padA.hi = true ∧ u.pins.padB.hi = true ∧ u.pins.padC.hi = true))

/-- The enables in SAFE (R30). -/
def Obligations.EnablesFollowTheSafeState : Prop :=
  ∀ (c : Instr) (s u : State), exec c s = .next u →
    u.cpm.vio = true → u.drv = .safe → u.b SSS_STS_WINDREL = false →
    (u.pins.gdenH = true ↔ u.safest = .ascH) ∧ (u.pins.gdenL = true ↔ u.safest = .ascL)

/-! Resets, supplies, boot (chapters 02 to 04). -/

/-- The device resets and their causes (R69, R71, R85); a held safe state stays through NRST (R31); the pin needs VIO (R25). -/
def Obligations.ResetSourcesHoldTheSwitchedDomains : Prop :=
  ∀ s : State,
  (s.cpm.vio = true → ∃ u, exec .nrst s = .next u ∧ s.heldInReset u CPM_RSTCAUSE_NRSTPIN 0x1FF 0b100000111 ∧ s.flashStands u ∧
    (s.drv = .safe → s.b SSS_STS_WINDREL = false → u.drv = .safe ∧ u.safest = s.safest)) ∧
  (s.cpm.vio = false → exec .nrst s = .next (s.after s)) ∧
  (∀ who, s.live .sys → s.mayWrite who CPM_RSTREQ_KEY → (who = .program → s.b CMP_STS_MIS = false) →
    ∃ u, exec (.softwareReset who 0x5A) s = .next u ∧ s.heldInReset u CPM_RSTCAUSE_SOFT 0x1FF 0b100000111 ∧ s.flashStands u) ∧
  (∀ who key, key ≠ 0x5A → exec (.softwareReset who key) s = .next (s.after s)) ∧
  (s.cpm.phase = .inReset ∨ s.cpm.phase = .rom →
    ∃ u, exec .bootWatchdog s = .next u ∧ s.heldInReset u CPM_RSTCAUSE_BWDOG 0x1FF 0b100000111) ∧
  (s.cpm.trialRun = true → s.cpm.trialEnd ≤ s.cpm.msTick →
    ∃ u, exec .trialWatchdog s = .next u ∧ s.heldInReset u CPM_RSTCAUSE_TRIALWD 0x1FF 0b100000111 ∧ s.flashStands u) ∧
  (∃ u, exec (.supplyLow .vddc) s = .next u ∧ u.cpm.vddc = false ∧ Supply.vddc ∉ u.cpm.held ∧ s.flashStands u ∧
    s.heldInReset u CPM_RSTCAUSE_SUPPLY (if bit s.cpm.inReset (domBit .hly) then 0x1FF else 0x1FF - 2 ^ domBit .hly)
      (if s.on .hly then 0b100000111 + 2 ^ domBit .hly else 0b100000111) ∧ u.hly = s.hly)

/-- Supplies, power-on and the TAP (R26, R32, R33, R45, R46, R419). -/
def Obligations.SuppliesAndPowerOn : Prop :=
  ∀ s : State,
  (∃ u, exec .vaonPor s = .next u ∧ (∀ f : Fld, u.r f = f.reset) ∧ u.shadow = [] ∧ s.flashStands u ∧
    (s.kern.flash = [] → ∀ a, kindOf a = .otp → u.byte a = s.byte a) ∧
    (∀ a, 0x20000000 ≤ a → a < 0x20100000 → u.byte a = 0)) ∧
  (∀ x, s.deep = false ∨ s.cpm.wakeDue = false → ∃ u, exec (.supplyHold x) s = .next u ∧ x ∈ u.cpm.held ∧ s.keepsRegs u [] ∧ s.keepsMem u ∧
    (x = .vdds → s.cpm.phase ≠ .inReset → bit u.cpm.inReset (domBit .hly) = false)) ∧
  (s.on .hly = true → ∃ u, exec (.supplyLow .vdds) s = .next u ∧ u.cpm.vdds = false ∧ bit u.cpm.inReset (domBit .hly) = true ∧
    u.r CPM_RSTCAUSE_SUPPLY = 1 ∧ u.cpm.phase = .inReset ∧ u.hly = {} ∧ s.flashStands u) ∧
  (s.on .hly = false → bit s.cpm.rising (domBit .hly) = false → ∃ u, exec (.supplyLow .vdds) s = .next u ∧ u.cpm.vdds = false ∧
    s.keepsRegs u [] ∧ s.keepsMem u) ∧
  (s.live .sys → ∃ u, exec (.supplyLow .vdda) s = .next u ∧ u.cpm.vdda = false ∧ u.raised Fid.vddaLow ∧ u.cpm.phase = s.cpm.phase) ∧
  (s.cpm.dev ≠ .dormant → s.cpm.dev ≠ .parked → ∃ u, exec (.supplyLow .vio) s = .next u ∧ u.cpm.vio = false ∧
    u.r SSS_STS_VIOLOST = 1 ∧ u.cpm.phase = .inReset ∧ u.r CPM_RSTCAUSE_SUPPLY = 1 ∧
    (∀ p ∈ [u.pins.padA, u.pins.padB, u.pins.padC], p.isOff)) ∧
  (s.cpm.dev = .dormant ∨ s.cpm.dev = .parked → ∃ u, exec (.supplyLow .vio) s = .next u ∧ u.cpm.vio = false ∧
    u.r SSS_STS_VIOLOST = 1 ∧ u.cpm.dev = s.cpm.dev ∧ s.keepsMem u) ∧
  (∃ u, exec (.supplyReturn .vdda) s = .next u ∧ u.cpm.vdda = true ∧ s.keepsMem u) ∧
  (∃ u, exec (.supplyReturn .vddc) s = .next u ∧ u.cpm.vddc = true ∧ s.keepsMem u ∧ s.keepsRegs u []) ∧
  (s.on .sys → s.cpm.vio → exec .tapReset s = .next (s.after { s with pwm := { s.pwm with extest := false } }) ∧
    ∀ e cells scan, exec (.boundaryScan e cells scan) s = .next (s.after { s with pwm :=
      { s.pwm with extest := e, cells := cells.toNat, pinCells := scan.cells, captured := s.highPads scan.high } })) ∧
  (s.on .sys = false ∨ s.cpm.vio = false → exec .tapReset s = .next (s.after s) ∧
    ∀ e cells scan, exec (.boundaryScan e cells scan) s = .next (s.after s))

/-! Domains, clocks, sleep (chapter 03). -/

/-- The clocks' events (R59, R419) and the AON time base (R60). -/
def Obligations.ClockEventsAndTheTick : Prop :=
  ∀ s : State,
  (s.live .sys → ∃ u, exec .xoLoss s = .next u ∧ bit (u.r CPM_CLKSTAT_CLKOK) 0 = false ∧ u.cpm.sysOnWrc = true ∧
    u.raised Fid.xoLoss ∧ s.keepsMem u) ∧
  (s.live .sys → ∃ u, exec (.pllUnlock false) s = .next u ∧ bit (u.r CPM_CLKSTAT_CLKOK) 1 = false ∧ u.raised Fid.mpllUnlock) ∧
  (s.live .sys → ∃ u, exec (.pllUnlock true) s = .next u ∧ bit (u.r CPM_CLKSTAT_CLKOK) 2 = false ∧ u.raised Fid.spllUnlock) ∧
  (s.live .sys → ∃ u, exec (.pllLock false) s = .next u ∧ bit (u.r CPM_CLKSTAT_CLKOK) 1 = true ∧
    s.keepsRegs u [CPM_CLKSTAT_CLKOK] ∧ s.keepsMem u ∧ u.cores = s.cores) ∧
  (s.live .sys → ∃ u, exec (.pllLock true) s = .next u ∧ bit (u.r CPM_CLKSTAT_CLKOK) 2 = true ∧ s.keepsMem u) ∧
  (s.live .sys → ∃ u, exec (.clockOutOfRange false) s = .next u ∧ bit (u.r CPM_CLKSTAT_CLKOK) 3 = false ∧ u.raised Fid.wrcRange) ∧
  (s.live .sys → s.cpm.onArc = true → ∃ u, exec (.clockOutOfRange true) s = .next u ∧ bit (u.r CPM_CLKSTAT_CLKOK) 4 = false ∧
    u.cpm.arcBad = true ∧ u.raised Fid.arcRange) ∧
  (s.cpm.arcBad = true → ∃ u, exec .arcWithinLimits s = .next u ∧ bit (u.r CPM_CLKSTAT_CLKOK) 4 = true ∧ u.cpm.arcBad = false) ∧
  (∃ u, exec .arcStarted s = .next u ∧ u.cpm = { s.cpm with arcStarted := true } ∧ s.keepsRegs u [] ∧ s.keepsMem u) ∧
  (∀ t x y, ∃ u, exec (.msTick t x y) s = .next u ∧ u.cpm.msTick = s.cpm.msTick + 1 ∧
    u.cpm.aon = (s.cpm.msTick + 1) * 32768 / 1000 ∧ s.keepsMem u)

/-- Switching domains and naps (R16, R47 to R49, R52, R77). -/
def Obligations.DomainsAndNaps : Prop :=
  ∀ s : State,
  (∀ who req, s.live .sys → s.mayWrite who CPM_DOMREQ_REQ → exec (.domainRequest who req) s = .next (s.after
    (requestable.foldl (fun s d => s.domainAsk d (bit (8 * req.toNat) (domBit d))) (s.w CPM_DOMREQ_REQ req.toNat)))) ∧
  (∀ d, s.on d = true → s.mayOff d = false → s.domainAsk d false = s.w CPM_STATE_REFUSED 1) ∧
  (∀ d, s.on d = true → s.mayOff d = true → (s.domainAsk d false).on d = false) ∧
  (∀ d, s.on d = false → bit (s.domainAsk d true).cpm.rising (domBit d) = true ∧ s.keepsRegs (s.domainAsk d true) []) ∧
  (∀ d, bit s.cpm.rising (domBit d) = true → s.live .sys → Supply.vio ∈ s.cpm.held →
    (if d = .hly then Supply.vdds else Supply.vddc) ∈ s.cpm.held →
    ∃ u, exec (.domainPowerUp d) s = .next u ∧ u.on d = true ∧ bit u.cpm.inReset (domBit d) = false ∧
      (∀ e, e ≠ d → u.on e = s.on e) ∧ s.keepsMem u) ∧
  (∀ t, s.cpm.dev = .run → s.live .impl → s.b CPM_SLEEPCFG_IMPLNAP → s.axesRest → (s.at t).eventSoon = false →
    ∃ u, exec (.implNap t) s = .next u ∧ u.cpm = { s.cpm with implNap := true } ∧ s.keepsRegs u [] ∧ s.keepsMem u) ∧
  (∃ u, exec .implNapWake s = .next u ∧ u.cpm = { s.cpm with implNap := false } ∧ s.keepsRegs u [] ∧ s.keepsMem u) ∧
  (s.cpm.dev = .run → s.live .hly → s.b CPM_SLEEPCFG_HLYNAP →
    ∃ u, exec .hlyNap s = .next u ∧ u.cpm = { s.cpm with hlyNap := true } ∧ u.hly = s.hly ∧ s.keepsRegs u [] ∧ s.keepsMem u) ∧
  (∃ u, exec .hlyNapWake s = .next u ∧ u.cpm = { s.cpm with hlyNap := false } ∧ s.keepsRegs u [] ∧ s.keepsMem u) ∧
  (s.cpm.codeReload = true → ∃ u, exec .codeReloadComplete s = .next u ∧ u.cpm.codeReload = false) ∧
  (s.cpm.cleReload = true → s.live .cle →
    ∃ u, exec .cleReloadComplete s = .next u ∧ u.cpm.cleReload = false ∧ u.r CLE_CTRL_PEN = 0) ∧
  (∀ a, s.cpm.stopFrom = some a → s.cpm.coasting = true → a + 10000 * max 1 (s.r CPM_SLEEPCFG_STOPMAX) ≤ s.cpm.msTick →
    ∃ u, exec .stopmaxExpiry s = .next u ∧ u.r CPM_STATE_UNCONF = 1 ∧ u.cpm.unconf = true ∧ s.keepsRegs u [CPM_STATE_UNCONF])

/-- The scheduler's choice of R55 with the figures and conditions of R54. -/
def Obligations.SleepDepthIsTheDeepestThatFits : Prop :=
  ∀ (s : State) (slotNs : Option Nat),
    (s.sleepDepth slotNs ≠ .run → devCode (s.sleepDepth slotNs) ≤ s.sleepCap ∧ s.maySleep (s.sleepDepth slotNs) = true ∧
      ∀ t, s.availT slotNs = some t → s.sleepCost (s.sleepDepth slotNs) ≤ t) ∧
    (∀ d, devCode (s.sleepDepth slotNs) < devCode d → devCode d ≤ s.sleepCap → s.maySleep d = true →
      ∃ t, s.availT slotNs = some t ∧ t < s.sleepCost d)

/-- Entry into sleep and the wakes (R51, R53). -/
def Obligations.SleepAndWake : Prop :=
  ∀ s : State,
  (∀ n, s.coresRun → s.cpm.phase = .running →
    (s.inCall = false ∨ (s.cores.main.callRegs = s.cores.chk.callRegs ∧ s.cores.main.gr 4 = 1)) → s.kernelPasses → s.cpm.dev = .run →
    ∃ u, exec (.sleep n) s = .next u ∧ u.cpm.dev = s.sleepDepth n) ∧
  (s.asleep → s.cpm.vio = true → (s.deep → s.bootPower) → ∃ u, exec .wakePin s = .next u ∧ u.cpm.dev = .run ∧
    (s.cpm.dev = .nap → u.r CPM_WAKESRC_WAKEPIN = 1 ∧ u.r CPM_STATE_LASTSLP = 2)) ∧
  (∀ c, s.asleep → s.cpm.vio = true → (s.deep → s.bootPower) → ∃ u, exec (.canWake c) s = .next u ∧ u.cpm.dev = .run ∧
    (s.cpm.dev = .nap → bit (u.r CPM_WAKESRC_CANRX) c.val = true ∧ u.r CPM_STATE_LASTSLP = 2)) ∧
  (s.asleep → (s.deep → s.bootPower) → s.r CPM_TIMEREV_TIMEREV ≠ 0 → ∃ u, exec .timerCompare s = .next u ∧ u.cpm.dev = .run ∧
    (s.cpm.dev = .nap → u.r CPM_WAKESRC_TIMER = 1 ∧ u.r CPM_STATE_LASTSLP = 2)) ∧
  (s.asleep → (s.deep → s.bootPower) → s.r CPM_HDLN_HDLN ≠ 0 → ∃ u, exec .hostDeadline s = .next u ∧ u.cpm.dev = .run ∧
    (s.cpm.dev = .nap → u.r CPM_WAKESRC_HOSTDL = 1 ∧ u.r CPM_STATE_LASTSLP = 2)) ∧
  (s.cpm.dev = .nap → s.ringMember → ∃ u, exec .ringSlotWake s = .next u ∧ u.cpm.dev = .run ∧ u.r CPM_WAKESRC_SLOT = 1 ∧
    u.r CPM_STATE_LASTSLP = 2) ∧
  (s.cpm.dev = .dormant ∨ s.cpm.dev = .parked → Supply.vddc ∈ s.cpm.held →
    ∃ u, exec .vioReturn s = .next u ∧ u.cpm.dev = .run ∧ u.cpm.vio = true) ∧
  (s.deep → s.bootPower = false → s.r CPM_TIMEREV_TIMEREV ≠ 0 → ∃ u, exec .timerCompare s = .next u ∧
    u.cpm = { s.cpm with wakeDue := true } ∧ s.keepsRegs u [CPM_WAKESRC_TIMER] ∧ u.r CPM_WAKESRC_TIMER = 1 ∧ s.keepsMem u) ∧
  (s.deep → s.cpm.wakeDue = true → Supply.vio ∈ s.cpm.held → ∃ u, exec (.supplyHold .vddc) s = .next u ∧ u.cpm.dev = .run ∧
    u.cpm.wakeDue = false)

/-- The end of the boot sequence (R72, R79, R81). -/
def Obligations.BootHandsOverOrRecovers : Prop :=
  ∀ (s : State) (otpBad trimBad katOk : Bool) (found : BootChecks) (us : Nat),
    s.cpm.phase = .inReset → Supply.vio ∈ s.cpm.held → Supply.vddc ∈ s.cpm.held → s.cpm.dev = .run →
    (otpBad = true ∨ s.otpUnread = true ∨ katOk = false ∨ found.pennant = true ∨
        ((s.bootReady trimBad).chooseSlot found.differ.toNat).2 = none →
      ∃ u, exec (.coldBoot otpBad trimBad katOk found us) s = .next u ∧
        u.cpm.phase = .recovery ∧ u.r CPM_BOOTSTAT_RECOV = 1 ∧ u.on .host = true) ∧
    (∀ s1 b, otpBad = false → s.otpUnread = false → katOk = true → found.pennant = false →
      (s.bootReady trimBad).chooseSlot found.differ.toNat = (s1, some b) →
      ∃ u, exec (.coldBoot otpBad trimBad katOk found us) s = .next u ∧ u.cpm.phase = .running ∧
        u.cores.main.pc = u.cores.chk.pc ∧ u.cores.main.g = u.cores.chk.g ∧ u.cores.main.f = u.cores.chk.f ∧
        u.cores.main.g[0] = 0 ∧ u.cores.main.status = u.cores.chk.status ∧ u.r CPM_RSTCAUSE_POR = 0 ∧
        u.r CPM_BOOTSTAT_BOOTUS = min 65535 us)

/-! Registers, frames and hoisting (chapters 01 and 05). -/

/-- What one word's write does by the access code (R11), the banks of R90, the hold of R92 and the roles of R9. -/
def Obligations.RegisterWriteFollowsTheAccessCode : Prop :=
  ∀ (s : State) (who : Agent) (f : Fld) (v : Word), isHost who = false →
    fieldsAt f.addr = [f] → f.addr < 2 ^ 32 → f.addr % 4 = 0 → kindOf f.addr = .window → s.answers f.addr →
    ¬ (winNo f.addr = 0x12 ∧ within (f.addr % 0x800) 0x100 1728 = true) → staged f = false → s.canReserved f = false →
    f ∉ [CLE_SPDATA_DATA, GDN_EPW2_OFFPOS] → (∀ n ∈ [0, 1], f ∈ limFields n → ((s.axFix n).axis n).limsFixed = none) →
    (∀ l, f.acc = .rws → s.mayWrite who f → s.levelOf f = some l → l ∉ s.hoi.cut → (∀ e ∈ s.hoi.late, e.key ≠ f.key) →
      ∃ u, exec (.registerWrite who (BitVec.ofNat 32 f.addr) v) s = .next u ∧ s.keepsRegs u [CPM_XSTALE_STALE] ∧ s.keepsMem u ∧
        u.shadowOf f = v.toNat / 2 ^ f.lo % 2 ^ f.width % 2 ^ 32 ∧ ∀ g : Fld, g.key ≠ f.key → u.shadowOf g = s.shadowOf g) ∧
    (∀ l, f.acc = .rws → s.mayWrite who f → s.levelOf f = some l → l ∈ s.hoi.cut →
      ∃ u, exec (.registerWrite who (BitVec.ofNat 32 f.addr) v) s = .next u ∧ u.r HOI_STS_LATE = 1 ∧
        s.keepsRegs u [HOI_STS_LATE, CPM_XSTALE_STALE] ∧ u.shadow = s.shadow ∧
        u.hoi.late = s.hoi.late ++ [⟨f.key, BitVec.ofNat 32 (v.toNat / 2 ^ f.lo % 2 ^ f.width), l⟩] ∧ s.keepsMem u) ∧
    (f.acc = .w1c → s.mayWrite who f → f ∉ POS_STS_WIREFLT :: faultFlags →
      ∃ u, exec (.registerWrite who (BitVec.ofNat 32 f.addr) v) s = .next u ∧
        u = s.after ((s.fresh (crossedBy f)).w f (s.r f - ((v.toNat / 2 ^ f.lo % 2 ^ f.width) &&& s.r f)))) ∧
    (s.mayWrite who f = false → exec (.registerWrite who (BitVec.ofNat 32 f.addr) v) s = .next (s.after s))

/-- One level's swap at its boundary (R90, R91). -/
def Obligations.SwapMovesTheLevelsShadowsAlone : Prop :=
  ∀ (s : State) (l : Level),
    (∀ f : Fld, fieldOf f.key = some f → f.width ≤ 32 → f.reset < 2 ^ 32 → s.levelOf f = some l →
      ((s.swapLevel l).r f = match sparseFind s.shadow f.key with
        | some v => v.toNat % 2 ^ f.width
        | none => s.r f) ∧ sparseFind (s.swapLevel l).shadow f.key = none) ∧
    (∀ f : Fld, fieldOf f.key = some f → s.levelOf f ≠ some l →
      (s.swapLevel l).r f = s.r f ∧ sparseFind (s.swapLevel l).shadow f.key = sparseFind s.shadow f.key) ∧
    (s.swapLevel l).hoi.count.get l = 0 ∧
    { s.swapLevel l with regs := s.regs, shadow := s.shadow, hoi := s.hoi } = s

/-- The frame timer at a boundary (R86 to R91, R97, R101). -/
def Obligations.BoundaryCountsAndSwaps : Prop :=
  ∀ s : State,
  (∀ vd s4 s5 mw, s.live .sys → s.cpm.dev = .run ∨ s.cpm.dev = .idle → exec (.boundary vd s4 s5 mw) s = .next (s.after
    ((s.countTick s.comingLevels).runBoundary s s.comingLevels [vd, s4, s5] mw))) ∧
  (∀ vd s4 s5 mw, s.cpm.dev = .nap → s.ringMember → ∃ u, exec (.boundary vd s4 s5 mw) s = .next u ∧
    u.r HOI_TICKCNT_TICKCNT = (s.r HOI_TICKCNT_TICKCNT + 1) % 2 ^ 32 ∧ (s.hoi.late = [] → u.shadow = s.shadow) ∧ s.keepsMem u ∧ u.pwm = s.pwm) ∧
  (∀ vd s4 s5 mw, s.live .sys = false → s.cpm.dev ≠ .nap → exec (.boundary vd s4 s5 mw) s = .next (s.after s)) ∧
  (∀ l, (s.countTick l).r HOI_TICKCNT_TICKCNT = (s.r HOI_TICKCNT_TICKCNT + 1) % 2 ^ 32) ∧
  (∀ l, s.hoi.wakeH = false → (s.countTick l).nowU = s.hoi.base + s.tickU) ∧
  (s.hoi.wakeH = true → s.comingLevels = [.T, .C, .L, .O, .H]) ∧
  (s.hoi.wakeH = false → (Level.C ∈ s.comingLevels ↔ s.b HOI_POS_HALF = true) ∧ Level.T ∈ s.comingLevels ∧
    (Level.O ∈ s.comingLevels → Level.L ∈ s.comingLevels) ∧ (Level.H ∈ s.comingLevels → Level.O ∈ s.comingLevels)) ∧
  (∀ l, l ∈ s.hoi.cut → l ∈ s.hoi.withheld → (s.levelBoundary l).hoi.count.get l = s.hoi.count.get l + 1 ∧
    s.keepsRegs (s.levelBoundary l) [] ∧ (s.levelBoundary l).shadow = s.shadow) ∧
  (∀ l, l ∈ s.hoi.cut → l ∉ s.hoi.withheld → s.forceDue l = false → s.levelBoundary l = s.swapLevel l)

/-- Open sets and the frame's own register (R88, R92, R95 to R97, R100). -/
def Obligations.OpenCommitCutOffAndForcedCommit : Prop :=
  ∀ s : State, s.live .sys →
  (∀ mask, s.cpm.phase ≠ .running → exec (.hoiOpen .host mask) s = .next (s.after s) ∧ exec (.hoiCommit .host mask) s = .next (s.after s)) ∧
  (∀ i mask, s.mayOpen i → ∃ u, exec (.hoiOpen i mask) s = .next u ∧ s.keepsRegs u [] ∧ s.keepsMem u ∧
    (∀ l, ((i, l) ∈ u.hoi.opened ↔ (i, l) ∈ s.hoi.opened ∨ mask.getLsbD (levelBit l) = true)) ∧
    (∀ j l, j ≠ i → ((j, l) ∈ u.hoi.opened ↔ (j, l) ∈ s.hoi.opened))) ∧
  (∀ i mask, s.mayOpen i → ∃ u, exec (.hoiCommit i mask) s = .next u ∧ s.keepsRegs u [HOI_STS_LATE] ∧ s.keepsMem u ∧
    (∀ j l, ((j, l) ∈ u.hoi.opened ↔ (j, l) ∈ s.hoi.opened ∧ ¬ (j = i ∧ mask.getLsbD (levelBit l) = true))) ∧
    (∀ l, mask.getLsbD (levelBit l) = true → (i, l) ∈ s.hoi.opened → l ∈ s.hoi.cut → u.r HOI_STS_LATE = 1)) ∧
  (∀ l, l ∈ s.comingLevels → l ∉ s.hoi.cut → l ≠ .H → ∃ u, exec (.cutOff l) s = .next u ∧ l ∈ u.hoi.cut ∧
    s.keepsRegs u (if l = .O then [CMP_CNT_GPASS, CMP_LAG_LAST, CMP_LAG_MAX] else []) ∧
    (∀ g : Fld, (l = .O → g.key ≠ (spFld 7 5).key) → u.shadowOf g = s.shadowOf g) ∧
    (l ∉ s.hoi.withheld → (l ∈ u.hoi.withheld ↔ s.isOpen l = true ∧ s.hoi.count.get l < s.openMax l))) ∧
  (∀ l, l ∈ s.comingLevels → l ∈ s.hoi.cut → s.forceDue l = true → ∃ u, exec (.forcedCommit l) s = .next u ∧
    (∀ i, ((i, l) ∈ u.hoi.opened ↔ (i, l) ∈ s.hoi.opened ∧ (i, l) ∉ s.hoi.forced)) ∧
    u.r HOI_STS_FORCED = 1 ∧ u.raised Fid.hoistOverrun) ∧
  (∀ who (v : BitVec 32), s.mayWrite who HOI_FRAME_CARP → frameOk v.toNat = false →
    ∃ u, exec (.hoiFrameWrite who v) s = .next u ∧ u = s.after (s.w HOI_STS_CFGERR 1)) ∧
  (∀ who (v : BitVec 32), s.mayWrite who HOI_FRAME_CARP → frameOk v.toNat = true → Level.H ∉ s.hoi.cut →
    ∃ u, exec (.hoiFrameWrite who v) s = .next u ∧ s.keepsRegs u [] ∧ s.keepsMem u ∧
      (s.hoi.late = [] → u.shadowOf HOI_FRAME_CARP = v.toNat % 131072 ∧ u.shadowOf HOI_FRAME_LOOPT = v.toNat / 131072 % 2 ∧
      u.shadowOf HOI_FRAME_OUTN = v.toNat / 262144 % 64 ∧ u.shadowOf HOI_FRAME_RINGN = v.toNat / 16777216 % 256)) ∧
  (s.lock = .holdover → s.r HOI_DISC_HOLDN ≤ s.hoi.missing → ∃ u, exec .frameLockLost s = .next u ∧ u.r HOI_STS_LOCK = 0 ∧
    u.r HOI_IRQ_LOCKCHG = 1 ∧ u.raised Fid.frameLockLost)

/-! The PWM stage and the discharge block (chapter 06). -/

/-- The dead time in use (R106) and the value that adaptation writes (R107). -/
def Obligations.DeadTimeStaysWithinItsSettings : Prop :=
  ∀ (s : State) (n : Nat) (high : Bool) (g : Int),
    (s.r PWM_DTMIN_DTMIN ≤ s.r PWM_DTMAX_DTMAX →
      s.r PWM_DTMIN_DTMIN ≤ s.r (PWM_DTA_HLP n) → s.r (PWM_DTA_HLP n) ≤ s.r PWM_DTMAX_DTMAX →
      s.r PWM_DTMIN_DTMIN ≤ s.r (PWM_DTA_LHN n) → s.r (PWM_DTA_LHN n) ≤ s.r PWM_DTMAX_DTMAX →
      s.r PWM_DTMIN_DTMIN ≤ s.deadUse n high g ∧ s.deadUse n high g ≤ s.r PWM_DTMAX_DTMAX) ∧
    (s.r PWM_DTMAX_DTMAX < s.r PWM_DTMIN_DTMIN → s.deadUse n high g = s.r PWM_DTMIN_DTMIN) ∧
    (s.r PWM_DTMIN_DTMIN ≤ s.r PWM_DTMAX_DTMAX → s.b PWM_CTRL_ADAPT = false ∨ g = 0 → s.deadUse n high g = s.r PWM_DTMAX_DTMAX) ∧
    (s.r PWM_DTMIN_DTMIN ≤ s.r PWM_DTMAX_DTMAX → s.b PWM_CTRL_ADAPT = true → s.b PWM_SNCFG_SNEN = true → g ≠ 0 →
      selfCommutated high g = false → s.deadUse n high g = s.r PWM_DTMIN_DTMIN) ∧
    (∀ w : SnWatch, n < 3 → s.r PWM_DTMAX_DTMAX < 65536 → s.r PWM_DTMIN_DTMIN ≤ s.r PWM_DTMAX_DTMAX →
      selfCommutated w.high w.sign = true → w.high = true →
      s.r PWM_DTMIN_DTMIN ≤ (s.snCrossed n w).r (PWM_DTA_LHN n) ∧ (s.snCrossed n w).r (PWM_DTA_LHN n) ≤ s.r PWM_DTMAX_DTMAX)

/-- The stage's edges (R107, R109, R112). -/
def Obligations.StageEdgesTurnOffBeforeTheyTurnOn : Prop :=
  ∀ s : State, s.pwmLive →
  (∀ who v, s.mayWrite who PWM_CTRL_RUN → ∃ u, exec (.pwmRun who v) s = .next u ∧ u = s.after (s.wb PWM_CTRL_RUN v)) ∧
  (∀ t n e, s.stageState = .start → s.pwm.precharge = some e → e ≤ (s.atF t).nowF → ∃ u, exec (.pwmEdge t n) s = .next u ∧
    u.pwm.legA.on = .off ∧ u.pwm.legB.on = .off ∧ u.pwm.legC.on = .off ∧ u.pwm.precharge = none ∧ s.keepsRegs u [] ∧ s.keepsMem u) ∧
  (∀ t (n : Fin 3) tc high rest, s.stageState = .run → (s.leg n.val).refresh = [] → (s.leg n.val).plan = (tc, high) :: rest →
    (s.leg n.val).actual ≠ some high →
    max tc ((s.leg n.val).openAt + (s.leg n.val).openDead + s.r PWM_MINP_MINP) ≤ (s.atF t).nowF →
    ∃ u, exec (.pwmEdge t n) s = .next u ∧ u = s.after (((s.atF t).setLeg n.val { s.leg n.val with plan := rest, cmd := high }).doEdge
      n.val high (max tc ((s.leg n.val).openAt + (s.leg n.val).openDead + s.r PWM_MINP_MINP)) tc)) ∧
  (∀ (n : Fin 3) high te tc,
    let centre := if (s.r HOI_POS_HALF == 0) == high then s.tickStartF + s.tickF else s.tickStartF
    let w := if te < centre then 2 * (centre - te) else 0
    let d := s.deadUse n.val high (s.isign n.val)
    (d + s.r PWM_MINP_MINP ≤ w → ((s.doEdge n.val high te tc).leg n.val).on = .off ∧
      ((s.doEdge n.val high te tc).leg n.val).turnOn = some (high, te + d) ∧ s.keepsRegs (s.doEdge n.val high te tc) []) ∧
    (w < d + s.r PWM_MINP_MINP → ((s.doEdge n.val high te tc).leg n.val).on = (s.leg n.val).on ∧
      bit ((s.doEdge n.val high te tc).r PWM_STS_ABS) n.val = true)) ∧
  (∀ t (n : Fin 3) high due, s.stageState = .run → (s.leg n.val).turnOn = some (high, due) → due ≤ (s.atF t).nowF →
    ∃ u, exec (.complementTurnOn t n) s = .next u ∧ (u.leg n.val).on = (if high then .high else .low) ∧
      (u.leg n.val).turnOn = none ∧ s.keepsRegs u [] ∧ s.keepsMem u)

/-- Switch-node feedback (R107) and readback (R108). -/
def Obligations.SwitchNodeWatchAndReadback : Prop :=
  ∀ s : State, s.pwmLive → s.b PWM_SNCFG_SNEN →
  (∀ t (n : Fin 3) w, (s.leg n.val).watch = some w → w.tOff ≤ (s.atF t).nowF →
    (s.atF t).nowF ≤ w.tOff + w.dead + 32 * s.r PWM_SNCFG_SNTO →
    ∃ u, exec (.snCrossing t n w.high) s = .next u ∧ (u.leg n.val).watch = none ∧ (u.leg n.val).miss = 0 ∧ s.keepsMem u) ∧
  (∀ t (n : Fin 3) w, (s.leg n.val).watch = some w → w.tOff + w.dead + 32 * s.r PWM_SNCFG_SNTO ≤ (s.atF t).nowF →
    s.r PWM_DTMAX_DTMAX < 65536 →
    ∃ u, exec (.snWatchTimeout t n) s = .next u ∧
      u.r (PWM_DTA_HLP n.val) = s.r PWM_DTMAX_DTMAX ∧ u.r (PWM_DTA_LHN n.val) = s.r PWM_DTMAX_DTMAX ∧
      bit (u.r PWM_STS_SNMISS) n.val = true ∧
      ((s.leg n.val).miss + 1 = max 1 (s.r PWM_SNCFG_MISSN) → u.raised Fid.snLost)) ∧
  (∀ t (n : Fin 3) v, (s.padLeg n.val).hi = true → (s.padLeg n.val).onHi + 32 * s.r PWM_SNCFG_CHKDLY = (s.atF t).nowF →
    (s.leg n.val).chkHi ≠ some (s.padLeg n.val).onHi →
    s.vdc = some v → 1000 * (s.r PWM_SNCFG_VMIN : Int) ≤ v →
    (∃ u, exec (.readbackCheck t n true false) s = .next u ∧ bit (u.r PWM_STS_RBERR) n.val = true ∧
      (1 ≤ (s.leg n.val).rbHi → u.raised Fid.readback)) ∧
    (∃ u, exec (.readbackCheck t n true true) s = .next u ∧ (u.leg n.val).rbHi = 0 ∧ s.keepsRegs u [] ∧
      (u.leg n.val).chkHi = some (s.padLeg n.val).onHi)) ∧
  (∀ t (n : Fin 3) node, (s.leg n.val).chkHi = some (s.padLeg n.val).onHi →
    exec (.readbackCheck t n true node) s = .next (s.after (s.atF t)))

/-- Trips (R114 to R117). -/
def Obligations.TripsLatchAndClear : Prop :=
  ∀ s : State, s.pwmLive →
  (∀ t (n : Fin 6) k, s.sourceSeen n.val k = true → bit (s.r PWM_TRIPSTS_FILT) n.val = false → s.tripPat n.val ≠ 0 →
    ∃ u, exec (.tripInput t ⟨n, k⟩) s = .next u ∧
    bit (u.r PWM_TRIPSTS_FILT) n.val = true ∧ bit (u.r PWM_TRIPSTS_LATCH) n.val = true ∧ bit (u.r PWM_IRQ_TRIP) n.val = true ∧
    u.stageState = .tripped ∧ u.b PWM_CTRL_RUN = false ∧ u.raised (tripFault n.val).1 ∧
    (s.latched = [] → u.r PWM_TRIPSTS_FIRST = n.val) ∧ s.keepsMem u) ∧
  (∀ t (n : Fin 6) k, s.sourceSeen n.val k = true → s.tripPat n.val = 0 → ∃ u, exec (.tripInput t ⟨n, k⟩) s = .next u ∧
    bit (u.r PWM_TRIPSTS_FILT) n.val = true ∧ s.keepsRegs u [PWM_TRIPSTS_FILT] ∧ s.keepsMem u) ∧
  (∀ t (n : Fin 6) k, s.sourceSeen n.val k = false → exec (.tripInput t ⟨n, k⟩) s = .next (s.after (s.atF t))) ∧
  (∀ t (n : Fin 6) k, (if n.val < 4 then s.filtered n.val k else !s.sourceSeen n.val k) = true →
    ∃ u, exec (.tripInputInactive t ⟨n, k⟩) s = .next u ∧ bit (u.r PWM_TRIPSTS_FILT) n.val = false ∧
    s.keepsRegs u [PWM_TRIPSTS_FILT] ∧ s.keepsMem u) ∧
  (∀ t, exec (.tripAscTurnOn t) s = .next (s.after (s.atF t))) ∧
  (∀ who (m : BitVec 6), s.mayWrite who PWM_TRIPCLR_CLR → s.r PWM_TRIPSTS_FILT = 0 → s.r PWM_TRIPSTS_LATCH < 64 →
    (∀ n, n < 6 → bit (s.r PWM_TRIPSTS_LATCH) n = true → m.getLsbD n = true) → s.stageState = .tripped →
    ∃ u, exec (.tripClear who m) s = .next u ∧ u.r PWM_TRIPSTS_LATCH = 0 ∧ u.stageState = .idle ∧ u.r PWM_TRIPSTS_FIRST = 7 ∧
      s.keepsRegs u [PWM_TRIPSTS_LATCH, PWM_TRIPSTS_FIRST, PWM_STS_STATE] ∧ s.keepsMem u) ∧
  (∀ who (m : BitVec 6) (n : Fin 6), s.mayWrite who PWM_TRIPCLR_CLR → m.getLsbD n.val = true →
    bit (s.r PWM_TRIPSTS_LATCH) n.val = true → bit (s.r PWM_TRIPSTS_FILT) n.val = true →
    ∃ u, exec (.tripClear who m) s = .next u ∧ bit (u.r PWM_TRIPSTS_LATCH) n.val = true ∧ u.r PWM_STS_TRIP_CLR_ACTIVE = 1)

/-- The states of R121 with the halvings of R122. -/
def Obligations.DischargeStatesAndTimes : Prop :=
  ∀ s : State, s.live .pwm → s.disLive → s.tested 5 = false → s.tested 6 = false →
  let calm := fun (id : Nat) => s.flt.current = none ∧ s.flt.queue = [] ∧ s.flt.preempted = [] ∧ s.escOf id = [] ∧ s.dis.reqHeld = false
  (∀ who, s.mayWrite who DIS_CTRL_REQ → s.offOrSafe = true → s.r DIS_STS_STATE = 0 ∨ s.r DIS_STS_STATE = 5 ∨ s.r DIS_STS_STATE = 6 →
    ∃ u, exec (.dischargeRequest who) s = .next u ∧ s.keepsMem u ∧ u.dis.reqHeld = false ∧
      u.r DIS_STS_STATE = match s.vdc with
        | some v => if v ≤ 1000 * (s.r DIS_LIM_VTGT : Int) then 5 else 1
        | none => 1) ∧
  (∀ who, s.mayWrite who DIS_CTRL_REQ → s.offOrSafe = false →
    exec (.dischargeRequest who) s = .next (s.after { s with dis := { s.dis with reqHeld := true } })) ∧
  (∀ t v, s.vdc = some v → s.r DIS_STS_STATE = 1 → s.b DIS_CFG_INFER = true →
    (∀ p, s.dis.probeAt = some p → p + 200000000 ≤ (s.at t).nowU) →
    ∃ u, exec (.probeStart t) s = .next u ∧ u.r DIS_STS_STATE = 2 ∧ u.dis.v0 = some v ∧ u.dis.probeAt = some (s.at t).nowU ∧
      s.keepsRegs u [DIS_STS_STATE, DIS_MEAS_V0, DIS_MEAS_HALVINGS] ∧ s.keepsMem u) ∧
  (∀ t p, s.dis.probeAt = some p → p + 200000 * s.r DIS_CFG_PROBET ≤ (s.at t).nowU → s.r DIS_STS_STATE = 2 →
    ∃ u, exec (.probeTimeout t) s = .next u ∧ u.r DIS_STS_STATE = 1 ∧ u.r DIS_STS_CLOSED = 1 ∧ s.keepsMem u) ∧
  (∀ t who, s.mayWrite who DIS_CTRL_OPENCONF → s.r DIS_STS_STATE = 1 ∨ s.r DIS_STS_STATE = 2 →
    ∃ u, exec (.openconf t who) s = .next u ∧ s.keepsMem u ∧
      u.r DIS_STS_STATE = match s.vdc with
        | some v => if v ≤ 1000 * (s.r DIS_LIM_VTGT : Int) then 5 else 3
        | none => 3) ∧
  (∀ t, s.r DIS_STS_STATE = 1 → s.dis.reqAt + 200000000 * s.r DIS_CFG_CONFT ≤ (s.at t).nowU →
    ∃ u, exec (.confirmTimeout t) s = .next u ∧ u.r DIS_STS_NOCONF = 1 ∧ s.keepsMem u ∧
      (calm Fid.contactorNotOpen → u.r DIS_STS_STATE = 6 ∧ u.raised Fid.contactorNotOpen)) ∧
  (∀ t v v0 f, s.vdc = some v → s.dis.v0 = some v0 → s.dis.halfFrom = some f → s.r DIS_STS_STATE = 3 → s.disChecking v0 = true →
    200000 * s.r DIS_THALF_THALF ≤ s.dis.halfAcc + ((s.at t).nowU - f) - s.dis.halfMark →
    ∃ u, exec (.halvingTimeout t) s = .next u ∧ u.r DIS_STS_SLOW = 1 ∧ u.raised Fid.dischargeSlow ∧ s.keepsMem u ∧
      (calm Fid.dischargeSlow → u.r DIS_STS_STATE = 4 ∧ u.r DIS_STS_WINDREQ = 1)) ∧
  (∀ t p, s.dis.startAt = some p → p + 200000 * s.r DIS_LIM_TMAX ≤ (s.at t).nowU → s.r DIS_STS_STATE = 3 ∨ s.r DIS_STS_STATE = 4 →
    (∀ v, s.vdc = some v → v ≤ 1000 * (s.r DIS_LIM_VTGT : Int) →
      ∃ u, exec (.dischargeTimeLimit t) s = .next u ∧ u.r DIS_STS_STATE = 5 ∧ s.keepsMem u) ∧
    ((∀ v, s.vdc = some v → ¬ v ≤ 1000 * (s.r DIS_LIM_VTGT : Int)) →
      ∃ u, exec (.dischargeTimeLimit t) s = .next u ∧ u.r DIS_STS_INCOMPLETE = 1 ∧ u.raised Fid.dischargeIncomplete ∧ s.keepsMem u ∧
        (calm Fid.dischargeIncomplete → u.r DIS_STS_STATE = 6)))

/-! The conversion blocks (chapter 07). -/

/-- Capture (R126), shunt windows (R127 to R129), the trip path (R133) and lost bitstreams (R135, R146). -/
def Obligations.WindowsGiveCorrectedValidResults : Prop :=
  ∀ s : State, s.sdxLive →
  (∀ t (n : Fin 3) (x : Stream) w, (s.legWin n.val).due = some w → w.stamp < 2 ^ 32 → s.b SDX_STS_FBACT = false → w.len < s.wminF →
    ∃ u, exec (.windowResult t n x.at0 x.ck0 x.at1 x.ck1) s = .next u ∧ u.r (SDX_RES_SKIP n.val) = 1 ∧ u.r (SDX_RES_FB n.val) = 0 ∧
      u.r (SDX_RES_STALE n.val) = 0 ∧ u.r (SDX_RES_VALUE n.val) = s.r (SDX_RES_VALUE n.val) ∧
      u.r (SDX_RES_SAT n.val) = s.r (SDX_RES_SAT n.val) ∧ u.r SDX_STAMP_TICK = w.stamp ∧ s.keepsMem u) ∧
  (∀ t (n : Fin 3) (x : Stream) w y, (s.legWin n.val).due = some w → w.stamp < 2 ^ 32 → s.b SDX_STS_FBACT = false → s.wminF ≤ w.len →
    windowRaw (usableBits (s.captureAt n.val x) s.settleF w.len (s.capture n.val x) 0) s.kmaxUse = some y →
    ∃ u, exec (.windowResult t n x.at0 x.ck0 x.at1 x.ck1) s = .next u ∧
      u.ri (SDX_RES_VALUE n.val) = (sdxCorrect y (s.ri (SDX_OFS_OFS n.val)) (s.r (SDX_GAIN_GAIN n.val))).1 ∧
      u.b (SDX_RES_SAT n.val) = (sdxCorrect y (s.ri (SDX_OFS_OFS n.val)) (s.r (SDX_GAIN_GAIN n.val))).2 ∧
      u.b (SDX_RES_VALID n.val) = s.sdxValid n.val ∧ u.r (SDX_RES_SKIP n.val) = 0 ∧ u.r (SDX_RES_FB n.val) = 0 ∧
      u.r (SDX_RES_STALE n.val) = 0 ∧ u.r SDX_STAMP_TICK = w.stamp ∧ s.keepsMem u) ∧
  (∀ t (n : Fin 3) (x : Stream), (s.legWin n.val).due = none → exec (.windowResult t n x.at0 x.ck0 x.at1 x.ck1) s = .next (s.after (s.at t))) ∧
  (∀ x ofs gain, -8388607 ≤ (sdxCorrect x ofs gain).1 ∧ (sdxCorrect x ofs gain).1 ≤ 8388607 ∧
    ((sdxCorrect x ofs gain).2 = false → (sdxCorrect x ofs gain).1 = (x - ofs) * gain / 8388608)) ∧
  (∀ t (n : Fin 4) ck0 ck1, let x : Stream := { ck0 := ck0, ck1 := ck1 }
    bit (s.r SDX_CTRL_EN) n.val = true → 15 ≤ (s.capture n.val x).length →
    let d : Int := (sinc2Sum ((s.capture n.val x).drop ((s.capture n.val x).length - 15)) 0 : Int) - 32
    (n.val < 3 → ∃ u, exec (.sinc2Output t n ck0 ck1) s = .next u ∧ s.keepsMem u ∧
      u.sense.qualified = setAt s.sense.qualified n.val
        (if (s.at t).sinc2Counts n.val = true ∧ s.r SDX_OC_OCTH < d.natAbs then s.sense.qualified.getD n.val 0 + 1 else 0)) ∧
    (n.val = 3 → ∃ u, exec (.sinc2Output t n ck0 ck1) s = .next u ∧ s.keepsMem u ∧
      u.sense.qualified = setAt s.sense.qualified 3
        (if (s.r SDX_OC_OVTH : Int) < d then s.sense.qualified.getD 3 0 + 1 else 0))) ∧
  (∀ (n : Fin 6) quiet x, bit (s.r SDX_CTRL_EN) n.val = true →
    s.clockOn n.val = false ∨ 4 * 320 ≤ quiet ∨ s.stuck n.val x = true →
    ∃ u, exec (.bitstreamLost ⟨n, quiet, x⟩) s = .next u ∧
    bit (u.r SDX_STS_BSLOST) n.val = true ∧ u.r (SDX_RES_VALID n.val) = 0 ∧ bit u.sense.lostNow n.val = true ∧
    u.raised (if n.val < 3 then Fid.shuntLost else if n.val = 3 then Fid.dcLinkLost else Fid.spareLost) ∧ s.keepsMem u) ∧
  (∀ n : Fin 6, ∃ u, exec (.bitstreamRestored n) s = .next u ∧ bit u.sense.lostNow n.val = false ∧
    (n.val < 4 → s.keepsRegs u []) ∧ s.keepsMem u)

/-- The current paths beside the shunts (R137 to R139, R145) and R64's overrun. -/
def Obligations.FallbackCalibrationAndHall : Prop :=
  ∀ s : State,
  (s.sdxLive → s.b SDX_STS_FBACT = true → s.sense.cause = { predict := true } → s.r SDX_FB_RETN ≤ s.sense.goodRun →
    ∃ u, exec .fallbackReturn s = .next u ∧ u.sense.cause = {} ∧ u.r SDX_STS_FBACT = s.r SDX_STS_FBACT ∧ s.keepsMem u) ∧
  (s.b SDX_STS_FBACT = true ∨ s.hallFailed = true → 10 * s.r SDX_FB_FBTMAX ≤ s.sense.singleMs →
    ∃ u, exec .singlePathTimeout s = .next u ∧ u.raised Fid.singlePath ∧ s.keepsMem u) ∧
  (∀ who, s.sdxLive → s.mayWrite who SDX_CTRL_CAL →
    (s.drv = .off → exec (.cal who true) s = .next (s.after (s.w SDX_STS_CALBUSY 1))) ∧
    (s.drv ≠ .off → exec (.cal who true) s = .next (s.after (s.w SDX_STS_CALREF 1)))) ∧
  (∀ t (a b c : Fin 65537) ha hb hc, s.sdxLive → s.b SDX_STS_CALBUSY = true → s.b PCV_CTRL_EN = false → s.hoi.cut = [] →
    s.hoi.late = [] →
    ∃ u, exec (.calComplete t a b c ha hb hc) s = .next u ∧ u.r SDX_STS_CALBUSY = 0 ∧ s.keepsRegs u [SDX_STS_CALBUSY] ∧
      s.keepsMem u ∧
      (bit (s.r SDX_CTRL_EN) 0 = true → s.clockOn 0 = true → u.shadowOf (SDX_OFS_OFS 0) = bitsOf 24 (calRaw a.val)) ∧
      (bit (s.r SDX_CTRL_EN) 1 = true → s.clockOn 1 = true → u.shadowOf (SDX_OFS_OFS 1) = bitsOf 24 (calRaw b.val)) ∧
      (bit (s.r SDX_CTRL_EN) 2 = true → s.clockOn 2 = true → u.shadowOf (SDX_OFS_OFS 2) = bitsOf 24 (calRaw c.val))) ∧
  (∀ t (first : Fin 16) lead before after, s.pcvLive → s.b PCV_CTRL_EN = true → s.b SDX_STS_FBACT = false →
    let near := (s.conversions first.val lead (before ++ after)).filter (fun e => decide (e.2.2 ≤ 25 * s.r PCV_HALL_HWIN))
    let mine (n : Nat) := (near.filter (fun e => e.1 == s.r (hallInput n))).map (fun e => e.2.1)
    ∃ u, exec (.hallAverage t first lead before after) s = .next u ∧ u.r PCV_HSTAMP_TICK = s.r HOI_TICKCNT_TICKCNT % 2 ^ 32 ∧
      (∀ n : Fin 3, u.r (PCV_HALLR_N n.val) = min 63 (mine n.val).length ∧
        (mine n.val ≠ [] → u.r (PCV_HALLR_VALUE n.val) =
          bitsOf 24 (roundDiv (((mine n.val).map (fun k => (s.pcvValue (s.r (hallInput n.val)) k).1)).foldl (· + ·) 0)
            (mine n.val).length))) ∧ s.keepsMem u) ∧
  (∀ (n : Fin 3) codes, s.pcvLive → s.b PCV_CTRL_EN = true → s.atRail codes = true → ∃ u, exec (.hallRange (n, codes)) s = .next u ∧
    bit (u.r PCV_STS_RANGE) n.val = true ∧ u.r (PCV_HALLR_RANGE n.val) = 1 ∧ u.r (PCV_HALLR_VALID n.val) = 0 ∧
    u.raised Fid.hallRange ∧ s.keepsMem u) ∧
  (s.pcvLive → s.b PCV_CTRL_EN = true → ∃ u, exec .pcvOverrun s = .next u ∧ u.r PCV_STS_OVR = 1 ∧ u.raised Fid.pcvOverrun ∧
    s.keepsMem u)

/-- The modulators' scans (R140, R141). -/
def Obligations.FineConversionsScanTheirEntries : Prop :=
  ∀ s : State, s.fcvLive →
  (∀ m : Fin 2, bit (s.r FCV_CTRL_EN) m.val = true → bit (s.r FCV_CTRL_CONT) m.val = false → s.r (scanField m.val) ≠ 0 →
    s.r (scanField m.val) ≤ (s.fcvMod m.val).sinceScan →
    (bit (s.r FCV_STS_BUSY) m.val = true → ∃ u, exec (.fcvScanStart m) s = .next u ∧ bit (u.r FCV_STS_OVR) m.val = true ∧
      (u.fcvMod m.val).sinceScan = 0 ∧ (u.fcvMod m.val).entry = (s.fcvMod m.val).entry ∧ s.keepsRegs u [FCV_STS_OVR]) ∧
    (bit (s.r FCV_STS_BUSY) m.val = false → ∃ u, exec (.fcvScanStart m) s = .next u ∧ bit (u.r FCV_STS_BUSY) m.val = true ∧
      (u.fcvMod m.val).sinceScan = 0 ∧ s.keepsRegs u [FCV_STS_BUSY] ∧
      (u.fcvMod m.val).waiting = bit (s.r FCV_CTRL_PDOWN) m.val ∧
      (u.fcvMod m.val).entry = if bit (s.r FCV_CTRL_PDOWN) m.val then none else some (8 * m.val))) ∧
  (∀ who, s.mayWrite who FCV_CTRL_START → ∀ m : Fin 2,
    (bit (s.r FCV_CTRL_EN) m.val = true → bit (s.r FCV_STS_BUSY) m.val = false → bit (s.r FCV_CTRL_CONT) m.val = false →
      ∃ u, exec (.fcvStart who (if m = 0 then 1 else 2)) s = .next u ∧ u = s.after (s.fcvBegin m.val)) ∧
    (bit (s.r FCV_CTRL_EN) m.val = false ∨ bit (s.r FCV_STS_BUSY) m.val = true ∨ bit (s.r FCV_CTRL_CONT) m.val = true →
      exec (.fcvStart who (if m = 0 then 1 else 2)) s = .next (s.after s))) ∧
  (∀ m : Fin 2, (s.fcvMod m.val).waiting = true →
    (∃ u, exec (.fcvReady m) s = .next u ∧ (u.fcvMod m.val).waiting = false ∧ (u.fcvMod m.val).entry = some (8 * m.val) ∧
      s.keepsMem u) ∧
    (∃ u, exec (.fcvStartupTimeout m) s = .next u ∧ (u.fcvMod m.val).waiting = false ∧ (u.fcvMod m.val).entry = none ∧
      bit (u.r FCV_STS_BUSY) m.val = false ∧ bit (u.r FCV_STS_SUERR) m.val = true ∧ u.raised Fid.fcvStartup ∧ s.keepsMem u)) ∧
  (∀ t (e : Fin 16) codes, (s.fcvMod (e.val / 8)).entry = some e.val → codes.length = 2 ^ s.r (FCV_ENT_AVG e.val) →
    let next := if (s.fcvMod (e.val / 8)).cont then some e.val
      else if s.r (lastEntry (e.val / 8)) ≤ e.val % 8 then none else some (e.val + 1)
    let mean := (roundDiv (Int.ofNat (codes.foldl (fun a c => a + c.toNat) 0)) codes.length).toNat
    ((s.fcvMod (e.val / 8)).discard = false → ∃ u, exec (.fcvResult t e codes) s = .next u ∧ s.keepsMem u ∧
      u.r (FCV_RES_SEQ e.val) = (s.r (FCV_RES_SEQ e.val) + 1) % 2 ^ (FCV_RES_SEQ e.val).width ∧
      u.ri (FCV_RES_VALUE e.val) = (s.anaCorrect ((mean : Int) - 8388608) (s.ri (FCV_OFS_OFS (s.entInput e.val)))
        (s.r (FCV_GAIN_GAIN (s.entInput e.val)))).1 ∧
      (u.fcvMod (e.val / 8)).entry = next) ∧
    ((s.fcvMod (e.val / 8)).discard = true → ∃ u, exec (.fcvResult t e codes) s = .next u ∧ s.keepsMem u ∧
      s.keepsRegs u [FCV_STS_BUSY] ∧ (u.fcvMod (e.val / 8)).entry = next))

/-! Position and speed (chapter 08). -/

/-- The encoder, Hall and resolver sources (R152 to R160). -/
def Obligations.CountsIndexAndHallSectors : Prop :=
  ∀ s : State, s.posLive →
  (∀ t lead (pairs : Vector (BitVec 12 × BitVec 12) 16), s.posEn 0 = true → s.cpm.vdda = true →
    let x := pairs.toList.map (fun p => p.1.toInt)
    let y := pairs.toList.map (fun p => p.2.toInt)
    let a2 := ampSq (demodulate (s.demodDelay x y) x) (demodulate (s.demodDelay x y) y)
    let inRange := s.r POS_RLIM_AMIN ^ 2 ≤ a2 ∧ a2 ≤ s.r POS_RLIM_AMAX ^ 2
    ∃ u, exec (.resolverSample t lead pairs) s = .next u ∧ s.keepsMem u ∧ u.pos.resPeak = (s.at t).nowU - lead.toNat ∧
      u.pos.resAngle < 65536 ∧ u.r POS_RANG_AMP = Nat.sqrt a2 % 2 ^ POS_RANG_AMP.width ∧
      (inRange → u.pos.resAmpBad = 0 ∧ u.pos.resLost = false) ∧
      (¬ inRange → u.pos.resAmpBad = s.pos.resAmpBad + 1 ∧
        (max 1 (s.r POS_RLIM_RLOSN) ≤ s.pos.resAmpBad + 1 → s.pos.resLost = false →
          u.pos.resValid = false ∧ u.r POS_STS_RSLOS = 1 ∧ u.raised Fid.resolverSignal))) ∧
  (∀ t lead pairs, s.cpm.vdda = false → exec (.resolverSample t lead pairs) s = .next (s.after (s.at t))) ∧
  (∀ t samples, s.posEn 1 = false ∨ s.b POS_ECFG_HALL = true → exec (.encoderCount t samples) s =
    .next (s.after ((s.at t).modPos (fun p =>
      let ab := pairAfter p.encAB (pairEdges (s.r POS_ECFG_FILT + 1) p.encAB samples)
      { p with encAB := ab, zIn := p.zIn && s.zQualified ab.1 ab.2 })))) ∧
  (∀ t samples e, s.posEn 1 = true → s.b POS_ECFG_HALL = false →
    pairEdges (s.r POS_ECFG_FILT + 1) s.pos.encAB samples = [e] →
    ((e.a && e.b) = false → ∃ u, exec (.encoderCount t samples) s = .next u ∧
      u.pos.enc = (if e.up then s.pos.enc + 1 else s.pos.enc - 1) ∧ u.pos.encAB = (e.lvA, e.lvB) ∧
      u.pos.motor = (s.pos.motor.edge (s.spanAt 0) ((s.at t).nowU - e.ago) e.up).1 ∧ s.keepsRegs u [POS_IRQ_EVT] ∧
      s.keepsMem u) ∧
    ((e.a && e.b) = true → s.r POS_EIDXERR_ILLCNT ≤ 255 → ∃ u, exec (.encoderCount t samples) s = .next u ∧
      u.pos.enc = s.pos.enc ∧ u.pos.motor = s.pos.motor ∧ u.r POS_STS_ILL_ERR = 1 ∧
      u.r POS_EIDXERR_ILLCNT = min 255 (s.r POS_EIDXERR_ILLCNT + 1) ∧ s.keepsMem u ∧
      (s.pos.illInOuter + 1 = max 1 (s.r POS_ECFG_ILLN) → u.pos.illFault = true ∧ u.raised Fid.encIllegal))) ∧
  (∀ t was z, s.posEn 1 = true → s.b POS_ECFG_HALL = false →
    s.zEvent was z = true → bit (s.r POS_STS_WIREFLT) 2 = false →
    (s.pos.idxFirst = true → s.cpr ≤ 1048575 → s.pos.enc.toInt.natAbs ≤ 2 ^ 31 - 2 ^ 21 →
      ∃ u, exec (.indexEvent t was z false false) s = .next u ∧ u.encMod = (s.r POS_EIDX_IDXPOS % s.cpr : Nat) ∧
        u.r POS_STS_IDXSEEN = 1 ∧ u.r POS_EIDXERR_MISSRUN = 0 ∧ u.pos.idxFirst = false ∧ s.keepsMem u) ∧
    (s.pos.idxFirst = false → s.r POS_ECFG_IDX_WIN < s.idxErr.natAbs → s.r POS_EIDXERR_MISSRUN = 2 →
      ∃ u, exec (.indexEvent t was z false false) s = .next u ∧ u.pos.enc = s.pos.enc ∧ u.r POS_STS_IDX_FLT = 1 ∧
        u.r POS_EIDXERR_MISSRUN = 3 ∧ u.pos.idxFault = true ∧ u.raised Fid.encIndex ∧ s.keepsMem u)) ∧
  (∀ who v, s.mayWrite who POS_EPRE_PRE → s.cpr ≤ 1048575 → s.pos.enc.toInt.natAbs ≤ 2 ^ 31 - 2 ^ 21 →
    ∃ u, exec (.preset who v) s = .next u ∧ u.encMod = (v.toNat % s.cpr : Nat) ∧ u.r POS_STS_IDXSEEN = 1 ∧
      u.r POS_EIDXERR_MISSRUN = 0 ∧ s.keepsMem u) ∧
  (∀ (p : Fin 3) d, s.posEn 1 = true → s.b POS_ECFG_HALL = false → 4 * max 1 (s.r POS_ECFG_WIRE_T) < d →
    ∃ u, exec (.wireFault p (some d)) s = .next u ∧ bit (u.r POS_STS_WIREFLT) p.val = true ∧ u.raised Fid.wireFault ∧
      bit u.pos.wireNow p.val = true ∧ (p.val < 2 → u.r POS_STS_IDXSEEN = 0) ∧ s.keepsMem u) ∧
  (∀ (p : Fin 3) (d : Option Nat), (∀ k, d = some k → k ≤ 4 * max 1 (s.r POS_ECFG_WIRE_T)) ∨ s.posEn 1 = false ∨ s.b POS_ECFG_HALL = true →
    exec (.wireFault p d) s = .next (s.after (s.modPos (fun x => { x with wireNow := bitPut x.wireNow p.val d.isSome })))) ∧
  (∀ who m, s.mayWrite who POS_STS_WIREFLT → ∃ u, exec (.wirefltClear who m) s = .next u ∧ s.keepsMem u ∧
    (∀ k, k < 3 → m.getLsbD k = true → bit s.pos.wireNow k = false → bit (u.r POS_STS_WIREFLT) k = false) ∧
    (∀ k, k < 3 → m.getLsbD k = false ∨ bit s.pos.wireNow k = true → bit (u.r POS_STS_WIREFLT) k = bit (s.r POS_STS_WIREFLT) k)) ∧
  (∀ t (c : BitVec 3), s.posEn 1 = true → s.b POS_ECFG_HALL = true →
    (∀ j k, s.hallSector c.toNat = some k → s.pos.sector = some j → j < 6 → k < 6 → j ≠ k →
      ∃ u, exec (.hallStateChange t c) s = .next u ∧ u.pos.sector = some k ∧ s.keepsMem u ∧
        u.pos.enc = if (j + 1) % 6 = k then s.pos.enc + 1 else if (k + 1) % 6 = j then s.pos.enc - 1 else s.pos.enc) ∧
    (s.hallSector c.toNat = none → ∃ u, exec (.hallStateChange t c) s = .next u ∧ u.r POS_STS_HALLILL = 1 ∧
      u.pos.enc = s.pos.enc ∧ u.pos.sector = s.pos.sector ∧ s.keepsRegs u [POS_STS_HALLILL])) ∧
  (s.posEn 1 = true → s.b POS_ECFG_HALL = true → s.pos.hallIllNow = true → s.pos.hallInvalid = false →
    ∃ u, exec .hallIllegalPersist s = .next u ∧ u.pos.hallInvalid = true ∧ u.raised Fid.hallIllegal ∧ s.keepsMem u)

/-- The serial word (R162 to R165), the wheels (R167), PPS (R168), standstill (R169) and RETPRI (R171). -/
def Obligations.SerialWordsWheelsAndPps : Prop :=
  ∀ s : State, s.posLive →
  (∀ t low rises q, s.posEn 2 = true → s.b POS_SWCFG_SENT = false → s.pos.req = some q → q.failed = false →
    let bits := s.ssiBits rises
    let busy := q.sampledAt + (if low then 200 * s.r POS_SWTIM_TMONO else s.wordU)
    (∀ data, low = false → s.ssiCheck bits = some data → q.epoch = s.pos.epoch →
      ∃ u, exec (.ssiWordEnd t low rises) s = .next u ∧ u.pos.req = none ∧ u.pos.swValid = true ∧ u.pos.sinceWord = 0 ∧
        u.pos.swAt = q.sampledAt ∧ u.pos.swBusy = busy ∧ u.r POS_SWDATA_DATA = data % 2 ^ POS_SWDATA_DATA.width ∧
        u.r POS_SWSTS_SEQ = (s.r POS_SWSTS_SEQ + 1) % 2 ^ POS_SWSTS_SEQ.width ∧ s.keepsMem u) ∧
    (∀ data, low = false → s.ssiCheck bits = some data → q.epoch ≠ s.pos.epoch →
      exec (.ssiWordEnd t low rises) s =
        .next (s.after (((s.at t).modPos (fun p => { p with swBusy := busy, req := none })).bumpSat POS_SWSTS_LATE))) ∧
    (low = true ∨ s.ssiCheck bits = none → q.tries < s.swRetry →
      exec (.ssiWordEnd t low rises) s = .next (s.after (((s.at t).bumpSat POS_SWSTS_ERRCNT).modPos
        (fun p => { p with swBusy := busy, req := some { q with failed := true } })))) ∧
    (low = true ∨ s.ssiCheck bits = none → s.swRetry ≤ q.tries →
      ∃ u, exec (.ssiWordEnd t low rises) s = .next u ∧ u.pos.req = none ∧ u.r POS_STS_SWGIVEUP = 1 ∧ u.raised Fid.giveUp ∧
        u.pos.swBusy = busy ∧ u.r POS_SWDATA_DATA = s.r POS_SWDATA_DATA ∧ s.keepsMem u)) ∧
  (∀ t q, s.posEn 2 = true → s.b POS_SWCFG_SENT = false → s.pos.req = some q → q.failed = true → q.tries < s.swRetry →
    (s.pos.swBusy ≤ (s.at t).nowU → exec (.ssiRetry t) s = .next (s.after ((s.at t).modPos (fun p =>
      { p with req := some { q with failed := false, tries := q.tries + 1, sampledAt := (s.at t).nowU } })))) ∧
    ((s.at t).nowU < s.pos.swBusy → exec (.ssiRetry t) s = .next (s.after (s.at t)))) ∧
  (s.posEn 2 = true → s.pos.timedOut = false → max 1 (s.r POS_SWTO_POSTO) ≤ s.pos.sinceWord →
    ∃ u, exec .positionTimeout s = .next u ∧ u.pos.swValid = false ∧ u.pos.timedOut = true ∧ u.pos.epoch = s.pos.epoch + 1 ∧
      u.r POS_STS_SWTO = 1 ∧ u.raised Fid.posTimeout ∧ s.keepsMem u) ∧
  (∀ t sync pulses pause, s.posEn 2 = true → s.b POS_SWCFG_SENT = true →
    (s.syncOk sync = false → exec (.sentFrame t sync pulses pause) s =
      .next (s.after (((s.at t).bumpSat POS_SWSTS_ERRCNT).modPos Pos.swBreak))) ∧
    (∀ st rest, s.syncOk sync = true → nibblesOf sync pulses = some (st :: rest) → rest.length = s.sentNib + 1 →
      sentCrc (s.b POS_SENT_CRCV) (rest.take s.sentNib) = rest.getLastD 0 → s.pauseOk sync pause = true →
      ∃ u, exec (.sentFrame t sync pulses pause) s = .next u ∧ u.pos.swValid = true ∧ u.pos.swAt = (s.at t).nowU - (sync + pulses.foldl (· + ·) 0 + pause.getD 0) ∧
        u.r POS_SWDATA_DATA = (rest.take s.sentNib).foldl (fun a n => 16 * a + n) 0 % 2 ^ POS_SWDATA_DATA.width ∧
        (s.pos.slow.length < 32 → u.pos.slow = s.pos.slow ++ [(st, (s.pos.sentSeq + 1) % 256)]) ∧
        (32 ≤ s.pos.slow.length → u.pos.slow = s.pos.slow ∧ u.r POS_STS_SLOWOVF = 1 ∧ u.raised Fid.sentSlow) ∧ s.keepsMem u)) ∧
  (exec .sentslowRead s = .next (s.after { s with pos := { s.pos with slow := s.pos.slow.drop 1 } })) ∧
  (∀ t (n : Fin 2) samples e, s.posEn (n.val + 3) = true → s.pos.wheel.length = 2 →
    pairEdges (s.r (if n.val = 0 then POS_WCFG_WFILT0 else POS_WCFG_WFILT1) + 1) (s.pos.wheelAB.getD n.val (false, false)) samples
      = [e] →
    (∀ fwd, s.wheelCounts n.val e = some fwd →
      ∃ u, exec (.wheelCount t n samples) s = .next u ∧ s.keepsRegs u [POS_IRQ_EVT] ∧ s.keepsMem u ∧ u.pos.enc = s.pos.enc ∧
        u.pos.wheel.getD n.val 0 = (if fwd then s.pos.wheel.getD n.val 0 + 1 else s.pos.wheel.getD n.val 0 - 1)) ∧
    (s.wheelMode n.val = 0 → e.a = true → e.b = true → s.r POS_EIDXERR_ILLCNT ≤ 255 →
      ∃ u, exec (.wheelCount t n samples) s = .next u ∧ s.keepsRegs u [POS_STS_ILL_ERR, POS_EIDXERR_ILLCNT] ∧
        u.r POS_STS_ILL_ERR = 1 ∧ u.r POS_EIDXERR_ILLCNT = min 255 (s.r POS_EIDXERR_ILLCNT + 1) ∧
        u.pos.wheel = s.pos.wheel ∧ u.flt = s.flt ∧ s.keepsMem u)) ∧
  (∀ t rising, s.posEn 5 = true → rising ≠ s.b POS_PPSCFG_EDGE → s.r HOI_TICKCNT_TICKCNT < 2 ^ 32 →
    ∃ u, exec (.ppsEdge t rising) s = .next u ∧ u.r POS_PPST_TICK = s.r HOI_TICKCNT_TICKCNT ∧ u.r POS_PPSO_OFS = min 65535 t ∧
      u.r POS_PPSO_SEQ = (s.r POS_PPSO_SEQ + 1) % 2 ^ POS_PPSO_SEQ.width ∧ u.pos.ppsAt = some (s.at t).nowU ∧ s.keepsMem u ∧
      (u.r POS_PPSO_VALID = 1 ↔ ∃ p, s.pos.ppsAt = some p ∧
        (((s.at t).nowU - p : Nat) : Int) - 200000000 ≤ 200 * s.r POS_PPSCFG_PPSTOL ∧
        200000000 - (((s.at t).nowU - p : Nat) : Int) ≤ 200 * s.r POS_PPSCFG_PPSTOL)) ∧
  (∀ t, s.posEn 5 = true → (∀ e ∈ s.pos.pps, e.2.2 = true → e.2.1 + 300000000 ≤ (s.at t).nowU) →
    ∃ u, exec (.ppsLost t) s = .next u ∧ u.r POS_STS_PPSLOST = 1 ∧ u.r POS_PPSO_VALID = 0 ∧ u.raised Fid.ppsLost ∧ s.keepsMem u) ∧
  (∀ t (k : Fin 3), s.speedTimeout k.val ≤ (s.at t).nowU - (s.timer k.val).last →
    ∃ u, exec (.speedTimeout t k) s = .next u ∧ (u.timer k.val).still = true ∧ (u.timer k.val).vNum = 0 ∧ s.keepsRegs u [] ∧
      s.keepsMem u) ∧
  (∀ who, s.mayWrite who POS_CTRL_RETPRI → (s.primary s.nowU).1 = true →
    exec (.retpri who true) s = .next (s.after { s with pos := { s.pos with retpri := true } }))

/-! The Control Law Engine (chapter 09). -/

/-- Placing a result (R182, R183). -/
def Obligations.PlacedResultsFitTheirExponent : Prop :=
  ∀ (l : List Exact) (e : Int) (n : Bool), l.length = 8 →
    let x := (place l e n).1
    let f := (place l e n).2
    (∀ k, (x.lane k).natAbs ≤ 8388607) ∧
    ((∀ v ∈ l, v.isZero = true) → x.exp = -32 ∧ (∀ k, x.lane k = 0) ∧ f = {}) ∧
    ((∃ v ∈ l, v.isZero = false) →
      (∀ k, k < 8 → x.lane k = satMant ((l.getD k {}).atExp x.exp)) ∧
      (n = false → x.exp = clampI e (-32) 31 ∧ (f.eov = true ↔ 31 < e)) ∧
      (n = true → (∀ e', -32 ≤ e' → e' < x.exp → ∃ v ∈ l, 8388607 < (v.atExp e').natAbs) ∧
        (f.eov = true → x.exp = 31 ∧ f.sat = true) ∧ (f.eov = false → f.sat = false)) ∧
      (f.sat = true ↔ ∃ v ∈ l, 8388607 < (v.atExp x.exp).natAbs) ∧
      (f.euf = true ↔ ∃ v ∈ l, v.isZero = false ∧ v.atExp x.exp = 0))

/-- The effect of one instruction (R184, R186, R194). -/
def Obligations.AnInstructionChangesItsOwnBankAlone : Prop :=
  ∀ (s : State) (i : Instance) (rest : List Instance) (o : CleDo), i.inj = false → s.prio i.prog < 4 → i.prog < 8 →
    let u := s.cleApply i rest o
    (∀ n, n < 16 → (u.bankOf i).reg n = o.dst.elim ((s.bankOf i).reg n) (fun x => if x.1 = n then x.2 else (s.bankOf i).reg n)) ∧
    (u.bankOf i).c = o.mask.getD (s.bankOf i).c ∧
    (∀ p, p < 4 → (u.bankOf i).ptr p =
      o.ptr.elim ((s.bankOf i).ptr p) (fun x => if x.1 = p then x.2 % 2 ^ 14 else (s.bankOf i).ptr p)) ∧
    (∀ k, k ≤ 4 → k ≠ s.prio i.prog → u.bank k = s.bank k) ∧
    u.r (CLE_PFLG_SAT i.prog) = (if o.flags.sat then 1 else s.r (CLE_PFLG_SAT i.prog)) ∧
    u.r (CLE_PFLG_EOV i.prog) = (if o.flags.eov then 1 else s.r (CLE_PFLG_EOV i.prog)) ∧
    u.r (CLE_PFLG_EUF i.prog) = (if o.flags.euf then 1 else s.r (CLE_PFLG_EUF i.prog)) ∧
    s.keepsRegs u [CLE_PFLG_SAT i.prog, CLE_PFLG_EOV i.prog, CLE_PFLG_EUF i.prog, CLE_ECC_CECNT] ∧
    (∀ w x, o.store = some (w, x) → u.loadStage w = x ∧
      ∀ a, a < cleDataAddr w ∨ cleDataAddr w + 32 ≤ a → u.byte a = s.byte a) ∧
    (o.store = none → s.keepsMem u) ∧
    (let outs := o.out.elim i.outputs (fun e => i.outputs.filter (fun x => x.1 != e.1) ++ [e])
     u.cle.started = { i with pc := o.jump.getD (i.pc + 1), outputs := outs } :: rest) ∧
    u.cle.waiting = s.cle.waiting ∧ u.hoi = s.hoi ∧ u.sense = s.sense ∧ u.pwm = s.pwm ∧ u.cores = s.cores ∧ u.kern = s.kern

/-- The instruction set (R186 to R191). -/
def Obligations.EngineInstructionsHaveTheirResults : Prop :=
  ∀ (s : State) (i : Instance) (rest : List Instance), s.cleRuns i rest →
    let b := s.bankOf i
    let ok (o : CleDo) : Host.Outcome State Fault Refusal := .next (s.after ((s.cleCorrect [cleProgAddr i.pc]).cleApply i rest o))
    let ar (d : Fin 16) (r : Stage × ArithFlags) := ok { dst := some (d.val, r.1), flags := r.2 }
    let arc (d : Fin 16) (r : Stage × ArithFlags × BitVec 8) := ok { dst := some (d.val, r.1), flags := r.2.1, mask := some r.2.2 }
    exec .cleNop s = ok {} ∧
    (∀ m l tgt j, branchTaken m l b.c i.first = some j → i.pc < tgt.toNat →
      ∀ (mf lf : Fin 8), mf.val = m → lf.val = l →
        exec (.cleBr mf lf tgt) s = ok (if j then { jump := some tgt.toNat } else {})) ∧
    (∀ p ofs, exec (.cleSetp p ofs) s = ok { ptr := some (p.val, ofs.toNat) }) ∧
    (∀ d p inc ofs, stageAddrOk (b.ptr p.val + ofs.toNat) = true → s.badData (b.ptr p.val + ofs.toNat) = false →
      exec (.cleLd d p inc ofs) s = ok { dst := some (d.val, s.loadStage (b.ptr p.val + ofs.toNat)),
                                         ptr := if inc then some (p.val, b.ptr p.val + 8) else none
                                         reads := stageWords (b.ptr p.val + ofs.toNat) }) ∧
    (∀ d p inc ofs, stageAddrOk (b.ptr p.val + ofs.toNat) = true →
      exec (.cleSt d p inc ofs) s = ok { store := some (b.ptr p.val + ofs.toNat, b.reg d.val),
                                         ptr := if inc then some (p.val, b.ptr p.val + 8) else none }) ∧
    (∀ d e imm, exec (.cleLdi d e imm) s = ok { dst := some (d.val, Stage.mk' (List.replicate 8 (imm.toInt * 256)) e.toInt) }) ∧
    (∀ d port x, inputDefined port.val = true → i.inputs.find? (fun e => e.1 == port.val) = some (port.val, x) →
      exec (.cleIn d port) s = ok { dst := some (d.val, x) }) ∧
    (∀ a port, outputDefined port.val = true → exec (.cleOut a port) s = ok { out := some (port.val, b.reg a.val) }) ∧
    (∀ d a, exec (.cleMov d a) s = ok { dst := some (d.val, b.reg a.val) }) ∧
    (∀ d a n la lb, exec (.cleLane d a n la lb) s = ar d (aluLane (b.reg d.val) (b.reg a.val) la.val lb.val n)) ∧
    (∀ d a k, exec (.cleScl d a k) s = ar d (aluScl (b.reg a.val) k.toInt false)) ∧
    (∀ d a, exec (.cleNrm d a) s = ar d (aluNrm (b.reg a.val))) ∧
    (∀ d a c n, exec (.cleAdd d a c n) s = ar d (aluAdd (b.reg a.val) (b.reg c.val) n)) ∧
    (∀ d a c n, exec (.cleSub d a c n) s = ar d (aluSub (b.reg a.val) (b.reg c.val) n)) ∧
    (∀ d a c n, exec (.cleMul d a c n) s = ar d (aluMul (b.reg a.val) (b.reg c.val) n)) ∧
    (∀ d a c n, exec (.cleMac d a c n) s = ar d (aluMac (b.reg d.val) (b.reg a.val) (b.reg c.val) n)) ∧
    (∀ d a c n lb, exec (.cleMacb d a c n lb) s = ar d (aluMacb (b.reg d.val) (b.reg a.val) (b.reg c.val) lb.val n)) ∧
    (∀ d a c n, exec (.cleSel d a c n) s = ar d (aluSel (b.reg a.val) (b.reg c.val) b.c n)) ∧
    (∀ a c cc, exec (.cleCmp a c cc) s = ok { mask := some (aluCmp (b.reg a.val) (b.reg c.val) cc.val) }) ∧
    (∀ d a c g n, exec (.cleLim d a c g n) s = arc d (aluLim (b.reg a.val) (b.reg c.val) (b.reg g.val) n)) ∧
    (∀ d a c g n, exec (.cleRmp d a c g n) s = arc d (aluRmp (b.reg d.val) (b.reg a.val) (b.reg c.val) (b.reg g.val) i.first n)) ∧
    (∀ d a c g n, exec (.clePi d a c g n) s = arc d (aluPi (b.reg d.val) (b.reg a.val) (b.reg c.val) (b.reg g.val) n)) ∧
    (∀ d a p n la, let w := b.ptr p.val
      let nn := max 1 (s.readLE (cleDataAddr w) 4 % 512)
      let ends := tluSpan ((b.reg a.val).val la.val) nn
      let x := aluTlu (fun k => s.loadStage (w + 8 * (k + 1))) nn (signedOf 6 (s.readLE (cleDataAddr w) 4 / 512)) (b.reg a.val) la.val n
      stageAddrOk w = true → s.badData w = false → stageAddrOk (w + 8 * (ends.2 + 1)) = true →
      s.badData (w + 8 * (ends.1 + 1)) = false → s.badData (w + 8 * (ends.2 + 1)) = false →
      exec (.cleTlu d a p n la) s = ok { dst := some (d.val, x.1), flags := x.2.1, mask := some x.2.2
                                         reads := stageWords w ++ stageWords (w + 8 * (ends.1 + 1)) ++ stageWords (w + 8 * (ends.2 + 1)) }) ∧
    (∀ d a n, exec (.cleClk d a n) s = ar d (aluClk (b.reg a.val) n)) ∧
    (∀ d a n, exec (.cleIck d a n) s = ar d (aluIck (b.reg a.val) n)) ∧
    (∀ d a c n, exec (.clePrk d a c n) s = ar d (aluPrk (b.reg a.val) (b.reg c.val) n)) ∧
    (∀ d a c n, exec (.cleIpk d a c n) s = ar d (aluIpk (b.reg a.val) (b.reg c.val) n)) ∧
    (∀ d a la, exec (.cleScs d a la) s = ok { dst := some (d.val, aluScs (b.reg a.val) la.val) }) ∧
    (∀ d a c n, exec (.cleSvm d a c n) s = arc d (aluSvm (b.reg a.val) (b.reg c.1.val) c.2.val n))

/-- Program faults (R192, R210). -/
def Obligations.ProgramFaultsAbortAndDisable : Prop :=
  ∀ (s : State) (i : Instance), s.cleLive = true → s.cle.started = [i] → s.cle.waiting = [] → i.prog < 8 →
    let faults (c : Instr) (code : Nat) := ∃ u, exec c s = .next u ∧ u.cle.started = [] ∧ u.r (CLE_PFLG_PFAULT i.prog) = 1 ∧
      u.r (CLE_PFLG_PFCODE i.prog) = code ∧ bit (u.r CLE_CTRL_PEN) i.prog = false ∧ u.raised Fid.programFault ∧ s.keepsMem u
    let b := s.bankOf i
    (∀ op : BitVec 6, i.pc < 4096 → s.badFetch i.pc = false → op.toNat ∉ cleOpcodes → faults (.cleIllegalOpcode op) 1) ∧
    (i.pc < 4096 → s.badFetch i.pc = false → ∀ l tgt, faults (.cleBr 7 l tgt) 1) ∧
    (i.pc < 4096 → s.badFetch i.pc = false → ∀ (m : Fin 8) l tgt, m.val < 7 → tgt.toNat ≤ i.pc → faults (.cleBr m l tgt) 2) ∧
    (i.pc < 4096 → s.badFetch i.pc = false → ∀ d p inc ofs, stageAddrOk (b.ptr p.val + ofs.toNat) = false →
      faults (.cleLd d p inc ofs) 3 ∧ faults (.cleSt d p inc ofs) 3) ∧
    (i.pc < 4096 → s.badFetch i.pc = false → ∀ d port, inputDefined port.val = false → faults (.cleIn d port) 4) ∧
    (i.pc < 4096 → s.badFetch i.pc = false → ∀ a port, outputDefined port.val = false → faults (.cleOut a port) 4) ∧
    (i.pc < 4096 → s.badFetch i.pc = false → ∀ d p inc ofs, stageAddrOk (b.ptr p.val + ofs.toNat) = true →
      s.badData (b.ptr p.val + ofs.toNat) = true → faults (.cleLd d p inc ofs) 5 ∧
      ∃ u, exec (.cleLd d p inc ofs) s = .next u ∧ u.raised Fid.cleMemory ∧ u.r CLE_ECC_UED = 1) ∧
    (i.pc < 4096 → s.badFetch i.pc = false → ∀ d a p n la, stageAddrOk (b.ptr p.val) = false → faults (.cleTlu d a p n la) 3) ∧
    (i.pc < 4096 → s.badFetch i.pc = false → ∀ d a p n la, stageAddrOk (b.ptr p.val) = true → s.badData (b.ptr p.val) = true →
      faults (.cleTlu d a p n la) 5) ∧
    (i.pc < 4096 → s.badFetch i.pc = true → faults .cleNop 5 ∧ ∀ t, faults (.cleEnd t) 5) ∧
    (4096 ≤ i.pc → faults .cleNop 6 ∧ ∀ t, faults (.cleEnd t) 6)

/-- Instances and their output points (R194 to R199). -/
def Obligations.InstancesTriggerReleaseAndMiss : Prop :=
  ∀ s : State, s.cleLive = true → s.cle.waiting = [] →
  (∀ t (p : Fin 8), s.cle.started = [] → s.cleEnabled p.val = true → s.prio p.val < 4 → p.val ≠ s.r CLE_BCTRL_PACE →
    (s.at t).trigDue p.val = true →
    ∃ u i, exec (.programTrigger t p) s = .next u ∧ u.cle.started = [i] ∧ u.cle.waiting = [] ∧ i.prog = p.val ∧
      i.pc = s.r (CLE_PCFG_ENTRY p.val) ∧ i.trig = (s.at t).nowU ∧ i.first = bit (s.r CLE_STS_FIRST) p.val ∧ i.outputs = [] ∧
      i.inputs = s.latchInputs (s.slot p.val).noWindow ∧ (u.slot p.val).due = none ∧
      bit (u.r CLE_STS_FIRST) p.val = false ∧ (u.bankOf i).c = 0 ∧ (∀ n, n < 4 → (u.bankOf i).ptr n = 0) ∧
      s.keepsRegs u [CLE_STS_FIRST] ∧ s.keepsMem u) ∧
  (∀ t i, s.cle.started = [i] → i.prog < 8 → i.pc < 4096 → s.badFetch i.pc = false → i.prog ≠ s.r CLE_BCTRL_PACE →
    (∀ x, i.outputs = [(0, x)] → (s.at t).nowU ≤ s.outPoint i → s.hoi.cut = [] → s.hoi.late = [] →
      ∃ u, exec (.cleEnd t) s = .next u ∧ u.cle.started = [] ∧ u.r (CLE_PFLG_CONSEC i.prog) = 0 ∧ u.cle.port0 = x ∧
        (∀ n, n < 3 → u.shadowOf (PWM_CMP_CMP n) = compareOf (x.val n) s.tickF % 2 ^ (PWM_CMP_CMP n).width) ∧
        s.keepsMem u) ∧
    (s.outPoint i < (s.at t).nowU → ∃ u, exec (.cleEnd t) s = .next u ∧ u.cle.started = [] ∧ u.r (CLE_PFLG_DLMISS i.prog) = 1 ∧
      u.r (CLE_PFLG_CONSEC i.prog) = min 15 (s.r (CLE_PFLG_CONSEC i.prog) + 1) ∧ u.cle.port0 = s.cle.port0 ∧
      u.shadow = s.shadow ∧ s.keepsMem u)) ∧
  (∀ t i (p : Fin 8), s.cle.started = [i] → i.prog = p.val → p.val ≠ s.r CLE_BCTRL_PACE → s.outPoint i ≤ (s.at t).nowU →
    ∃ u, exec (.outputPoint t p) s = .next u ∧ u.cle.started = [] ∧ u.r (CLE_PFLG_DLMISS p.val) = 1 ∧
      u.r (CLE_PFLG_CONSEC p.val) = min 15 (s.r (CLE_PFLG_CONSEC p.val) + 1) ∧ u.cle.port0 = s.cle.port0 ∧
      u.shadow = s.shadow ∧ s.keepsMem u)

/-- Enables (R200), set-points (R203), self-checks (R211, R212) and Bunting (R209). -/
def Obligations.EnablesChecksSetPointsAndBunting : Prop :=
  ∀ s : State, s.cleLive = true →
  (∀ who v, s.mayWrite who CLE_CTRL_RUN → s.cpm.cleReload = false → ∃ u, exec (.cleRun who v) s = .next u ∧ u.b CLE_CTRL_RUN = v ∧
    u.cle.waiting = (if v then s.cle.waiting else []) ∧ s.keepsRegs u [CLE_CTRL_RUN] ∧ s.keepsMem u) ∧
  (∀ who (m : BitVec 8), s.mayWrite who CLE_CTRL_PEN → s.cpm.cleReload = false → s.r CLE_CTRL_PEN = 0 →
    ∃ u, exec (.programEnable who m) s = .next u ∧
    u.r CLE_CTRL_PEN = m.toNat ∧ (∀ p, p < 8 → (u.slot p).enabling = (m.getLsbD p || (s.slot p).enabling) ∧
      (m.getLsbD p = true → (u.slot p).enabled = false)) ∧ s.keepsRegs u [CLE_CTRL_PEN] ∧ s.keepsMem u) ∧
  (∀ p : Fin 8, (s.slot p.val).enabling = true →
    (s.codeGood p.val = true → ∃ u, exec (.codeCheckComplete p) s = .next u ∧ (u.slot p.val).enabled = true ∧
      (u.slot p.val).enabling = false ∧ bit (u.r CLE_STS_FIRST) p.val = true ∧
      s.keepsRegs u [CLE_STS_FIRST, CLE_ECC_CECNT] ∧ s.keepsMem u) ∧
    (s.codeGood p.val = false → ∃ u, exec (.codeCheckComplete p) s = .next u ∧ (u.slot p.val).enabled = false ∧
      bit (u.r CLE_CTRL_PEN) p.val = false ∧ bit (u.r CLE_STS_CRCFAIL) p.val = true ∧ u.raised Fid.codeCheck ∧ s.keepsMem u)) ∧
  (∀ who, s.mayWrite who CLE_CTRL_CHKEN → s.cpm.cleReload = false →
    (s.b CLE_CTRL_CHKEN = false → ∃ u, exec (.chken who true) s = .next u ∧ u.b CLE_CTRL_CHKEN = true ∧ u.cle.sinceArith = 0 ∧
      (∀ p, p < 8 → u.slot p = { s.slot p with sincePass := 0 }) ∧ s.keepsRegs u [CLE_CTRL_CHKEN] ∧ s.keepsMem u) ∧
    (s.b CLE_CTRL_CHKEN = true → exec (.chken who true) s = .next (s.after (s.wb CLE_CTRL_CHKEN true))) ∧
    (s.drv = .off → exec (.chken who false) s = .next (s.after (s.wb CLE_CTRL_CHKEN false))) ∧
    (s.drv ≠ .off → exec (.chken who false) s = .next (s.after s))) ∧
  (s.cpm.cleReload = true → ∀ who v m, exec (.cleRun who v) s = .next (s.after s) ∧ exec (.programEnable who m) s = .next (s.after s) ∧
    exec (.chken who v) s = .next (s.after s)) ∧
  (∀ who v, s.mayWrite who CLE_SPDATA_DATA → s.hoi.cut = [] → s.hoi.late = [] →
    (s.r CLE_SPSEL_SP < 7 → s.r CLE_SPSEL_LANE < 8 → ∃ u, exec (.spdata who v) s = .next u ∧ s.keepsRegs u [] ∧ s.keepsMem u ∧
      u.shadowOf (spFld (s.r CLE_SPSEL_SP) (if s.b CLE_SPSEL_EXP then 8 else s.r CLE_SPSEL_LANE)) =
        v.toNat % 2 ^ (if s.b CLE_SPSEL_EXP then 6 else 24)) ∧
    (s.r CLE_SPSEL_SP = 7 → exec (.spdata who v) s = .next (s.after (s.w CLE_STS_WPERR 1)))) ∧
  (∀ who v (lane : Fin 8) e, s.mayWrite who CLE_SPDATAG_DATA → s.hoi.cut = [] → s.hoi.late = [] →
    ∃ u, exec (.spdatag who v lane e) s = .next u ∧ s.keepsRegs u [] ∧ s.keepsMem u ∧
      u.shadowOf (spFld 7 (if e then 8 else lane.val)) = v.toNat % 2 ^ (if e then 6 else 24)) ∧
  (∀ p : Fin 8, s.b CLE_CTRL_CHKEN = true → (s.slot p.val).enabled = true →
    (s.codeGood p.val = true → ∃ u, exec (.codeCheckPass p) s = .next u ∧ (u.slot p.val).sincePass = 0 ∧
      (u.slot p.val).enabled = true ∧ s.keepsMem u) ∧
    (s.codeGood p.val = false → ∃ u, exec (.codeCheckPass p) s = .next u ∧ (u.slot p.val).enabled = false ∧
      bit (u.r CLE_CTRL_PEN) p.val = false ∧ bit (u.r CLE_STS_CRCFAIL) p.val = true ∧ u.raised Fid.codeCheck ∧ s.keepsMem u)) ∧
  (s.b CLE_CTRL_CHKEN = true →
    (∃ u, exec (.arithmeticCheck true) s = .next u ∧ u.cle.sinceArith = 0 ∧ u.cle.arithBad = false ∧ s.keepsMem u) ∧
    (∃ u, exec (.arithmeticCheck false) s = .next u ∧ u.cle.arithBad = true ∧ u.r CLE_STS_ARFAIL = 1 ∧ u.raised Fid.arithCheck ∧
      s.keepsMem u) ∧
    (s.checksFresh = false → ∃ u, exec .selfCheckStarved s = .next u ∧ u.r CLE_STS_STARVED = 1 ∧ u.raised Fid.starved ∧
      s.keepsMem u)) ∧
  (∀ who, s.mayWrite who CLE_BCTRL_START → s.r CLE_BSTS_STATE = 0 ∨ s.r CLE_BSTS_STATE = 3 →
    (s.b CLE_BCTRL_ARM = true → s.bBufferOk = true → s.holdsClass .A = false → s.holdsClass .B = false →
      (s.slot (s.r CLE_BCTRL_PACE)).enabled = true → ∃ u, exec (.buntingStart who true) s = .next u ∧ u.r CLE_BSTS_STATE = 1 ∧
        u.r CLE_BSTS_NCAP = 0 ∧ u.cle.bunting = {} ∧ s.keepsRegs u [CLE_BSTS_STATE, CLE_BSTS_NCAP] ∧ s.keepsMem u) ∧
    (s.b CLE_BCTRL_ARM = false → exec (.buntingStart who true) s = .next (s.after (s.w CLE_BSTS_REFUSED 1)))) ∧
  (∀ who, s.mayWrite who CLE_BCTRL_STOP → s.r CLE_BSTS_STATE = 1 ∨ s.r CLE_BSTS_STATE = 2 →
    exec (.buntingStop who true) s = .next (s.after (s.w CLE_BSTS_STATE 3)))

/-! The drive service, the safe-state sequencer and the safety inputs (chapters 10 and 17). -/

/-- The drive service (R227 to R233). -/
def Obligations.DriveServiceMovesByItsTimers : Prop :=
  ∀ (s : State) (t : Nat),
  ((s.at t).lasted .meas (msU 2) = true →
    (s.measValid = true → s.drive.fromLost = false →
      ((Frac.ofInt s.fcCatchThr).le s.measSpeed.abs = true → ∃ u, exec (.measEnd t) s = .next u ∧ u.drive.svc = .catch ∧ s.keepsMem u) ∧
      ((Frac.ofInt s.fcCatchThr).le s.measSpeed.abs = false → (Frac.ofInt s.fcStopThr).le s.measSpeed.abs = true →
        ∃ u, exec (.measEnd t) s = .next u ∧ u.drive.svc = .short ∧ s.keepsMem u) ∧
      ((Frac.ofInt s.fcCatchThr).le s.measSpeed.abs = false → (Frac.ofInt s.fcStopThr).le s.measSpeed.abs = false →
        ∃ u, exec (.measEnd t) s = .next u ∧ u.drive.svc = .align ∧ u.drive.lanes.headD 0 = 192 ∧ s.keepsMem u)) ∧
    (s.measValid = false → ∃ u, exec (.measEnd t) s = .next u ∧ u.drive.svc = .idle ∧ u.raised Fid.catchMeas ∧ s.keepsMem u)) ∧
  ((s.at t).lasted .align (msU s.fcAlignT) = true → ∃ u, exec (.alignEnd t) s = .next u ∧ u.drive.svc = .ramp ∧
    u.drive.lanes.headD 0 = 256 ∧ u.drive.since = some (s.at t).nowU ∧ s.keepsMem u) ∧
  (∀ c svc lim, (c = .shortTimeout t ∧ svc = .short ∧ lim = s.fcShortTmax) ∨ (c = .startTimeout t ∧ svc = .ramp ∧ lim = s.fcStartT) ∨
      (c = .catchTimeout t ∧ svc = .catch ∧ lim = s.fcCatchT ∧ s.drive.fromLost = false) → (s.at t).lasted svc (msU lim) = true →
    (s.drive.tries + 1 < s.fcStartN → ∃ u, exec c s = .next u ∧ u.drive.svc = .retry ∧ u.drive.tries = s.drive.tries + 1 ∧
      u.b PWM_CTRL_RUN = false ∧ s.keepsMem u) ∧
    (s.fcStartN ≤ s.drive.tries + 1 → ∃ u, exec c s = .next u ∧ u.drive.svc = .idle ∧ u.raised Fid.startFailed ∧
      u.b PWM_CTRL_RUN = false ∧ s.keepsMem u)) ∧
  ((s.at t).lasted .retry (msU s.fcRetryWait) = true → ∃ u, exec (.retryWaitEnd t) s = .next u ∧ u.drive.svc = .meas ∧
    u.drive.since = none ∧ u.drive.fromLost = false ∧ s.keepsMem u) ∧
  (s.driveAwake = true → s.drive.svc = .obs → 3 ≤ s.drive.bad → s.kernelPasses = true →
    (s.angleValid = true → ∃ u, exec (.rotorLost t) s = .next u ∧ u.drive.svc = .sens ∧ u.raised Fid.rotorLost ∧ s.keepsMem u) ∧
    (s.angleValid = false → ∃ u, exec (.rotorLost t) s = .next u ∧ u.drive.svc = .lost ∧ u.drv = .safe ∧ u.raised Fid.rotorLost ∧
      s.keepsMem u)) ∧
  (s.driveAwake = true → s.drive.svc = .lost → s.drive.lostAt + msU s.fcRecatchDelay ≤ (s.at t).nowU → s.drive.attempts < s.fcRecatchN →
    ∃ u, exec (.recatchDelayEnd t) s = .next u ∧ u.drive.svc = .meas ∧ u.drive.fromLost = true ∧ s.keepsMem u) ∧
  ((s.at t).lasted .catch (msU s.fcCatchT) = true → s.drive.fromLost = true → s.drive.attempts + 1 < s.fcRecatchN → s.kernelPasses = true →
    ∃ u, exec (.catchTimeout t) s = .next u ∧ u.drive.svc = .lost ∧ u.drive.attempts = s.drive.attempts + 1 ∧ u.drv = .safe ∧
      s.keepsMem u) ∧
  (∀ a, s.driveAwake = true → s.drive.svc = .obs → s.drive.holdFrom = some a → a + secU s.fcRecatchHold ≤ (s.at t).nowU →
    ∃ u, exec (.recatchHoldEnd t) s = .next u ∧ u.drive = { s.drive with attempts := 0 } ∧ s.keepsRegs u [] ∧ s.keepsMem u)

/-- The commands of R368 with the conditions of R369 to R371 and R377. -/
def Obligations.CommandsOfTheDriveMeetTheirConditions : Prop :=
  ∀ (s : State) (who : Agent), s.mayWrite who SSS_CMD_CODE →
    let f := s.fresh 0x080
    let refused (c : Instr) (x : State) (code : Nat) := exec c s = .next (s.after ((x.w SSS_STS_CMDREF 1).w SSS_STS_REFCODE code))
    (s.drv = .off → s.armHeld = false → s.pwmReady = true → s.releaseRef true = 0 → s.hallZeroOk = true →
      ∃ u, exec (.arm who) s = .next u ∧ u.drv = .armed ∧ (s.cpm.dev = .idle → u.cpm.dev = .run) ∧ u.safest = .none ∧ u.b SSS_STS_OVR = false ∧ s.keepsMem u) ∧
    (s.drv ≠ .off ∨ s.pwmReady = false → refused (.arm who) f 1) ∧
    (s.drv = .off → s.armHeld = false → s.pwmReady = true → s.releaseRef true ≠ 0 → refused (.arm who) f (s.releaseRef true)) ∧
    (s.drv = .off → s.armHeld = false → s.pwmReady = true → s.releaseRef true = 0 → s.hallZeroOk = false → refused (.arm who) f 5) ∧
    (s.drv = .armed → ∃ u, exec (.disarm who) s = .next u ∧ u.drv = .off ∧ u.safest = .freewheel ∧ u.b SSS_STS_OVR = true ∧
      u.drive.svc = .idle ∧ s.keepsMem u) ∧
    (s.drv ≠ .armed → refused (.disarm who) f 1) ∧
    (∀ t, s.drv = .armed → s.drive.svc = .idle → s.fieldParamsOk = true → s.programsOk = true →
      (s.angleValid = true → ∃ u, exec (.start t who) s = .next u ∧ u.drive.svc = .sens ∧ u.drive.tries = 0 ∧ s.keepsMem u) ∧
      (s.angleValid = false → s.b POS_CTRL_SENSLESS = true →
        ∃ u, exec (.start t who) s = .next u ∧ u.drive.svc = .meas ∧ u.drive.tries = 0 ∧ s.keepsMem u) ∧
      (s.angleValid = false → s.b POS_CTRL_SENSLESS = false → refused (.start t who) (f.at t) 1)) ∧
    (∀ t, s.drv ≠ .armed ∨ s.drive.svc ≠ .idle → refused (.start t who) (f.at t) 1) ∧
    (∀ t, s.drv = .armed ∨ s.drv = .run → ∃ u, exec (.stop t who) s = .next u ∧ u.drv = .stopping ∧ u.r SSS_STS_SS1RUN = 1 ∧
      u.ss1.at0 = (s.at t).nowU ∧ (s.sss.ss1Wait = false → u.ss1.timerAt = (s.at t).nowU) ∧ u.ss1.f0 = (s.ri POS_SPDM_SPEED).natAbs ∧ s.keepsMem u ∧
      s.keepsRegs u [SSS_STS_DSTATE, SSS_STS_SS1RUN, CPM_XSTALE_STALE]) ∧
    (∀ t, s.drv = .stopping → exec (.stop t who) s = .next (s.after (f.at t))) ∧
    (∀ t, s.offOrSafe = true → refused (.stop t who) (f.at t) 1) ∧
    (∃ u, exec (.sto who) s = .next u ∧ u.drv = .safe ∧ s.keepsMem u) ∧
    (s.drv = .safe → s.underTest 9 = false → s.releaseRef false = 0 →
      ∃ u, exec (.reloff who) s = .next u ∧ u.drv = .off ∧ u.safest = .freewheel ∧ s.keepsMem u) ∧
    (s.drv = .safe → s.underTest 9 = false → s.releaseRef false ≠ 0 → refused (.reloff who) f (s.releaseRef false)) ∧
    (s.drv ≠ .safe → refused (.reloff who) f 1) ∧
    (∀ t, s.relarmRef = 0 → ∃ u, exec (.relarm t who) s = .next u ∧ u.drv = .armed ∧ s.keepsMem u ∧
      (s.safest = .freewheel → u.b SSS_STS_OVR = false ∧ u.safest = .none) ∧
      (s.safest = .ascL ∨ s.safest = .ascH → u.b SSS_STS_OVR = (s.b SSS_STS_OVR || s.safest == .ascH) ∧ u.safest = .ascL ∧
        u.sss.keepAscL = true)) ∧
    (∀ t, s.relarmRef ≠ 0 → refused (.relarm t who) (f.at t) s.relarmRef) ∧
    (s.windrelRef = 0 → ∃ u, exec (.windrel who) s = .next u ∧ u.b SSS_STS_WINDREL = true ∧ u.b SSS_STS_OVR = false ∧ u.drv = s.drv ∧
      s.keepsMem u) ∧
    (s.windrelRef ≠ 0 → refused (.windrel who) f s.windrelRef) ∧
    (s.windrelRef = if s.offOrSafe = false ∨ s.underTest 9 = true then 1 else if s.r DIS_STS_STATE ≠ 4 then 10
      else if s.sss.motorStill = false then 11 else 0) ∧
    (∀ a : Bool, s.releaseRef a = (((([(2, decide (s.sss.goodOuter < 2)), (3, s.holdsClass .A || s.holdsClass .B), (4, s.stopDemand),
      (5, s.testsDue || (!a && s.sss.bootTest)), (6, s.b DBG_CTRL_OPEN), (7, !s.kern.blockOk || s.hasFault Fid.paramInvalid || !s.settingsOk),
      (9, a && ((s.r DIS_STS_STATE != 0 && s.r DIS_STS_STATE != 5 && s.r DIS_STS_STATE != 6) || s.hasFault Fid.contactorNotOpen)),
      (7, a && decide (400 * s.r SSS_CFG_ASCDLY < s.r PWM_DTMAX_DTMAX)), (8, !a && s.safest != .freewheel)]
        : List (Nat × Bool)).find? (·.2)).map (·.1)).getD 0))

/-- The SSS's own reactions and the latent tests (R372 to R375, R382, R392, R393). -/
def Obligations.SafeStateSequencerActsOnItsOwn : Prop :=
  ∀ s : State,
  (∀ t (k : Fin 3), k = 2 ∨ s.sss.stopped = false → s.sss.beatAt.get k.val + s.beatLimit k.val ≤ (s.at t).nowU →
    ∃ u, exec (.heartbeatLoss t k) s = .next u ∧ u.r SSS_STS_HBLOSS = 1 ∧ bit (u.r SSS_STS_HBSRC) k.val = true ∧ u.drv = .safe ∧
      u.raised Fid.heartbeatLost ∧ s.keepsMem u) ∧
  (∀ t, s.safest = .ascL ∨ s.safest = .ascH → s.b SSS_STS_OVR = true → s.sss.ascAt + 400 * s.r SSS_CFG_ASCDLY ≤ (s.atF t).nowF →
    ∃ u, exec (.ascTurnOn t) s = .next u ∧ u.sss = { s.sss with ascOn := true, relarmMove := false } ∧ s.keepsRegs u [] ∧
      s.keepsMem u) ∧
  (∀ t, s.b SSS_STS_NOTBL = false → s.sss.portAt + s.hbtoU ≤ (s.at t).nowU →
    exec (.tableStale t) s = .next (s.after ((s.at t).w SSS_STS_TBLSTALE 1))) ∧
  (∀ t, s.b SSS_STS_SS1RUN = true → s.ss1.timerAt + msU (s.r SSS_SS1_SS1TMAX) ≤ (s.at t).nowU →
    ∃ u, exec (.ss1TimeLimit t) s = .next u ∧ u.drv = .safe ∧ u.raised Fid.ss1Limit ∧ s.keepsMem u) ∧
  (∀ t, s.sss.ss1Wait = true → s.sss.ss1WaitAt + msU (max 1 (s.r SSS_SS1_SS1START)) ≤ (s.at t).nowU →
    ∃ u, exec (.ss1NotStarted t) s = .next u ∧ u.drv = .safe ∧ u.raised Fid.ss1NotStarted ∧ s.keepsMem u) ∧
  (s.mayTest = true → ∀ c k (ok : Bool), ((∃ b, (c, k, ok) ∈ [(Instr.testFreewheel b, 0, b == 0), (Instr.testAscL b, 1, b == 42),
      (Instr.testAscH b, 2, b == 21)]) ∨ (∃ d, (c, k, ok) = (Instr.testHeartbeatWithhold (some d), 3, decide (d ≤ s.hbtoU + 50))) ∨
      (c, k, ok) = (Instr.testHeartbeatWithhold none, 3, false)) →
    let x : Sss := if k < 3 then { s.sss with pattern := testPattern k, patternEnd := s.nowU + 400 } else s.sss
    (ok = true → ∃ u, exec c s = .next u ∧ s.keepsMem u ∧
      (bitSet s.sss.passed k ≠ 31 → u.sss = { x with passed := bitSet s.sss.passed k }) ∧
      (bitSet s.sss.passed k = 31 → u.sss = { x with passed := 0, overdue := false, bootTest := false, runPeriods := 0 })) ∧
    (ok = false → ∃ u, exec c s = .next u ∧ u.r SSS_STS_TFAIL = 1 ∧ u.raised Fid.latentTest ∧ s.keepsMem u)) ∧
  (s.mayTest = true → ∃ u, exec (.swallowtailTest false) s = .next u ∧ u.b SAF_TP_TEST = true ∧ u.tpoLevel 1 = false ∧
    u.saf = { s.saf with testAt := s.cpm.msTick, discSeen := 0 } ∧
    s.keepsRegs u [SAF_TP_TEST, SAF_TP_HOLDB, SSS_STS_TBUSY] ∧ s.keepsMem u) ∧
  (s.b SAF_TP_TEST = true → s.kernelPasses = true → s.saf.testAt + s.swallowtailMs ≤ s.cpm.msTick →
    ((∀ p, p < 5 → s.safInUse p = true → bit s.saf.discSeen p = true) → bitSet s.sss.passed 4 ≠ 31 →
      ∃ u, exec (.swallowtailTest true) s = .next u ∧ u.b SAF_TP_TEST = false ∧ u.b SSS_STS_TBUSY = false ∧
        u.sss = { s.sss with passed := bitSet s.sss.passed 4 } ∧ s.keepsMem u) ∧
    (∀ p, p < 5 → s.safInUse p = true → bit s.saf.discSeen p = false →
      ∃ u, exec (.swallowtailTest true) s = .next u ∧ u.b SAF_TP_TEST = false ∧ u.b SSS_STS_TBUSY = false ∧
        u.r SSS_STS_TFAIL = 1 ∧ u.raised Fid.latentTest ∧ s.keepsMem u)) ∧
  (∀ p age stamp, s.b SAF_TP_TEST = true → let u := s.safFire p age stamp
    u.saf.discSeen = bitSet s.saf.discSeen p ∧ u.flt = s.flt ∧ u.r SAF_STS_LOCK = s.r SAF_STS_LOCK) ∧
  (s.pLftInt * 117964800 ≤ s.sss.runPeriods → ∃ u, exec .latentTestDue s = .next u ∧
    u.sss = { s.sss with overdue := true, passed := 0 } ∧ s.keepsRegs u [] ∧ s.keepsMem u)

/-- The safety inputs and outputs (R384, R385, R387, R389). -/
def Obligations.SafetyPairsDemandAndReset : Prop :=
  ∀ s : State, s.cpm.vio = true → s.asleep = false →
  (∀ t (p : Fin 5) (n : Fin 10) k stamp, n.val = 2 * p.val → s.safKind p.val ≠ 0 → s.safKind p.val ≠ 4 →
    (s.at t).inputStable n.val k = true → ∃ u, exec (.safetyInputChange t ⟨n, k⟩ stamp false) s = .next u ∧ (u.chan n.val).level = false ∧
      bit (u.r SAF_STS_DEMAND) p.val = true ∧ s.keepsMem u ∧
      (bit (s.r SAF_STS_DEMAND) p.val = false → bit (s.safReact p.val) 0 = true → u.drv = .safe)) ∧
  (∀ t (n : Fin 10) k stamp level, (s.at t).inputStable n.val k = false →
    exec (.safetyInputChange t ⟨n, k⟩ stamp level) s = .next (s.after (s.at t))) ∧
  (∀ t (p : Fin 5) (n : Fin 10) k stamp, n.val = 2 * p.val → (s.at t).inputStable n.val k = true → s.safKind p.val = 2 → s.b (SAF_PAIR_AUTORST p.val) = true →
    s.safeB p.val = false → (s.chan n.val).missed = false → bit (s.r SAF_STS_LOCK) p.val = false →
    bit (s.r SAF_STS_RSTREQ) p.val = false → (s.pair p.val).force = false →
    ∃ u, exec (.safetyInputChange t ⟨n, k⟩ stamp true) s = .next u ∧ bit (u.r SAF_STS_DEMAND) p.val = false ∧ s.keepsMem u) ∧
  (∀ (n : Fin 10) t stamp b, (s.at t).pulseToCheck n.val = some b → s.safKind (n.val / 2) ≠ 4 → (s.chan n.val).missed = false →
    (∃ u, exec (.testPulse ⟨n, t⟩ stamp false) s = .next u ∧ (u.chan n.val).missed = true ∧ bit (u.r SAF_STS_TPERR) (n.val / 2) = true ∧
      u.raised Fid.testPulse ∧ s.keepsMem u) ∧
    (∃ u, exec (.testPulse ⟨n, t⟩ stamp true) s = .next u ∧ u.chan n.val = { s.chan n.val with pulseAt := b } ∧ s.keepsMem u)) ∧
  (∀ (n : Fin 10) t stamp seen, (s.at t).pulseToCheck n.val = none → exec (.testPulse ⟨n, t⟩ stamp seen) s = .next (s.after (s.at t))) ∧
  (∀ (n : Fin 2) t sfb, (s.at t).offToCheck n.val = none → exec (.offPulse ⟨n, t⟩ sfb) s = .next (s.after (s.at t))) ∧
  (∀ (n : Fin 2) t, (s.at t).offToCheck n.val ≠ none → bit (s.r SAF_OUT_LATCHOFF) n.val = false →
    (∃ u, exec (.offPulse ⟨n, t⟩ true) s = .next u ∧ (u.safOut n.val).fails = (s.safOut n.val).fails + 1 ∧
      bit (u.r SAF_OUT_RBERR) n.val = true ∧ s.keepsMem u ∧
      (max 1 (s.r SAF_OPT_SFBN) ≤ (s.safOut n.val).fails + 1 → bit (u.r SAF_OUT_LATCHOFF) n.val = true ∧
        bit (u.r SAF_OUT_LEVEL) n.val = false ∧ u.raised Fid.outputReadback)) ∧
    (∃ u, exec (.offPulse ⟨n, t⟩ false) s = .next u ∧ (u.safOut n.val).fails = 0 ∧ s.keepsRegs u [] ∧ s.keepsMem u)) ∧
  (∀ who (m : BitVec 5) (p : Fin 5), s.mayWrite who SAF_RESET_RST → s.safKind p.val ≠ 4 → bit (s.r SAF_STS_RSTREQ) p.val = true →
    (m.getLsbD p.val = true → (s.pair p.val).cause = false →
      ∃ u, exec (.safReset who m) s = .next u ∧ bit (u.r SAF_STS_RSTREQ) p.val = false ∧ s.keepsMem u) ∧
    (m.getLsbD p.val = false ∨ (s.pair p.val).cause = true →
      ∃ u, exec (.safReset who m) s = .next u ∧ bit (u.r SAF_STS_RSTREQ) p.val = true ∧ s.keepsMem u)) ∧
  (∀ who v, s.mayWrite who SAF_OUT_ON → ∃ u, exec (.outputOn who v) s = .next u ∧ u.r SAF_OUT_ON = v.toNat ∧
    (∀ n, n < 2 → bit (u.r SAF_OUT_LEVEL) n = (v.getLsbD n && !s.outHeld n && !bit (s.r SAF_OUT_LATCHOFF) n)) ∧
    s.keepsRegs u [SAF_OUT_ON, SAF_OUT_LEVEL] ∧ s.keepsMem u)

/-! The auxiliary axes and Guidon (chapters 11 and 12). -/

/-- The axes' evaluation and commands (R242 to R256). -/
def Obligations.AxesStepStopAndFault : Prop :=
  ∀ (s : State) (n : Fin 2), s.axsLive = true →
    let st := s.r (AXS_STS_STATE n.val)
    (∀ t, ∃ u, exec (.axisEvaluation t) s = .next u ∧ s.keepsMem u ∧ u.r AXS_TIME_TIME = (s.r AXS_TIME_TIME + 1) % 2 ^ 32 ∧
      (∃ d : Int, d.natAbs ≤ 1 ∧ (u.axis n.val).po =
        if d = 0 then (s.axis n.val).po else (BitVec.ofInt 32 ((s.axis n.val).po + d)).toInt) ∧
      ((s.axis n.val).sinceStep < 3 → (u.axis n.val).po = (s.axis n.val).po) ∧
      ((s.axis n.val).stopReq = true → st ≠ 0 → st ≠ 6 → u.r (AXS_STS_STATE n.val) = 5 ∧ u.r (AXS_STS_POSVAL n.val) = 0 ∧
        (u.axis n.val).po = (s.axis n.val).po ∧ (u.axis n.val).pc = Frac.ofInt (s.axis n.val).po ∧ (u.axis n.val).vel = {})) ∧
    (∀ who, s.mayWrite who (AXS_CTRL_GO n.val) →
      (st = 1 ∨ st = 4 ∨ st = 5 → exec (.go n who) s = .next (s.after (s.setAxis n.val { s.axis n.val with goReq := true }))) ∧
      (st ≠ 1 → st ≠ 4 → st ≠ 5 → exec (.go n who) s = .next (s.after (s.w (AXS_STS_REFUSED n.val) 1)))) ∧
    (∀ who, s.mayWrite who (AXS_CTRL_STOP n.val) →
      exec (.axisStop n who) s = .next (s.after (s.setAxis n.val { s.axis n.val with stopReq := true }))) ∧
    (∀ who (x : BitVec 32), s.mayWrite who (AXS_TGT_TGT n.val) →
      (st ≠ 0 → st ≠ 6 → exec (.retarget n who x) s = .next (s.after (s.setAxis n.val { s.axis n.val with tgtReq := some x.toInt }))) ∧
      (st = 0 ∨ st = 6 → exec (.retarget n who x) s = .next (s.after (s.w (AXS_STS_REFUSED n.val) 1)))) ∧
    (∀ who (x : BitVec 32), s.mayWrite who (AXS_POSSET_PRESET n.val) →
      (st = 1 ∨ st = 4 ∨ st = 5 → ∃ u, exec (.axisPreset n who x) s = .next u ∧ (u.axis n.val).po = x.toInt ∧
        (u.axis n.val).pc = Frac.ofInt x.toInt ∧ u.r (AXS_STS_POSVAL n.val) = 1 ∧ u.r (AXS_POS_POS n.val) = x.toNat ∧ s.keepsMem u) ∧
      (st ≠ 1 → st ≠ 4 → st ≠ 5 → exec (.axisPreset n who x) s = .next (s.after (s.w (AXS_STS_REFUSED n.val) 1)))) ∧
    (∀ who (x : BitVec 32), s.mayWrite who (AXS_SEGW2_V1 n.val) → s.r (AXS_SEGSEL_IDX n.val) < 256 →
      (st ≠ 2 ∨ (s.r (AXS_SEGSEL_IDX n.val) ≠ s.r (AXS_STS_RD n.val) ∧
          s.r (AXS_SEGSEL_IDX n.val) ≠ (s.r (AXS_STS_RD n.val) + 1) % 256) → ∃ u, exec (.segmentWrite n who x) s = .next u ∧ s.keepsRegs u [] ∧ s.keepsMem u ∧
        (u.axis n.val).seg (s.r (AXS_SEGSEL_IDX n.val)) = ⟨s.r (AXS_SEGW0_T1 n.val), s.ri (AXS_SEGW1_P1 n.val),
          signedOf 24 (x.toNat % 2 ^ 24), x.getLsbD 24⟩ ∧
        (∀ i, i < 256 → i ≠ s.r (AXS_SEGSEL_IDX n.val) → (u.axis n.val).seg i = (s.axis n.val).seg i)) ∧
      (st = 2 → s.r (AXS_SEGSEL_IDX n.val) = s.r (AXS_STS_RD n.val) →
        exec (.segmentWrite n who x) s = .next (s.after (s.w (AXS_STS_WPERR n.val) 1)))) ∧
    (1000 * s.r (AXS_CUR_STDLY n.val) ≤ (s.axis n.val).stillUs → 1 ≤ st → st ≤ 6 →
      ∃ u, exec (.standstillCurrent n) s = .next u ∧ u.r (AXS_STS_STILL n.val) = 1 ∧ s.keepsRegs u [AXS_STS_STILL n.val] ∧ s.keepsMem u) ∧
    (∀ t isA (code : BitVec 10), s.b (AXS_CTRL_MODE n.val) = false → (s.phase n.val isA).bridge ≠ .off →
      (s.phase n.val isA).driving = true → (s.phase n.val isA).since + s.blankU n.val ≤ (s.at t).nowU →
      s.chopUpper n.val (s.phase n.val isA) < (code.toNat : Int) →
      ∃ u, exec (.chopCrossing t n isA code) s = .next u ∧ (u.phase n.val isA).driving = false ∧
        (u.phase n.val isA).since = (s.at t).nowU ∧ (u.phase n.val isA).decayAt = (s.at t).nowU ∧ s.keepsMem u) ∧
    (∀ t (code : BitVec 10), s.b (AXS_CTRL_MODE n.val) = true → ∃ u, exec (.chopCrossing t n false code) s = .next u ∧
      (u.axis n.val).drvLow.isSome = decide (code.toNat < s.r (AXS_SD_FLTCODE n.val)) ∧ s.keepsRegs u [] ∧ s.keepsMem u) ∧
    (∀ t isA, (s.phase n.val isA).bridge ≠ .off →
      let past (x : Nat) : Prop := (s.phase n.val isA).since + x ≤ (s.at t).nowU;
      let decayed (x : Nat) : Prop := (s.phase n.val isA).decayAt + x ≤ (s.at t).nowU;
      ((s.phase n.val isA).driving = true → s.chopAbove n.val (s.phase n.val isA) = true → past (s.blankU n.val) →
        ∃ u, exec (.chopPhaseTimeout t n isA .blank) s = .next u ∧ (u.phase n.val isA).driving = false ∧
          (u.phase n.val isA).atBlank = true ∧ s.keepsMem u) ∧
      ((s.phase n.val isA).driving = true → past (s.tonmaxU n.val) →
        ∃ u, exec (.chopPhaseTimeout t n isA .tonmax) s = .next u ∧ (u.phase n.val isA).driving = false ∧
          (u.phase n.val isA).longOn = (s.phase n.val isA).longOn + 1 ∧ s.keepsMem u) ∧
      ((s.phase n.val isA).driving = false → s.chopBelow n.val (s.phase n.val isA) = true → past (s.blankU n.val) →
        decayed (s.toffU n.val) →
        ∃ u, exec (.chopPhaseTimeout t n isA .toffmin) s = .next u ∧ (u.phase n.val isA).driving = true ∧
          (u.phase n.val isA).ofs = (s.phase n.val isA).ofs ∧ s.keepsMem u) ∧
      ((s.phase n.val isA).driving = false → (s.phase n.val isA).fast = true → decayed (s.fasttU n.val) →
        ∃ u, exec (.chopPhaseTimeout t n isA .fastt) s = .next u ∧ (u.phase n.val isA).bridge = .slow ∧
          (u.phase n.val isA).since = (s.at t).nowU ∧ s.keepsMem u)) ∧
    (let faults (c : Instr) (cause : Nat) (id : Nat) := ∃ u, exec c s = .next u ∧ u.r (AXS_STS_STATE n.val) = 6 ∧
        u.r (AXS_STS_POSVAL n.val) = 0 ∧ bit (u.r (AXS_STS_FCAUSE n.val)) cause = true ∧ u.raised id ∧
        (u.axis n.val).po = (s.axis n.val).po ∧ s.keepsMem u;
      (s.axBridge n.val = true →
        (∀ isA, s.chopOver n.val (s.phase n.val isA) = true → faults (.axisOvercurrent n) 1 Fid.axOvercurrent) ∧
        (∀ isA, s.chopOpen n.val (s.phase n.val isA) = true → faults (.axisOpenLoad n) 2 Fid.axOpenLoad)) ∧
      (∀ t0, s.axDriver n.val = true → (s.axis n.val).drvLow = some t0 → t0 + 2000 ≤ s.nowU →
        faults (.axisDriverFault n) 3 Fid.axDriver))

/-- Guidon's queue, dispatch, writes and gates (R263 to R279). -/
def Obligations.GuidonQueuesDispatchesAndGates : Prop :=
  ∀ s : State,
  (∀ e, s.gdn.queue.length ≤ 1024 → s.gdn.queue.countP (·.on) ≤ 960 →
    (s.gdnEnqueue e).gdn.queue.length ≤ 1024 ∧ (s.gdnEnqueue e).gdn.queue.countP (·.on) ≤ 960 ∧
    (e.on = true → s.gdn.queue.countP (·.on) = 960 → (s.gdnEnqueue e).gdn.queue = s.gdn.queue ∧ (s.gdnEnqueue e).r GDN_STS_ONREF = 1) ∧
    (e.on = false → s.gdn.queue.length < 1024 → (s.gdnEnqueue e).gdn.queue = s.gdn.queue ++ [e]) ∧
    (∀ x, e.on = false → s.gdn.queue.length = 1024 → latestOn s.gdn.queue = some x →
      (s.gdnEnqueue e).gdn.queue = s.gdn.queue.erase x ++ [e] ∧ (s.gdnEnqueue e).r GDN_STS_OFFDISP = 1)) ∧
  (s.gdnLive = true →
    (∀ who (v : BitVec 32), s.mayWrite who GDN_FIXT_PPSSEQ →
      (s.b GDN_CTRL_GNSSEN = true → ∃ u, exec (.fixSubmit who v) s = .next u ∧ s.keepsRegs u [] ∧ s.keepsMem u ∧
        u.gdn.fix = some ⟨s.ri GDN_FIXD_FIXD, v.toNat % 256, v.toNat / 256 % 2 ^ 20⟩) ∧
      (s.b GDN_CTRL_GNSSEN = false → exec (.fixSubmit who v) s = .next (s.after s))) ∧
    (s.gdn.fixedAt + 200000000 * s.r GDN_FIXCFG_FIXTO ≤ s.nowU →
      exec .gnssAlignTimeout s = .next (s.after (s.w GDN_STS_GNSSAL 0))) ∧
    (∀ who (v : BitVec 32), s.mayWrite who GDN_SECW2_SEN → s.hoi.cut = [] → s.hoi.late = [] → ∃ u, exec (.sectionWrite who v) s = .next u ∧
      u.shadowOf (secFld (s.r GDN_SECSEL_IDX) 0) = (s.r GDN_SECW0_ALONG + 65536 * s.r GDN_SECW0_LAT) % 2 ^ 32 ∧
      u.shadowOf (secFld (s.r GDN_SECSEL_IDX) 1) =
        (s.r GDN_SECW1_WIDTH + 2 ^ 12 * s.r GDN_SECW1_LATON + 2 ^ 22 * s.r GDN_SECW1_LATOFF) % 2 ^ 32 ∧
      u.shadowOf (secFld (s.r GDN_SECSEL_IDX) 2) = v.toNat % 2 ^ 29 ∧ s.keepsRegs u [] ∧ s.keepsMem u) ∧
    (∀ who (v : BitVec 32), s.mayWrite who GDN_EPW2_OFFPOS → s.hoi.cut = [] → s.hoi.late = [] → ∃ u, exec (.endpointWrite who v) s = .next u ∧
      u.shadowOf (epFld (s.r GDN_EPSEL_IDX) 0) = s.r GDN_EPW0_KIND % 2 ^ 32 ∧
      u.shadowOf (epFld (s.r GDN_EPSEL_IDX) 1) = s.r GDN_EPW1_ONPOS % 2 ^ 32 ∧
      u.shadowOf (epFld (s.r GDN_EPSEL_IDX) 2) = v.toNat ∧ s.keepsRegs u [] ∧ s.keepsMem u) ∧
    (∀ t, ∃ u, exec (.eventDispatch t) s = .next u ∧ s.keepsMem u ∧
      (∀ e ∈ u.gdn.queue, e ∈ s.gdn.queue ∧ s.localNode (e.ep / 256) = true ∧ (s.at t).nowU < e.inst) ∧
      u.hly.nextEvents = s.hly.nextEvents ++ s.gdn.queue.filter (fun e => !s.localNode (e.ep / 256))) ∧
    exec .evfifoRead s = .next (s.after { s with gdn := { s.gdn with fifo := s.gdn.fifo.drop 1 } })) ∧
  (∀ who v, s.live .impl → s.mayWrite who GDN_CTRL_MASTER → s.tested 8 = false → s.tested 12 = false →
    exec (.master who v) s = .next (s.after (s.wb GDN_CTRL_MASTER v))) ∧
  (s.cpm.phase = .running → s.b GDN_CTRL_TCGATE = true → s.gdn.isoHeard + 3000 ≤ s.cpm.msTick →
    ∃ u, exec .taskControllerLost s = .next u ∧ (∀ n, n < 8 → u.r (GDN_GATE_GATE n) = 0) ∧
      u.gdn.isoSet = [] ∧ u.raised Fid.tcLost ∧ s.keepsMem u) ∧
  (s.gdnAllOff.gdn.sched = [] ∧ s.gdnAllOff.gdn.actual = [] ∧ (∀ e ∈ s.gdnAllOff.gdn.queue, e.on = false) ∧
    s.gdnAllOff.hly.nextAllOff = true ∧ s.gdnAllOff.r GDN_STS_ALLOFF = 1) ∧
  (s.gdn.iso = .running →
    (∀ (i : Fin 16) (v : BitVec 32), ∃ u, exec (.setpointReceived i v) s = .next u ∧ s.keepsMem u ∧
      (∀ k, k < 16 → (16 * i.val + k, v.toNat / 4 ^ k % 4) ∈ u.gdn.isoSet) ∧
      (s.b GDN_CTRL_TCGATE = true → ∀ n b, n < 8 → b < 32 →
        (bit (u.r (GDN_GATE_GATE n)) b = true ↔ (32 * n + b, 1) ∈ u.gdn.isoSet))) ∧
    (∃ u, exec .workStateReport s = .next u ∧ s.keepsRegs u [] ∧ s.keepsMem u ∧
      u.gdn = { s.gdn with isoWork := !s.gdn.actual.isEmpty, isoSent := s.gdn.actual.filter (fun i => i < 256) }))

/-! The CAN FD controllers (chapter 21). -/

/-- CAN (R450, R452, R453): the kernel's client does not own the controller. -/
def Obligations.CanFramesBuffersAndErrorStates : Prop :=
  ∀ (s : State) (c : Fin 2), s.isoOwns c.val = false →
  (∀ who (mask : BitVec 24), s.canLive = true → s.mayWrite who (CAN_TXREQ_REQ c.val) →
    ∃ u, exec (.transmissionRequest c who mask) s = .next u ∧
      (∀ k, bit (u.can c.val).req k = (bit (s.can c.val).req k ||
        (decide (k < 24) && mask.getLsbD k && bit (s.r (CAN_BUFCFG_TX c.val)) k))) ∧
      (s.canOnBus c.val = true → (s.can c.val).sending = none → (∃ k, k < 24 ∧ bit (u.can c.val).req k = true) →
        ∃ k, (u.can c.val).sending = some k ∧ k < 24 ∧ bit (u.can c.val).req k = true ∧
          ∀ j, j < 24 → bit (u.can c.val).req j = true → s.canOrder c.val k < s.canOrder c.val j ∨
            (s.canOrder c.val k = s.canOrder c.val j ∧ k ≤ j)) ∧
      s.keepsRegs u [CPM_XSTALE_STALE] ∧ s.keepsMem u) ∧
  (∀ k : Fin 24, s.canOnBus c.val = true → s.b (CAN_CTRL_MON c.val) = false → bit (s.can c.val).req k.val = true →
    (s.can c.val).sending = some k.val → ∃ u, exec (.canTransmitDone c k) s = .next u ∧
      bit (u.can c.val).req k.val = false ∧ (∀ j, j ≠ k.val → bit (u.can c.val).req j = bit (s.can c.val).req j) ∧
      bit (u.r (CAN_TXDONE_DONE c.val)) k.val = true ∧ u.r (CAN_STS_TEC c.val) = min 255 (s.r (CAN_STS_TEC c.val) - 1) ∧
      u.readLE (canBuf c.val k.val + 6) 2 = s.r HOI_TICKCNT_TICKCNT % 65536 ∧
      ∀ a, a < canBuf c.val k.val + 6 ∨ canBuf c.val k.val + 8 ≤ a → u.byte a = s.byte a) ∧
  (∀ (id : BitVec 29) (xtd rtr esi fdf brs : Bool) (dlc : BitVec 4) (data : List Byte), s.canOnBus c.val = true →
    (fdf = true → s.b (CAN_CTRL_FDEN c.val) = true) → (fdf && rtr) = false → data.length ≤ 64 →
    (s.canFilter c.val id.toNat xtd = none → ∃ u, exec (.canFrameReceived c id xtd rtr esi fdf brs dlc data) s = .next u ∧
      u.r (CAN_RXNEW_NEW c.val) = s.r (CAN_RXNEW_NEW c.val) ∧ u.r (CAN_STS_RXOVF c.val) = s.r (CAN_STS_RXOVF c.val) ∧
      s.keepsMem u) ∧
    (∀ n, s.canFilter c.val id.toNat xtd = some n →
      (∀ k, k < 24 → bit (s.r (CAN_BUFCFG_TX c.val)) k = false → bit (s.r (CAN_RXNEW_NEW c.val)) k = false →
        (∀ j, j < k → bit (s.r (CAN_BUFCFG_TX c.val)) j = true ∨ bit (s.r (CAN_RXNEW_NEW c.val)) j = true) →
        ∃ u, exec (.canFrameReceived c id xtd rtr esi fdf brs dlc data) s = .next u ∧
          bit (u.r (CAN_RXNEW_NEW c.val)) k = true ∧ (∀ j, j < 24 → j ≠ k → bit (u.r (CAN_RXNEW_NEW c.val)) j = bit (s.r (CAN_RXNEW_NEW c.val)) j) ∧
          u.readLE (canBuf c.val k) 4 = id.toNat + (if xtd then 2 ^ 29 else 0) + (if rtr then 2 ^ 30 else 0) + (if esi then 2 ^ 31 else 0) ∧
          u.readLE (canBuf c.val k + 4) 4 = dlc.toNat + (if fdf then 16 else 0) + (if brs then 32 else 0) + 256 * n +
            65536 * (s.r HOI_TICKCNT_TICKCNT % 65536) ∧
          (rtr = false → ∀ j, j < dlcBytes dlc.toNat fdf → j < data.length → u.byte (canBuf c.val k + 8 + j) = data.getD j 0) ∧
          ∀ a, a < canBuf c.val k ∨ canBuf c.val k + 72 ≤ a → u.byte a = s.byte a) ∧
      ((∀ j, j < 24 → bit (s.r (CAN_BUFCFG_TX c.val)) j = true ∨ bit (s.r (CAN_RXNEW_NEW c.val)) j = true) →
        ∃ u, exec (.canFrameReceived c id xtd rtr esi fdf brs dlc data) s = .next u ∧ u.r (CAN_STS_RXOVF c.val) = 1 ∧
          u.r (CAN_RXNEW_NEW c.val) = s.r (CAN_RXNEW_NEW c.val) ∧ s.keepsMem u))) ∧
  (∀ dom, s.canOnBus c.val = true →
    (∃ u, exec (.canBusError c true dom) s = .next u ∧ u.r (CAN_STS_TEC c.val) = min 255 (s.r (CAN_STS_TEC c.val) + 8) ∧
      (256 ≤ s.r (CAN_STS_TEC c.val) + 8 → u.r (CAN_STS_STATE c.val) = 2 ∧ u.raised Fid.canBusOff ∧ (u.can c.val).sending = none) ∧
      s.keepsMem u) ∧
    (∃ u, exec (.canBusError c false dom) s = .next u ∧ (u.can c.val).recv = min 255 ((s.can c.val).recv + if dom then 8 else 1) ∧
      u.r (CAN_STS_REC c.val) = min 127 (u.can c.val).recv ∧ s.keepsMem u)) ∧
  (s.canLive = true → s.b (CAN_CTRL_EN c.val) = true → s.r (CAN_STS_STATE c.val) = 2 → s.b (CAN_CTRL_AUTOREC c.val) = true →
    ∃ u, exec (.busOffRecovery c) s = .next u ∧ u.r (CAN_STS_STATE c.val) = 0 ∧ u.r (CAN_STS_TEC c.val) = 0 ∧
      u.r (CAN_STS_REC c.val) = 0 ∧ (u.can c.val).recv = 0 ∧ s.keepsMem u)

/-! Halyard (chapter 13). -/

/-- Links (R283, R284), losses (R293, R294, R303). -/
def Obligations.LinksTrainMeasureAndFall : Prop :=
  ∀ (s : State) (n : Fin 2), s.hlyLive = true →
  (∀ sig comma groups, s.r (HLY_PORT_LSTATE n.val) = 0 → bit (s.r HLY_CTRL_PORTEN) n.val = true →
    s.hasFault Fid.spllUnlock = false → 20000 ≤ sig → ∃ u, exec (.linkTrain ⟨n, sig, comma, groups⟩) s = .next u ∧ u.r (HLY_PORT_LSTATE n.val) = 1 ∧ (u.port n.val).exchanges = 0 ∧
      (u.port n.val).delaySum = 0 ∧ bit (u.r HLY_IRQ_EVT) 0 = true ∧
      s.keepsRegs u [HLY_PORT_LSTATE n.val, HLY_IRQ_EVT, HLY_PORT_LOOP 0, HLY_PORT_LOOP 1] ∧ s.keepsMem u) ∧
  (s.r (HLY_PORT_LSTATE n.val) = 1 →
    (∀ sent ret (turn : Turnaround), (s.port n.val).exchanges < 16 → ∃ u, exec (.delayFrame n sent ret turn) s = .next u ∧
      (u.port n.val).exchanges = (s.port n.val).exchanges + 1 ∧
      (u.port n.val).delaySum = (s.port n.val).delaySum + ((ret : Int) - sent - turn.peer) ∧
      (u.port n.val).delayOut = some ((s.port n.val).exchanges, turn.own) ∧
      ((s.port n.val).exchanges = 15 → u.r (HLY_PORT_LDLY n.val) = bitsOf 13 (roundDiv (u.port n.val).delaySum 32)) ∧
      s.keepsRegs u [HLY_PORT_LDLY n.val] ∧ s.keepsMem u) ∧
    (∀ sig groups, (s.port n.val).exchanges = 16 → 1024 ≤ groups → ∃ u, exec (.linkUp ⟨n, sig, true, groups⟩) s = .next u ∧ u.r (HLY_PORT_LSTATE n.val) = 2 ∧
      600 ≤ u.r (HLY_PORT_RES n.val) ∧ u.r (HLY_PORT_RES n.val) ≤ 1000 ∧
      (∀ m, m < 2 → u.b (HLY_PORT_LOOP m) = (s.b (HLY_PORT_LOOP m) && u.portUp m && !u.portUp (1 - m))) ∧ s.keepsMem u) ∧
    ((s.port n.val).trainAt + 2000000 ≤ s.nowU → ∃ u, exec (.trainTimeout n) s = .next u ∧ u.r (HLY_PORT_LSTATE n.val) = 0 ∧
      s.keepsRegs u [HLY_PORT_LSTATE n.val, HLY_IRQ_EVT, HLY_PORT_LOOP 0, HLY_PORT_LOOP 1] ∧ s.keepsMem u)) ∧
  (∀ c, s.r (HLY_PORT_LSTATE n.val) = 2 → bit (s.r HLY_CTRL_PORTEN) n.val = true →
    (c = .lockLost ∨ (∃ d, c = .noSignal d ∧ 200 ≤ d) ∨
      ∃ a, c = .codeErrors (List.replicate (max 1 (s.r HLY_CFG_ERRN)) a)) → ∃ u, exec (.linkDown ⟨n, c⟩) s = .next u ∧
    u.r (HLY_PORT_LSTATE n.val) = 0 ∧ u.raised Fid.hlyLinkDown ∧ s.keepsMem u) ∧
  (s.r HLY_STS_RSTATE = 2 → max 1 (s.r HLY_CFG_MISSN) ≤ s.hly.missed → ∃ u, exec .memberLost s = .next u ∧
    u.r HLY_STS_RSTATE = 1 ∧ u.hly.recvOn = [] ∧ u.hly.held = [] ∧ u.raised Fid.hlyIsolated ∧ s.keepsMem u) ∧
  (max 1 (s.r HLY_CFG_RLATEN) ≤ s.hly.late → ∃ u, exec .roundLate s = .next u ∧ u.raised Fid.hlyRoundLate ∧ s.keepsMem u) ∧
  ((∃ p ∈ s.hly.producers, max 1 (s.r HLY_SAFE_SWD) ≤ p.age) → s.param 0x314 1 ≠ 2 → ∃ u, exec .safetyTimeout s = .next u ∧
    u.r HLY_STS_SAFETO = 1 ∧ bit (u.r HLY_IRQ_EVT) 7 = true ∧ u.raised Fid.hlySafetyTimeout ∧ s.keepsMem u)

/-- Forwarding (R290): it changes nothing else. -/
def Obligations.AForwardedFrameChangesOnlyItsOwnFields : Prop :=
  ∀ (s : State) (port : Nat) (f : List Byte) (looped mine : Bool), 36 ≤ f.length →
    let g := s.forwardFrame port f looped mine
    g.length = f.length ∧
    leAt g 8 4 = (leAt f 8 4 + s.r (HLY_PORT_LDLY port) + s.r (HLY_PORT_RES port)) % 2 ^ 32 ∧
    leAt g 12 2 = (leAt f 12 2 + 1) % 65536 ∧
    leAt g (f.length - 4) 4 = crc32 (g.take (f.length - 4)) % 2 ^ 32 ∧
    g.getD 1 0 = (if looped then f.getD 1 0 ||| 2 else f.getD 1 0) ∧
    ∀ i, i < f.length - 4 → i ≠ 1 → (i < 8 ∨ 14 ≤ i) → (i < 24 ∨ 28 ≤ i) →
      (mine = true → ∀ t o e, s.hly.table = some t → t.area (s.r HLY_NODE_ADDR) = some (o, e) → i < o ∨ o + e.size ≤ i) →
      g.getD i 0 = f.getD i 0

/-- Cycle frames (R289 to R294), events (R297). -/
def Obligations.CycleFramesAreTakenOrForwardedBad : Prop :=
  ∀ (s : State) (t sof : Nat) (n : Fin 2) (f : List Byte) (eof codeErr : Bool), s.hlyLive = true →
  (s.portUp n.val = true → f.length ≤ 131072 →
    let out := if s.portUp (1 - n.val) then 1 - n.val else n.val
    let foreign := decide (leAt f 2 2 ≠ s.r HLY_NODE_INST)
    (∀ tab, s.r HLY_STS_RSTATE = 1 ∨ s.r HLY_STS_RSTATE = 2 → frameGood f eof codeErr = true → foreign = false → leAt f 12 2 ≤ 8190 →
      s.hly.pending = none → s.hly.table = some tab → tab.carried f = true →
      s.hly.firstCopy (leAt f 4 4) = true → s.r HLY_NODE_ADDR ≠ 0 →
      (∀ e ∈ tab.entries, e.evn = 0 ∧ e.safe = false) → (leAt f 0x18 4).testBit 12 = false →
      ∃ u, exec (.cycleFrame t n sof f eof codeErr false) s = .next u ∧ u.r HLY_STS_RSTATE = 2 ∧ u.hly.got = true ∧
        u.hly.missed = 0 ∧ u.hly.cycle = leAt f 4 4 ∧ u.hly.imgReady = true ∧
        u.r HLY_PATH_PATH = (leAt f 8 4 + s.r (HLY_PORT_LDLY n.val)) % 2 ^ 23 ∧ u.r HLY_PATH_VALID = 1 ∧
        (u.port out).lastGood = true ∧ (u.port out).lastOut.length = f.length ∧
        let base := s.r HLY_RXBUF_BASE / 16 * 16 + (if s.hly.imgUpper then 0 else 0x20000)
        (s.backShown = false → (∀ i, i < f.length → u.byte (base + i) = f.getD i 0) ∧
          ∀ a, a < base ∨ base + f.length ≤ a → u.byte a = s.byte a) ∧
        (s.backShown = true → u.hly.rxWait = s.hly.rxWait ++ [(base, f)] ∧ s.keepsMem u)) ∧
    (∀ ovf, s.r HLY_STS_RSTATE = 1 ∨ s.r HLY_STS_RSTATE = 2 → frameGood f eof codeErr = false → leAt f 12 2 ≤ 8190 →
      ∃ u, exec (.cycleFrame t n sof f eof codeErr ovf) s = .next u ∧
        u.r HLY_CNT_CRCERR = (if s.r HLY_CNT_CRCERR < 255 then s.r HLY_CNT_CRCERR + 1 else s.r HLY_CNT_CRCERR) ∧ u.hly.taken = s.hly.taken ∧ u.hly.got = s.hly.got ∧
        (u.port out).lastGood = false ∧
        (u.port out).lastOut = s.forwardFrame n.val f (!s.portUp (1 - n.val))
          (s.writesCopy f) ∧
        u.b (HLY_PORT_LOOP n.val) = !s.portUp (1 - n.val) ∧
        s.keepsRegs u [HLY_CNT_CRCERR, CPM_XSTALE_STALE, HLY_PORT_LOOP n.val] ∧ s.keepsMem u) ∧
    (∀ ovf, s.r HLY_STS_RSTATE = 1 ∨ s.r HLY_STS_RSTATE = 2 → frameGood f eof codeErr = true → foreign = true →
      ∃ u, exec (.cycleFrame t n sof f eof codeErr ovf) s = .next u ∧ u.r HLY_STS_CONFLICT = 1 ∧ u.r HLY_STS_RSTATE = 1 ∧
        u.raised Fid.hlyConflict ∧ u.hly.port0 = s.hly.port0 ∧ u.hly.port1 = s.hly.port1 ∧ u.hly.taken = s.hly.taken ∧
        s.keepsMem u) ∧
    (∀ tab, s.r HLY_STS_RSTATE = 1 → s.r HLY_NODE_ADDR = 0 → frameGood f eof codeErr = true → foreign = false →
      leAt f 12 2 ≤ 8190 → s.hly.pending = none → s.hly.table = some tab → tab.carried f = true →
      ∃ u, exec (.cycleFrame t n sof f eof codeErr false) s = .next u ∧ u.r HLY_STS_RSTATE = 1 ∧ u.r HLY_STS_CFGERR = 1 ∧ s.keepsMem u) ∧
    (s.r HLY_STS_RSTATE = 3 → foreign = false → leAt f 12 2 ≤ 8190 → s.hly.cycle = leAt f 4 4 → s.hly.cycle < 2 ^ 32 → (leAt f 0x18 4).testBit 12 = false →
      (∀ tab, (s.at t).nowU + 2000 ≤ s.hoi.cycleAt + s.ringU → frameGood f eof codeErr = true → s.hly.table = some tab →
        tab.carried f = true → ∃ u, exec (.returningCopy t n f eof codeErr) s = .next u ∧ u.hly.got = true ∧ u.hly.imgReady = true ∧
          let base := s.r HLY_RXBUF_BASE / 16 * 16 + (if s.hly.imgUpper then 0 else 0x20000)
          (s.hly.got = false → s.backShown = false → ∀ i, i < f.length → u.byte (base + i) = f.getD i 0) ∧
          (∀ a, a < base ∨ base + f.length ≤ a → u.byte a = s.byte a) ∧ (s.backShown = true → s.keepsMem u)) ∧
      (s.hoi.cycleAt + s.ringU < (s.at t).nowU + 2000 → frameGood f eof codeErr = true →
        ∃ u, exec (.returningCopy t n f eof codeErr) s = .next u ∧ u.r HLY_STS_RETLATE = 1 ∧ bit (u.r HLY_IRQ_EVT) 6 = true ∧
          u.hly.late = s.hly.late + 1 ∧ u.hly.taken = s.hly.taken ∧ u.hly.got = s.hly.got ∧
          ((∀ tab, s.hly.table = some tab → ∀ e ∈ tab.entries, e.evn = 0) →
            s.keepsRegs u [HLY_STS_RETLATE, HLY_IRQ_EVT, HLY_OWNSTS_RT, CPM_XSTALE_STALE]) ∧ s.keepsMem u))) ∧
  ((∀ e ∈ s.hly.held, (s.at t).nowU < e.inst) → exec (.eventApply t) s = .next (s.after (s.at t))) ∧
  ((∀ e ∈ s.hly.held, ∀ k, k < 256 → s.r (epFld (e.ep + k) 0) % 4 = 0) → ∃ u, exec (.eventApply t) s = .next u ∧
    u.hly.held = s.hly.held.filter (fun e => decide ((s.at t).nowU < e.inst)) ∧ s.keepsRegs u [] ∧ s.keepsMem u)

/-- Acyclic frames (R298 to R301). -/
def Obligations.AcyclicHopsBufferAcknowledgeAndGiveUp : Prop :=
  ∀ (s : State) (t : Nat) (n : Fin 2), s.hlyLive = true → s.portUp n.val = true →
  (∀ (x : AcyclicFrame) (crc : BitVec 32), x.payload.length ≤ 256 → x.hops.toNat ≤ 8190 →
    let f : AcFrame := ⟨x.resp, x.lseq.toNat, x.dst.toNat, x.bcast, x.src.toNat, x.tid.toNat, x.code.toNat, x.hops.toNat,
      x.addr.toNat, x.payload⟩
    let own := decide (f.dst = s.r HLY_NODE_ADDR ∧ f.bcast = false)
    let ok := f.crc == crc.toNat
    ∃ u, exec (.acyclicFrame t n x crc) s = .next u ∧
      (ok = false → u.r HLY_CNT_CRCERR = (if s.r HLY_CNT_CRCERR < 255 then s.r HLY_CNT_CRCERR + 1 else s.r HLY_CNT_CRCERR) ∧ u.hly = s.hly ∧ s.keepsRegs u [HLY_CNT_CRCERR]) ∧
      (ok = true → (s.port n.val).rxSeq = some f.lseq → (u.port n.val).lastCtl = some (true, f.lseq) ∧
        (u.port n.val).out = (s.port n.val).out ∧ u.hly.requests = s.hly.requests ∧ u.hly.trans = s.hly.trans ∧ s.keepsRegs u [CPM_XSTALE_STALE]) ∧
      (ok = true → (s.port n.val).rxSeq ≠ some f.lseq → 4 ≤ s.buffered n.val f.resp →
        (u.port n.val).lastCtl = some (false, f.lseq) ∧ (u.port n.val).rxSeq = (s.port n.val).rxSeq ∧
          (u.port n.val).out = (s.port n.val).out ∧ u.hly.requests = s.hly.requests ∧ u.hly.trans = s.hly.trans ∧ s.keepsRegs u [CPM_XSTALE_STALE]) ∧
      (ok = true → (s.port n.val).rxSeq ≠ some f.lseq → s.buffered n.val f.resp < 4 → own = false →
        ((u.port n.val).lastCtl = some (true, f.lseq) ∧ (u.port n.val).rxSeq = some f.lseq ∧
          ({ frame := { f with hops := f.hops + 1 }, origin := n.val } : HeldFrame) ∈ (u.port (s.onward n.val)).out) ∧
        s.keepsRegs u [CPM_XSTALE_STALE]) ∧
      (ok = true → (s.port n.val).rxSeq ≠ some f.lseq → s.buffered n.val f.resp < 4 → own = true →
        (u.port n.val).lastCtl = some (true, f.lseq) ∧ (u.port n.val).rxSeq = some f.lseq ∧
        (f.resp = false → s.hly.requests.length < 16 → u.hly.requests = s.hly.requests ++ [f]) ∧
        (f.resp = false → 16 ≤ s.hly.requests.length → u.hly.requests = s.hly.requests) ∧
        (f.resp = true → (∀ tr ∈ s.hly.trans, tr.tid ≠ f.tid) → u.r HLY_CNT_LATE = (if s.r HLY_CNT_LATE < 255 then s.r HLY_CNT_LATE + 1 else s.r HLY_CNT_LATE))) ∧
      ((∀ m r, m < 2 → s.buffered m r ≤ 4) → ∀ m r, m < 2 → u.buffered m r ≤ 4) ∧ s.keepsMem u) ∧
  (∀ h, s.sendable n.val = some h → (s.at t).gapFits n.val h.frame.payload.length = true → ∃ u, exec (.acyclicSend t n) s = .next u ∧
    (u.port n.val).txSeq = ((s.port n.val).txSeq + 1) % 256 ∧
    (u.port n.val).out = { h with sent := true, sentAt := (s.at t).nowU, frame := { h.frame with lseq := (s.port n.val).txSeq } } :: (s.port n.val).out.erase h ∧
    u.hly.originated = s.hly.originated + (if h.origin = 2 then 1 else 0) ∧ s.keepsRegs u [] ∧ s.keepsMem u) ∧
  (∀ seq : BitVec 8, ∃ u, exec (.ack n seq) s = .next u ∧
    (∀ h, h ∈ (u.port n.val).out ↔ h ∈ (s.port n.val).out ∧ ¬(h.sent = true ∧ h.frame.lseq = seq.toNat)) ∧
    s.keepsRegs u [] ∧ s.keepsMem u) ∧
  (∀ (seq : BitVec 8) (h : HeldFrame), h ∈ (s.port n.val).out → h.sent = true → h.frame.lseq = seq.toNat →
    ∃ u, exec (.nak n seq) s = .next u ∧ u.hly = s.hly ∧ u.r HLY_CNT_NAKCNT = (if s.r HLY_CNT_NAKCNT < 255 then s.r HLY_CNT_NAKCNT + 1 else s.r HLY_CNT_NAKCNT) ∧
      s.keepsRegs u [HLY_CNT_NAKCNT] ∧ s.keepsMem u) ∧
  (∀ (seq : BitVec 8) (h : HeldFrame), (s.port n.val).out = [h] → h.sent = true → h.frame.lseq = seq.toNat →
    h.sentAt + 200 * max 1 (s.r HLY_ACFG_ACKTO) ≤ (s.at t).nowU →
    let retries := if s.b HLY_STS_RETRYCFG then 0 else s.r HLY_ACFG_HRETRY
    (h.tries < retries → (s.at t).gapFits n.val h.frame.payload.length = true → ∃ u, exec (.ackTimeout t n seq) s = .next u ∧ (u.port n.val).out = [{ h with tries := h.tries + 1, sentAt := (s.at t).nowU }] ∧
      s.keepsRegs u [] ∧ s.keepsMem u) ∧
    (retries ≤ h.tries → h.frame.resp = true → ∃ u, exec (.ackTimeout t n seq) s = .next u ∧ (u.port n.val).out = [] ∧
      u.port (1 - n.val) = s.port (1 - n.val) ∧ s.keepsRegs u [] ∧ s.keepsMem u) ∧
    (retries ≤ h.tries → h.frame.resp = false → h.frame.src ≠ s.r HLY_NODE_ADDR → ∃ u, exec (.ackTimeout t n seq) s = .next u ∧
      h ∉ (u.port n.val).out ∧ (∃ r ∈ (u.port (s.routePort h.frame.src)).out, r.frame.resp = true ∧ r.frame.dst = h.frame.src ∧
        r.frame.tid = h.frame.tid ∧ r.frame.code = 2) ∧ s.keepsRegs u [] ∧ s.keepsMem u)) ∧
  (∀ (tid : BitVec 8) (tr : Transaction), s.hly.trans = [tr] → tr.tid = tid.toNat → tr.done = none →
    tr.issued + 200000 * max 1 (s.r HLY_ACFG_TXTO) ≤ (s.at t).nowU →
    ∃ u, exec (.transactionTimeout t tid) s = .next u ∧
      u.hly.trans = [{ tr with done := some (statusTimeout, (s.at t).nowU, []) }] ∧ u.r HLY_ACQ_OUTST = 0 ∧
      s.keepsRegs u [HLY_ACQ_OUTST] ∧ s.keepsMem u)

/-! The Parart instruction set (chapter 15). -/

/-- The integer group (R333). -/
def Obligations.IntegerInstructionsWriteTheirResults : Prop :=
  (∀ (c : Core) (n : Nat) (v : Word), n < 32 → (n = 0 → c.setG n v = c) ∧ c.gr 0 = 0 ∧
    (n ≠ 0 → ∀ k, (c.setG n v).gr k = if k = n then v else c.gr k)) ∧
  ∀ (s : State) (m : Bool) (rd ra rb : Fin 32) (imm : BitVec 16) (sh : BitVec 5), s.fetches m →
    let z := s.fetched m
    let c := z.core m
    let a := c.gr ra.val
    let b := c.gr rb.val
    let writes (i : Instr) (v : Word) := ∃ u, exec i s = .next u ∧ z.ran u m { c.setG rd.val v with pc := c.pc + 4 } ∧ s.keepsMem u
    let nat (x : Nat) : Word := BitVec.ofNat 32 x
    let int (x : Int) : Word := BitVec.ofInt 32 x
    let flag (x : Bool) : Word := if x then 1 else 0
    writes (.paAdd m rd ra rb) (nat (a.toNat + b.toNat)) ∧
    writes (.paSub m rd ra rb) (nat (a.toNat + 2 ^ 32 - b.toNat)) ∧
    writes (.paAnd m rd ra rb) (nat (a.toNat &&& b.toNat)) ∧
    writes (.paOr m rd ra rb) (nat (a.toNat ||| b.toNat)) ∧
    writes (.paXor m rd ra rb) (nat (a.toNat ^^^ b.toNat)) ∧
    writes (.paSll m rd ra rb) (nat (a.toNat * 2 ^ (b.toNat % 32))) ∧
    writes (.paSrl m rd ra rb) (nat (a.toNat / 2 ^ (b.toNat % 32))) ∧
    writes (.paSra m rd ra rb) (int (a.toInt / 2 ^ (b.toNat % 32))) ∧
    writes (.paSlt m rd ra rb) (flag (decide (a.toInt < b.toInt))) ∧
    writes (.paSltu m rd ra rb) (flag (decide (a.toNat < b.toNat))) ∧
    writes (.paMin m rd ra rb) (int (min a.toInt b.toInt)) ∧
    writes (.paMax m rd ra rb) (int (max a.toInt b.toInt)) ∧
    writes (.paMinu m rd ra rb) (nat (min a.toNat b.toNat)) ∧
    writes (.paMaxu m rd ra rb) (nat (max a.toNat b.toNat)) ∧
    writes (.paAdds m rd ra rb) (int (clampI (a.toInt + b.toInt) (-2147483648) 2147483647)) ∧
    writes (.paSubs m rd ra rb) (int (clampI (a.toInt - b.toInt) (-2147483648) 2147483647)) ∧
    writes (.paAddi m rd ra imm) (int (a.toInt + imm.toInt)) ∧
    writes (.paAndi m rd ra imm) (nat (a.toNat &&& imm.toNat)) ∧
    writes (.paOri m rd ra imm) (nat (a.toNat ||| imm.toNat)) ∧
    writes (.paXori m rd ra imm) (nat (a.toNat ^^^ imm.toNat)) ∧
    writes (.paSlti m rd ra imm) (flag (decide (a.toInt < imm.toInt))) ∧
    writes (.paSltiu m rd ra imm) (flag (decide (a.toNat < (imm.signExtend 32).toNat))) ∧
    writes (.paLui m rd imm) (nat (imm.toNat * 65536)) ∧
    writes (.paSlli m rd ra sh) (nat (a.toNat * 2 ^ sh.toNat)) ∧
    writes (.paSrli m rd ra sh) (nat (a.toNat / 2 ^ sh.toNat)) ∧
    writes (.paSrai m rd ra sh) (int (a.toInt / 2 ^ sh.toNat)) ∧
    writes (.paMul m rd ra rb) (nat (a.toNat * b.toNat)) ∧
    writes (.paMulh m rd ra rb) (int (a.toInt * b.toInt / 2 ^ 32)) ∧
    writes (.paMulhu m rd ra rb) (nat (a.toNat * b.toNat / 2 ^ 32)) ∧
    writes (.paDiv m rd ra rb) (if b = 0 then 0xFFFFFFFF else int (a.toInt.tdiv b.toInt)) ∧
    writes (.paDivu m rd ra rb) (if b = 0 then 0xFFFFFFFF else nat (a.toNat / b.toNat)) ∧
    writes (.paRem m rd ra rb) (if b = 0 then a else int (a.toInt - b.toInt * a.toInt.tdiv b.toInt)) ∧
    writes (.paRemu m rd ra rb) (if b = 0 then a else nat (a.toNat % b.toNat))

/-- Loads and stores (R334, R350), branches and jumps (R337). -/
def Obligations.LoadsStoresAndBranches : Prop :=
  ∀ (s : State) (m : Bool) (rd ra rb : Fin 32) (imm : BitVec 16) (off : BitVec 26), s.fetches m →
    let z := s.fetched m
    let c := z.core m
    let a := (c.gr ra.val).toNat
    let b := (c.gr rb.val).toNat
    let ai := (c.gr ra.val).toInt
    let bi := (c.gr rb.val).toInt
    let ea := (c.gr ra.val + imm.signExtend 32).toNat
    let p := s.redirect m ea
    let d := (z.seesWord m p).core m
    let runs (i : Instr) (c' : Core) := ∃ u, exec i s = .next u ∧ z.ran u m c' ∧ s.keepsMem u
    let next (x : Core) : Core := { x with pc := c.pc + 4 }
    let goto (x : Core) (pc : Word) : Core := { x with pc := pc }
    let target := c.pc + BitVec.ofInt 32 (4 * imm.toInt)
    (∀ n, n = 1 ∨ n = 2 ∨ n = 4 → ea % n = 0 → s.waits ea = false → isSram p = true → s.secded p = none →
      (c.denied .load ea n = none → s.cores.inReplay = false →
        (n = 1 → runs (.paLb m rd ra imm) (next (d.setG rd.val (BitVec.ofInt 32 (signedOf 8 (s.readLE p 1))))) ∧
          runs (.paLbu m rd ra imm) (next (d.setG rd.val (BitVec.ofNat 32 (s.readLE p 1))))) ∧
        (n = 2 → runs (.paLh m rd ra imm) (next (d.setG rd.val (BitVec.ofInt 32 (signedOf 16 (s.readLE p 2))))) ∧
          runs (.paLhu m rd ra imm) (next (d.setG rd.val (BitVec.ofNat 32 (s.readLE p 2))))) ∧
        (n = 4 → runs (.paLw m rd ra imm) (next (d.setG rd.val (BitVec.ofNat 32 (s.readLE p 4)))) ∧
          runs (.paFlw m rd ra imm) (next (d.setF rd.val (BitVec.ofNat 32 (s.readLE p 4)))))) ∧
      (c.denied .store ea n = none →
        let stores (i : Instr) (v : Word) := ∃ u, exec i s = .next u ∧
          z.ran u m (next (if n < 4 ∧ (m = true ∨ p ≠ ea) then d else c)) ∧
          ((m = true ∨ p ≠ ea) → u.readLE p n = v.toNat % 2 ^ (8 * n) ∧
            ∀ x, x < p ∨ p + n ≤ x → u.byte x = s.byte x) ∧
          (m = false → p = ea → s.keepsMem u)
        (isSram ea = true → (n = 1 → stores (.paSb m rb ra imm) (c.gr rb.val)) ∧ (n = 2 → stores (.paSh m rb ra imm) (c.gr rb.val)) ∧
          (n = 4 → stores (.paSw m rb ra imm) (c.gr rb.val) ∧ stores (.paFsw m rb ra imm) (c.fr rb.val))))) ∧
    runs (.paBeq m ra rb imm) (goto c (if a = b then target else c.pc + 4)) ∧
    runs (.paBne m ra rb imm) (goto c (if a ≠ b then target else c.pc + 4)) ∧
    runs (.paBlt m ra rb imm) (goto c (if ai < bi then target else c.pc + 4)) ∧
    runs (.paBge m ra rb imm) (goto c (if bi ≤ ai then target else c.pc + 4)) ∧
    runs (.paBltu m ra rb imm) (goto c (if a < b then target else c.pc + 4)) ∧
    runs (.paBgeu m ra rb imm) (goto c (if b ≤ a then target else c.pc + 4)) ∧
    runs (.paJal m off) (goto (c.setG 31 (c.pc + 4)) (c.pc + BitVec.ofInt 32 (4 * off.toInt))) ∧
    (ea % 4 = 0 → runs (.paJalr m rd ra imm) (goto (c.setG rd.val (c.pc + 4)) (BitVec.ofNat 32 ea))) ∧
    (ea % 4 ≠ 0 → ∃ u, exec (.paJalr m rd ra imm) s = .next u ∧ z.raises u m 3 c.pc (BitVec.ofNat 32 ea) false)

/-- The floating-point group (R341, R342). -/
def Obligations.FloatingPointInstructionsWriteOrTrap : Prop :=
  ∀ (s : State) (m : Bool) (fd fa fb fc : Fin 32) (rm : Fin 4) (t minus : Bool), s.fetches m →
    let z := s.fetched m
    let c := z.core m
    let wa := (c.fr fa.val).toNat
    let wb := (c.fr fb.val).toNat
    let x := F32.ofBits wa
    let y := F32.ofBits wb
    let y' := F32.ofBits (c.fr fc.val).toNat
    let runs (i : Instr) (c' : Core) := ∃ u, exec i s = .next u ∧ z.ran u m { c' with pc := c.pc + 4 } ∧ s.keepsMem u
    let fin (i : Instr) (r : FRes) (put : Word → Core) :=
      (t = false ∨ r.flags = 0 → runs i (put (BitVec.ofNat 32 r.bits))) ∧
      (t = true → r.flags ≠ 0 → ∃ u, exec i s = .next u ∧ z.raises u m 0xC c.pc (BitVec.ofNat 32 r.flags) false)
    let toF (v : Word) : Core := c.setF fd.val v
    let toG (v : Word) : Core := c.setG fd.val v
    fin (.paFadd m fd fa fb rm t) (f32Add rm.val x y) toF ∧
    fin (.paFsub m fd fa fb rm t) (f32Add rm.val x y.neg) toF ∧
    fin (.paFmul m fd fa fb rm t) (f32Mul rm.val x y) toF ∧
    fin (.paFdiv m fd fa fb rm t) (f32Div rm.val x y) toF ∧
    fin (.paFsqrt m fd fa rm t) (f32Sqrt rm.val x) toF ∧
    fin (.paFma m fd fa fb fc rm t minus) (f32Fma rm.val minus x y y') toF ∧
    fin (.paFcvtws m fd fa rm t) (f32ToInt rm.val x) toG ∧
    fin (.paFcvtsw m fd fa rm t) (f32OfInt rm.val (c.gr fa.val).toInt) toF ∧
    (x.isNan = false → y.isNan = false → x.isZero = false ∨ y.isZero = false →
      runs (.paFmin m fd fa fb) (toF (if x.lt y then c.fr fa.val else c.fr fb.val)) ∧
      runs (.paFmax m fd fa fb) (toF (if y.lt x then c.fr fa.val else c.fr fb.val))) ∧
    (x.isNan = true → runs (.paFmin m fd fa fb) (toF (if y.isNan then 0x7FC00000 else c.fr fb.val)) ∧
      runs (.paFmax m fd fa fb) (toF (if y.isNan then 0x7FC00000 else c.fr fb.val))) ∧
    (x.isNan = false → y.isNan = true → runs (.paFmin m fd fa fb) (toF (c.fr fa.val)) ∧ runs (.paFmax m fd fa fb) (toF (c.fr fa.val))) ∧
    runs (.paFneg m fd fa) (toF (if x.isNan then 0x7FC00000 else BitVec.ofNat 32 wa ^^^ 0x80000000)) ∧
    runs (.paFabs m fd fa) (toF (if x.isNan then 0x7FC00000 else BitVec.ofNat 32 wa &&& 0x7FFFFFFF)) ∧
    runs (.paFeq m fd fa fb) (toG (if x.eqv y then 1 else 0)) ∧
    runs (.paFlt m fd fa fb) (toG (if x.lt y then 1 else 0)) ∧
    runs (.paFle m fd fa fb) (toG (if x.lt y || x.eqv y then 1 else 0)) ∧
    (x.isNan = true ∨ y.isNan = true → x.eqv y = false ∧ x.lt y = false) ∧
    runs (.paFmvxw m fd fa) (toG (c.fr fa.val)) ∧
    runs (.paFmvwx m fd fa) (toF (c.gr fa.val))

/-- Rounding leaves what binary32 holds (R341, R342). -/
def Obligations.RoundingAnExactValueGivesItsWord : Prop :=
  ∀ (w : Nat) (rm : Fin 4) (n : Bool) (k : Nat) (e : Int), w < 2 ^ 32 → F32.ofBits w = .fin n k e →
    f32Round rm.val n k 1 e = (w, false)

/-! The cores: system instructions, traps, CMP, the frame entry (chapters 14 to 16). -/

/-- The system instructions (R338 to R340). -/
def Obligations.SystemInstructionsFollowTheirModes : Prop :=
  (∀ (c : Core) (n : Nat) (v p : Word),
    (n = 3 ∨ n = 4 ∨ n = 9 → c.putSr true n v = c) ∧
    (n = 2 ∨ n = 8 ∨ (0xC ≤ n ∧ n ≤ 0xF) → (c.putSr true n v).getSr p n = v) ∧
    (n = 5 → (c.putSr true n v).getSr p n = v &&& 0xFFFFFC00) ∧
    (c.mode = .s → (c.putSr false n v).mode = .s ∧ c.ret.mode ≠ .k ∧ c.ret.ipl ≠ 0 ∧
      (n = 0 → (c.putSr false n v).ipl ≠ 0) ∧
      (n = 1 → (c.putSr false n v).tstatus.toNat % 4 ≠ 0 ∧ (c.putSr false n v).tstatus.toNat / 16 % 16 ≠ 0))) ∧
  ∀ (s : State) (m : Bool), s.fetches m →
    let z := s.fetched m
    let c := z.core m
    let runs (i : Instr) (c' : Core) := ∃ u, exec i s = .next u ∧ z.ran u m c' ∧ s.keepsMem u
    let fails (i : Instr) (code : Nat) (resume tval : Word) := ∃ u, exec i s = .next u ∧ z.raises u m code resume tval false ∧
      (c.inTrap = false → s.keepsRegs u [])
    let next (x : Core) : Core := { x with pc := c.pc + 4 }
    fails (.paKcall m) 0xA (c.pc + 4) (c.gr 4) ∧
    fails (.illegalInstruction m) 0x1 c.pc c.tval ∧
    (s.dbgOpen = false → fails (.paBrk m) 0xB c.pc c.pc) ∧
    (s.dbgOpen = true → m = true → s.r DBG_STS_STATE = 1 → ∃ u, exec (.paBrk m) s = .next u ∧
      u.r DBG_STS_STATE = (if s.cores.main.retired = s.cores.chk.retired then 3 else 2) ∧ (u.core m).pc = c.pc ∧
      s.keepsRegs u [DBG_STS_STATE] ∧ s.keepsMem u) ∧
    runs (.paFence m) (next c) ∧
    (c.mode ≠ .k → fails (.paWait m) 0x2 c.pc c.tval) ∧
    (c.mode = .k → ∃ u, exec (.paWait m) s = .next u ∧ s.keepsMem u ∧ s.keepsRegs u [DBG_STS_STATE] ∧
      u.core m = { c with pc := c.pc + 4, retired := c.retired + 1, waiting := decide (s.pendWord m = 0) }) ∧
    (c.mode = .u → fails (.paTret m) 0x2 c.pc c.tval) ∧
    (c.mode ≠ .u → runs (.paTret m) { c with
      pc := BitVec.ofNat 32 (c.tpc.toNat / 4 * 4)
      status := statusWord (if c.mode = .s ∧ c.tstatus.toNat % 4 = 0 then 1 else c.tstatus.toNat % 4) (c.tstatus.getLsbD 2)
        (c.tstatus.getLsbD 3) (if c.mode = .s ∧ c.tstatus.toNat / 16 % 16 = 0 then 1 else c.tstatus.toNat / 16 % 16) }) ∧
    ∀ (x : Fin 32) (sr : BitVec 11),
      (srValid sr.toNat = false → fails (.paGetsr m x sr) 0x1 c.pc c.tval ∧ fails (.paPutsr m x sr) 0x1 c.pc c.tval) ∧
      (srValid sr.toNat = true → c.mode = .u → fails (.paGetsr m x sr) 0x2 c.pc c.tval ∧ fails (.paPutsr m x sr) 0x2 c.pc c.tval) ∧
      (srValid sr.toNat = true → c.mode ≠ .u →
        (sr.toNat ≠ 4 → runs (.paGetsr m x sr) (next (c.setG x.val (c.getSr (s.pendWord m) sr.toNat)))) ∧
        (sr.toNat = 4 → ∃ u, exec (.paGetsr m x sr) s = .next u ∧ s.keepsMem u ∧
          u.core m = { c.setG x.val c.tval with pc := c.pc + 4, retired := c.retired + 1, waiting := false }) ∧
        runs (.paPutsr m x sr) (next (c.putSr (decide (c.mode = .k)) sr.toNat (c.gr x.val))))

/-- Accesses that raise causes (R313, R316, R346, R348). -/
def Obligations.AccessesRaiseTheirCauses : Prop :=
  ∀ (s : State) (m : Bool) (t : Nat) (rd ra : Fin 32) (imm : BitVec 16), s.issues m = true →
    let c := s.core m
    let pc := c.pc.toNat
    let a := c.gr ra.val + imm.signExtend 32
    let ea := a.toNat
    let z := s.fetched m
    let fails (b : State) (i : Instr) (code : Nat) (tval : Word) (k : Bool) := ∃ u, exec i s = .next u ∧ b.raises u m code c.pc tval k ∧
      (c.inTrap = false → s.keepsRegs u [])
    let fails' (b : State) (i : Instr) (code : Nat) (tval : Word) := ∃ u, exec i s = .next u ∧ b.raises u m code c.pc tval false ∧
      (c.inTrap = false → u.raised Fid.accessError)
    (∀ k, s.waits pc = false → c.denied .fetch pc 4 = some k → fails s (.paFence m) 0x4 c.pc k) ∧
    (s.waits pc = false → c.denied .fetch pc 4 = none → s.answers (s.redirect m pc) = false → fails' s (.paFence m) 0x7 c.pc) ∧
    (s.fetches m → ea % 4 ≠ 0 → fails z (.paLw m rd ra imm) 0x3 a false ∧ fails z (.paSw m rd ra imm) 0x3 a false ∧
      fails z (.paGsw t m rd ra imm) 0x3 a false) ∧
    (∀ k, s.fetches m → ea % 4 = 0 → s.waits ea = false →
      (c.denied .load ea 4 = some k → fails z (.paLw m rd ra imm) 0x5 a k) ∧
      (c.denied .store ea 4 = some k → fails z (.paSw m rd ra imm) 0x6 a k ∧ fails z (.paGsw t m rd ra imm) 0x6 a k)) ∧
    (s.fetches m → ea % 4 = 0 → s.waits ea = false → c.denied .store ea 4 = none →
      (kindOf ea = .window → guardedAt ea = true → fails z (.paSw m rd ra imm) 0xF a false) ∧
      (kindOf ea ≠ .window ∨ guardedAt ea = false → fails z (.paGsw t m rd ra imm) 0xE a false) ∧
      (kindOf ea = .none → m = true → fails' z (.paSw m rd ra imm) 0x9 a)) ∧
    (s.fetches m → ea % 4 = 0 → s.waits ea = false → c.denied .load ea 4 = none → s.cores.inReplay = false →
      s.answers (s.redirect m ea) = false → fails' z (.paLw m rd ra imm) 0x8 a)

/-- R339: what S cannot take by PUTSR. -/
def Obligations.PutsrInSKeepsTheKernelsRights : Prop :=
  (∀ (s : State) (m : Bool) (x : Fin 32) (sr : BitVec 11), s.fetches m → (s.core m).mode = .s → srValid sr.toNat = true →
    let z := s.fetched m
    let c := z.core m
    let v := (c.gr x.val).toNat
    let d := c.putSr false sr.toNat (c.gr x.val)
    let ipl := if v / 16 % 16 = 0 then 1 else v / 16 % 16
    (∃ u, exec (.paPutsr m x sr) s = .next u ∧ z.ran u m { d with pc := c.pc + 4 } ∧ s.keepsMem u) ∧
    (sr = 0 → d.status.toNat % 4 = c.status.toNat % 4 ∧ d.ipl = ipl ∧ d.ie = v.testBit 2 ∧ d.inTrap = v.testBit 3) ∧
    (sr = 1 → d.tstatus.toNat % 4 = (if v % 4 = 0 then 1 else v % 4) ∧ d.tstatus.toNat / 16 % 16 = ipl) ∧
    (sr = 8 → ∀ n, n < 32 → d.ien.getLsbD n = (v.testBit n || c.pri n == 0)) ∧
    (∀ k, k < 4 → sr.toNat = 0xC + k → ∀ i, i < 8 →
      d.pri (8 * k + i) = (if v / 16 ^ i % 16 = 0 then 1 else v / 16 ^ i % 16))) ∧
  ∀ (c : Core) (k : Bool) (n : Nat) (v : Word), n < 128 →
    let d := c.putSr k n v
    d.tcause = c.tcause ∧ d.tval = c.tval ∧ (n = 9 → d = c) ∧ d.status.toNat % 4 = c.status.toNat % 4 ∧
    d.ecccnt.toNat / 65536 = c.ecccnt.toNat / 65536 ∧ (n = 0 → d.status.toNat < 256) ∧ (n = 1 → d.tstatus.toNat < 256) ∧
    (∀ i, i < 16 → (n = 0x40 + 4 * i → (d.region i).base.toNat % 32 = 0) ∧ (n = 0x41 + 4 * i → (d.region i).lim.toNat % 32 = 0) ∧
      (n = 0x42 + 4 * i → (d.region i).attr.toNat < 128))

/-- R344; privilege goes before the checkpoint id (R348), so U raises 0x2 for a kernel id too. -/
def Obligations.KernelCheckpointsNeedTheirMode : Prop :=
  ∀ (s : State) (m b : Bool) (t : Nat) (ga fm : Fin 32) (id : BitVec 11), s.fetches m →
    let z := s.fetched m
    let c := z.core m
    let still (u : State) := ∀ m', (u.core m').pennants = (s.core m').pennants ∨ (u.core m').pennants = []
    ∃ u, exec (.paCkpt t m b ga fm id) s = .next u ∧
      (c.mode = .u → z.raises u m 0x2 c.pc c.tval false ∧ still u) ∧
      (c.mode = .s → 0x7F0 ≤ id.toNat → z.raises u m 0xD c.pc (BitVec.ofNat 32 id.toNat) false ∧ still u) ∧
      (c.mode = .k ∨ (c.mode = .s ∧ id.toNat < 0x7F0) →
        (u.core m).tcause = c.tcause ∧ ((u.core m).pc = c.pc + 4 ∨ ((u.core m).pc = c.pc ∧ 16 ≤ c.pennants.length)))

/-- R317: lockup, the pair's reset, and the waiting fetch. -/
def Obligations.LockupStopsACoreAndResetsThePair : Prop :=
  ∀ (s : State) (m : Bool) (code : Nat) (resume tval : Word) (k : Bool), 1 ≤ code → code ≤ 0xF →
    let c := s.core m
    let u := s.exception m code resume tval k
    (c.inTrap = false → (u.core m).inTrap = true) ∧
    (c.inTrap = true → (s.core (!m)).locked = false → (u.core m).locked = true ∧ (u.core m).tcause.toNat = 64 + code ∧
      u.raised Fid.coreLockup ∧ u.issues m = false ∧
      ∀ i x, exec (.paAddi m i i x) u = .next (u.after u) ∧ exec (.illegalInstruction m) u = .next (u.after u)) ∧
    (c.inTrap = true → (s.core (!m)).locked = true → u.cpm.phase = .inReset ∧ u.r CPM_RSTCAUSE_FLTRST = 1 ∧
      u.cores.main = {} ∧ u.cores.chk = {}) ∧
    (s.issues m = true → s.waits c.pc.toNat = true → c.inTrap = true → ∃ v, exec (.illegalInstruction m) s = .next v ∧
      (v.core m).tcause = c.tcause ∧ (v.core m).pc = c.pc ∧ v.core (!m) = s.core (!m))

/-- CMP (R356 to R361). -/
def Obligations.PostsPairPassAndFail : Prop :=
  ∀ (s : State) (m : Bool) (t : Nat),
    let f' := s.fetched m
    let c := f'.core m
    let o := s.core (!m)
    let main := s.cores.main
    let chk := s.cores.chk
    (s.fetches m → ∀ (rs ra : Fin 32) (imm : BitVec 16),
      let ea := (c.gr ra.val + imm.signExtend 32).toNat
      let post : Post := ⟨ea, c.gr rs.val, s.cycAt t⟩
      ea % 4 = 0 → s.waits ea = false → c.denied .store ea 4 = none → kindOf ea = .window → guardedAt ea = true →
      s.answers ea = true →
      (c.gsw.length < 8 → c.dropGsw = 0 → o.gsw = [] → ∃ u, exec (.paGsw t m rs ra imm) s = .next u ∧
        f'.ran u m { c with pc := c.pc + 4, gsw := c.gsw ++ [post] } ∧ s.keepsMem u) ∧
      (c.gsw.length < 8 → 0 < c.dropGsw → ∃ u, exec (.paGsw t m rs ra imm) s = .next u ∧
        f'.ran u m { c with pc := c.pc + 4, dropGsw := c.dropGsw - 1 } ∧ s.keepsMem u) ∧
      (8 ≤ c.gsw.length → ∃ u, exec (.paGsw t m rs ra imm) s = .next u ∧ u.core m = { c with waiting := false } ∧ s.keepsMem u) ∧
      (∀ x, c.gsw = [] → c.dropGsw = 0 → o.gsw = [x] → gap x post ≤ 2000 →
        (x.addr = ea → x.value = c.gr rs.val → s.b CMP_STS_MIS = true → ∃ u, exec (.paGsw t m rs ra imm) s = .next u ∧
          (u.core m).gsw = [] ∧ (u.core (!m)).gsw = [] ∧ s.keepsRegs u [CMP_LAG_LAST, CMP_LAG_MAX, DBG_STS_STATE] ∧ s.keepsMem u) ∧
        (x.addr = ea → x.value = c.gr rs.val → s.b CMP_STS_MIS = false →
          ∃ u w, exec (.paGsw t m rs ra imm) s = .next (s.after u) ∧ w.cores.main.gsw = [] ∧ w.cores.chk.gsw = [] ∧
            w.r CMP_CNT_GPASS = (s.r CMP_CNT_GPASS + 1) % 2 ^ CMP_CNT_GPASS.width ∧
            s.keepsRegs w [CMP_LAG_LAST, CMP_LAG_MAX, DBG_STS_STATE, CMP_CNT_GPASS] ∧ s.keepsMem w ∧
            u = (w.writeWin w.cores.main.agent ea (c.gr rs.val).toNat).1) ∧
        (x.addr ≠ ea ∨ x.value ≠ c.gr rs.val → ∃ u, exec (.paGsw t m rs ra imm) s = .next u ∧ u.raised Fid.compareMismatch ∧
          u.r CMP_STS_MIS = (if s.b CMP_STS_MIS then s.r CMP_STS_MIS else 1) ∧ u.cores.mute = true ∧ s.keepsMem u))) ∧
    (s.fetches m → ∀ (z : Bool) (ga fm : Fin 32) (id : BitVec 11), c.mode = .k ∨ (c.mode = .s ∧ id.toNat < 0x7F0) →
      let gm := c.gr ga.val &&& 0xFFFFFFFE
      let f := c.gr fm.val
      let digest := c.digest id.toNat gm f
      (c.pennants.length < 16 → 0 < c.dropPennants → ∃ u, exec (.paCkpt t m z ga fm id) s = .next u ∧
        (u.core m).pennants = c.pennants ∧ (u.core m).dropPennants = c.dropPennants - 1 ∧ (u.core m).pc = c.pc + 4 ∧ u.core (!m) = o ∧ s.keepsMem u) ∧
      (c.pennants.length < 16 → c.dropPennants = 0 → o.pennants = [] → ∃ u, exec (.paCkpt t m z ga fm id) s = .next u ∧
        (u.core m).pennants = c.pennants ++ [⟨id.toNat, digest, s.cycAt t⟩] ∧ (u.core m).pc = c.pc + 4 ∧
        (∀ n, n < 32 → n ≠ 0 → (u.core m).gr n = (if z && !gm.getLsbD n then 0 else c.gr n)) ∧
        (∀ n, n < 32 → (u.core m).fr n = (if z && !f.getLsbD n then 0 else c.fr n)) ∧ u.core (!m) = o ∧ s.keepsMem u) ∧
      (∀ x, c.pennants = [] → c.dropPennants = 0 → o.pennants = [x] → gap x ⟨id.toNat, digest, s.cycAt t⟩ ≤ 2000 → x.addr ≠ id.toNat ∨ x.value ≠ digest →
        ∃ u, exec (.paCkpt t m z ga fm id) s = .next u ∧ u.raised Fid.pennantMismatch ∧ u.cores.mute = true ∧ s.keepsMem u)) ∧
    (s.live .sys = true → s.halted = false → ∀ x rest,
      (main.gsw = x :: rest → chk.gsw = [] → x.cyc + 2000 ≤ s.cycAt t → ∃ u, exec (.compareTimeout t) s = .next u ∧
        u.raised Fid.compareTimeout ∧ u.cores.main.gsw = rest ∧ u.cores.chk.dropGsw = chk.dropGsw + 1 ∧ u.cores.mute = true ∧ s.keepsMem u) ∧
      (chk.gsw = x :: rest → main.gsw = [] → x.cyc + 2000 ≤ s.cycAt t → ∃ u, exec (.compareTimeout t) s = .next u ∧
        u.raised Fid.compareTimeout ∧ u.cores.chk.gsw = rest ∧ u.cores.main.dropGsw = main.dropGsw + 1 ∧ u.cores.mute = true ∧ s.keepsMem u) ∧
      (main.pennants = x :: rest → chk.pennants = [] → main.gsw = [] → chk.gsw = [] → x.cyc + 2000 ≤ s.cycAt t →
        ∃ u, exec (.compareTimeout t) s = .next u ∧ u.raised Fid.compareTimeout ∧ u.cores.main.pennants = rest ∧ u.cores.chk.dropPennants = chk.dropPennants + 1 ∧
          u.cores.mute = true ∧ s.keepsMem u) ∧
      (chk.pennants = x :: rest → main.pennants = [] → main.gsw = [] → chk.gsw = [] → x.cyc + 2000 ≤ s.cycAt t →
        ∃ u, exec (.compareTimeout t) s = .next u ∧ u.raised Fid.compareTimeout ∧ u.cores.chk.pennants = rest ∧ u.cores.main.dropPennants = main.dropPennants + 1 ∧
          u.cores.mute = true ∧ s.keepsMem u)) ∧
    (s.halted = true → exec (.compareTimeout t) s = .next (s.after s))

/-! The frame entry, interrupts, the duplicated region, the patrol and debug (chapters 14 and 16). -/

/-- Frames (R353), lines (R318), patrol (R322), the region (R351), debug (R362 to R364). -/
def Obligations.FrameEntryInterruptsRegionAndDebug : Prop :=
  (∀ (s : State) (m : Bool) (t : Nat) (d1 d0 : Word), s.frameReady m = true → s.cores.inReplay = false →
    let c := s.core m
    let o := s.core (!m)
    let ids := frameIds (c.frameDue.getD [])
    o.frameDue.isSome = true → o.pennants = [] → c.pennants.length + ids.length ≤ 16 → c.taken.length = 32 → c.dropPennants = 0 →
    ∃ u, exec (.frameEntry m t d1 d0) s = .next u ∧ u.core (!m) = o ∧ (u.core m).frameDue = none ∧ (u.core m).view = none ∧
      (u.core m).pc = c.pc ∧ (u.core m).status = c.status ∧ (u.core m).tpc = c.pc ∧ (u.core m).tstatus = c.status ∧
      (u.core m).tcause = 17 ∧ (u.core m).g = c.g ∧ (u.core m).f = c.f ∧ (u.core m).takes 1 = c.takes 1 + 1 ∧
      (u.core m).pennants = c.pennants ++ ids.map (fun id => ⟨id, if id = 0x7F1 then d1 else d0, s.cycAt t⟩) ∧
      u.cpm.dev = .run ∧ s.keepsRegs u (if s.cpm.dev = .idle then [CPM_STATE_LASTSLP] else []) ∧ s.keepsMem u) ∧
  (∀ (s : State) (m : Bool) (n : Nat), s.coresRun = true → (s.core m).locked = false → s.dbgHolds m = false →
    s.cores.inReplay = false → n < 32 → s.takeable m n = true → n ≠ 1 ∨ (s.core m).frameDue = none →
    (∀ j, j < 32 → s.takeable m j = true → s.linePri m n < s.linePri m j ∨ (s.linePri m n = s.linePri m j ∧ n ≤ j)) →
    let c := s.core m
    let p := s.linePri m n
    let toK : Bool := p == 0 || c.mode == .k
    let base : Nat := if toK then Config.kernelTable % 32 * 1024 else c.tbase.toNat
    ∃ u, exec (.interruptTaken m) s = .next u ∧ u.core (!m) = s.core (!m) ∧ s.keepsRegs u [] ∧ s.keepsMem u ∧
      u.core m = { c with
        tpc := c.pc, tstatus := c.status, tcause := BitVec.ofNat 32 (16 + n)
        status := statusWord (if toK then 0 else 1) c.ie true p, pc := BitVec.ofNat 32 (base + 16 * (16 + n)), waiting := false
        taken := setAt c.taken n (c.takes n + 1), lines := c.lines &&& ~~~ BitVec.ofNat 32 (2 ^ n) }) ∧
  (∀ (s : State) (a : Word) (corr : Bool) (ups singles : List Word), a.toNat % 4 = 0 → s.live .sys = true → isSram a.toNat = true →
    (a.toNat ∈ s.cores.badWords → ∃ u, exec (.patrolScrub a corr ⟨ups, singles⟩) s = .next u ∧ u.raised Fid.sramUncorrectable ∧
      s.keepsMem u) ∧
    (a.toNat ∉ s.cores.badWords → (∀ w ∈ ups, w.toNat / 4 * 4 ≠ a.toNat) →
      ∃ u, exec (.patrolScrub a corr ⟨ups, singles⟩) s = .next u ∧ s.keepsRegs u [] ∧ s.keepsMem u ∧
      (∀ w ∈ ups, isSram (w.toNat / 4 * 4) = true → w.toNat / 4 * 4 ∈ u.cores.badWords) ∧
      (∀ w ∈ singles, isSram (w.toNat / 4 * 4) = true → w.toNat / 4 * 4 ≠ a.toNat → w.toNat / 4 * 4 ∉ s.cores.badWords →
        (∀ x ∈ ups, x.toNat / 4 * 4 ≠ w.toNat / 4 * 4) → w.toNat / 4 * 4 ∈ u.cores.softWords) ∧
      let turned := decide (a.toNat ∈ s.cores.softWords ∨ ∃ w ∈ singles, w.toNat / 4 * 4 = a.toNat)
      ∀ m', (u.core m').ecccnt.toNat / 65536 = (if corr || turned then min 65535 ((s.core m').ecccnt.toNat / 65536 + 1)
        else (s.core m').ecccnt.toNat / 65536) ∧ (u.core m').ecccnt.toNat % 65536 = (s.core m').ecccnt.toNat % 65536)) ∧
  (∀ (s : State) who (v : BitVec 20), s.live .sys = true → s.mayWrite who CMP_DUPSIZE_SIZE →
    (s.dupSet = false → dupPlaced s.dupBase (v.toNat / 4096 * 4096) = true → ∃ u, exec (.duplicatedRegionSet who v) s = .next u ∧
      u.r CMP_DUPSIZE_SIZE = v.toNat ∧ u.dupSet = true ∧ u.r CMP_STS_COPYBUSY = 1 ∧
      s.keepsRegs u [CMP_DUPSIZE_SIZE, CMP_STS_DUPSET, CMP_STS_COPYBUSY] ∧ s.keepsMem u) ∧
    (s.dupSet = true ∨ dupPlaced s.dupBase (v.toNat / 4096 * 4096) = false → ∃ u, exec (.duplicatedRegionSet who v) s = .next u ∧
      u.r CMP_STS_DUPERR = 1 ∧ u.raised Fid.dupRefused ∧ u.r CMP_DUPSIZE_SIZE = s.r CMP_DUPSIZE_SIZE ∧ u.dupSet = s.dupSet ∧
      s.keepsMem u)) ∧
  (∀ s : State, s.b CMP_STS_COPYBUSY = true → s.memWf = true → dupPlaced s.dupBase s.dupSize = true → ∃ u, exec .copyComplete s = .next u ∧ u.r CMP_STS_COPYBUSY = 0 ∧
    s.keepsRegs u [CMP_STS_COPYBUSY] ∧ (∀ i, i < s.dupSize → u.byte (s.dupBase + s.dupSize + i) = s.byte (s.dupBase + i)) ∧
    ∀ a, a < s.dupBase + s.dupSize ∨ s.dupBase + 2 * s.dupSize ≤ a → u.byte a = s.byte a) ∧
  (∀ (s : State) who, s.live .sys = true → s.mayWrite who DBG_CTRL_OPEN →
    (s.dbgOpen = false → s.dbgLocked = false → s.isMaker who = true → s.drv = .off → s.journalRefuses = false →
      ∃ u, exec (.dbgOpen who true) s = .next u ∧ u.dbgOpen = true ∧ u.r DBG_STS_STATE = 1 ∧ u.cores.inReplay = true ∧
        u.cores.log = [] ∧ u.cores.replay = [] ∧ u.kern.nextSeq = s.kern.nextSeq + 1 ∧
        (∃ x ∈ u.kern.journal, x.seq = s.kern.nextSeq ∧ x.item = 0x7F05) ∧ s.keepsMem u) ∧
    (s.dbgOpen = false → s.dbgLocked = true ∨ s.isMaker who = false ∨ s.drv ≠ .off →
      exec (.dbgOpen who true) s = .next (s.after (s.w DBG_STS_REFUSED 1)))) ∧
  (∀ (s : State) who, s.mayWrite who DBG_CTRL_HALT → s.mayWrite who DBG_CTRL_RESUME → s.mayWrite who DBG_CTRL_STEP →
    let stop := if s.cores.main.retired = s.cores.chk.retired then 3 else 2
    let resumed (b : Bool) := { s.cores with stepping := b, haltCyc := s.cores.haltCyc + 2 * (s.nowU - s.cores.haltAt) }
    (s.dbgOpen = true → s.r DBG_STS_STATE = 1 →
      (∃ u, exec (.dbgHalt who) s = .next u ∧ u.r DBG_STS_STATE = stop ∧ s.keepsRegs u [DBG_STS_STATE] ∧ s.keepsMem u) ∧
      (∀ n : Fin 4, s.b (DBG_BP_EN n.val) = true → s.cores.main.pc.toNat = 4 * s.r (DBG_BP_ADDR n.val) →
        ∃ u, exec (.dbgBreakpointHit n) s = .next u ∧ u.r DBG_STS_STATE = stop ∧ u.cores.main = s.cores.main ∧
          s.keepsRegs u [DBG_STS_STATE] ∧ s.keepsMem u)) ∧
    (s.halted = true →
      (∃ u, exec (.dbgResume who) s = .next u ∧ u.r DBG_STS_STATE = 1 ∧ u.cores = resumed false ∧
        s.keepsRegs u [DBG_STS_STATE] ∧ s.keepsMem u) ∧
      (∃ u, exec (.dbgStep who) s = .next u ∧ u.r DBG_STS_STATE = 1 ∧ u.cores = resumed true ∧
        s.keepsRegs u [DBG_STS_STATE] ∧ s.keepsMem u))) ∧
  (∀ (s : State) who (v : Word), s.halted = true → s.mayWrite who DBG_REGDATA_DATA → s.mayWrite who DBG_MEMDATA_DATA →
    let n := s.r DBG_REGSEL_SEL
    let a := s.r DBG_MEMADDR_ADDR / 4 * 4
    (n < 0x20 → ∃ u, exec (.dbgRegisterData who v) s = .next u ∧ u.cores.main = s.cores.main.setG n v ∧
      u.cores.chk = s.cores.chk.setG n v ∧ s.keepsRegs u [] ∧ s.keepsMem u) ∧
    (n = 0x40 → ∃ u, exec (.dbgRegisterData who v) s = .next u ∧ u.cores.main.pc = BitVec.ofNat 32 (v.toNat / 4 * 4) ∧
      u.cores.chk.pc = BitVec.ofNat 32 (v.toNat / 4 * 4) ∧ s.keepsRegs u [] ∧ s.keepsMem u) ∧
    (isSram a = true → s.secded a = none →
      (∃ u, exec (.dbgMemoryData who none) s = .next u ∧ u.r DBG_MEMDATA_DATA = s.readLE a 4 ∧
        s.keepsRegs u [DBG_MEMDATA_DATA] ∧ s.keepsMem u) ∧
      (∃ u, exec (.dbgMemoryData who (some v)) s = .next u ∧ u.readLE a 4 = v.toNat ∧
        (s.inDup a = true → u.readLE (a + s.dupSize) 4 = v.toNat) ∧ s.keepsRegs u [] ∧
        ∀ x, (x < a ∨ a + 4 ≤ x) → (s.inDup a = true → x < a + s.dupSize ∨ a + s.dupSize + 4 ≤ x) → u.byte x = s.byte x)))

/-! The kernel's services, parameters, the journal, Burgee, images (chapters 04, 14, 21). -/

/-- Identity, tickets, parameters (R460, R461), the journal (R462), Burgee (R455 to R458). -/
def Obligations.ParametersJournalAndSessionsAreServed : Prop :=
  ∀ (s : State) (k : Fin 5) (r : Role) (a5 a6 a7 a8 : Word), s.serves → s.sessRole .program k.val = some r → 1 ≤ roleRank r →
    let z := s.touch k.val
    let v5 := a5.toNat
    let atLeast (q : Role) : Prop := roleRank q ≤ roleRank r
    let P := Chan.program
    (∃ u, exec (.kIdentity P k a5 a6 a7 a8) s = .next u ∧ s.keepsMem u ∧ u.kern.queue = s.kern.queue ∧
      u.replies 0 (BitVec.ofNat 32 (0x7144 + 65536 * Config.step + 16777216 * (Config.kernelVersion % 256)))
        (BitVec.ofNat 32 s.cpm.imgVersion)) ∧
    (∃ u, exec (.ticketResult P k a5 a6 a7 a8) s = .next u ∧ s.keepsMem u ∧ u.kern.queue = s.kern.queue ∧
      u.kern.tickets = s.kern.tickets ∧
      (∀ t ch d, s.kern.tickets = [⟨t, ch, d⟩] → (t = v5 ∧ ch = P → ∀ st g5 g6, d = some (st, g5, g6) → u.replies st g5 g6) ∧
        (t = v5 ∧ ch = P → d = none → u.replies 1 a5 0) ∧ (t ≠ v5 ∨ ch ≠ P → u.replies 4 0 0))) ∧
    (∃ u, exec (.parameterRead P k a5 a6 a7 a8) s = .next u ∧ s.keepsMem u ∧ u.kern.params = s.kern.params ∧
      (itemNamed v5 = true → u.replies 0 (BitVec.ofNat 32 (s.itemValue v5)) 0) ∧ (itemNamed v5 = false → u.replies 4 0 0)) ∧
    (∀ n q, s.room n → itemNamed v5 = true → v5 ≠ 0x0880 → v5 ≠ 0x0881 → itemRole v5 = some q →
      (atLeast q → z.itemOk v5 a6.toNat = true → r ≠ .installer ∨ z.inEnvelope v5 a6.toNat = true →
        ∃ u, exec (.parameterWrite P k a5 a6 a7 a8) s = .next u ∧ s.queued u 0x11 n 0 0 0 0 ∧ s.keepsMem u ∧
          u.kern.staged = s.kern.staged ++ [⟨v5, a6, k.val, r⟩] ∧ u.kern.params = s.kern.params) ∧
      (¬ atLeast q → s.journalRefuses = false → ∃ u, exec (.parameterWrite P k a5 a6 a7 a8) s = .next u ∧ u.replies 3 0 0 ∧
        u.kern.staged = s.kern.staged ∧ u.kern.params = s.kern.params ∧ s.keepsMem u ∧
        ∃ x ∈ u.kern.journal, x.seq = s.kern.nextSeq ∧ x.item = v5 ∧ x.kind = 3)) ∧
    (∀ n, s.room n → s.journalRefuses = false → natWithin v5 1 8 = true → atLeast (s.groupRole v5) →
      (∀ item v, v5 ≠ 3 → s.kern.stagedOf v5 = [(item, v)] → ∃ u, exec (.kCommit P k a5 a6 a7 a8) s = .next u ∧
        s.queued u 0x12 n 0 0 0 0 ∧ u.itemValue item = v.toNat ∧ (∀ x ∈ u.kern.staged, groupOf x.item ≠ v5) ∧
        (∀ j, j ≠ item → u.itemValue j = s.itemValue j) ∧ s.keepsMem u ∧
        u.kern.nextSeq = s.kern.nextSeq + (s.kern.staged.filter (fun x => groupOf x.item == v5)).length ∧
        (∀ x, s.kern.staged.filter (fun x => groupOf x.item == v5) = [x] → ∃ y ∈ u.kern.journal, y.seq = s.kern.nextSeq ∧ y.item = item)) ∧
      (v5 = 3 → s.kern.stagedOf 3 ≠ [] → ∃ u p, exec (.kCommit P k a5 a6 a7 a8) s = .next u ∧ u.kern.block = some p ∧
        p.sess = k.val ∧ p.crc = blockCrc p.items ∧ p.atMs = s.cpm.msTick ∧ s.queued u 0x12 n 0 0 (BitVec.ofNat 32 p.crc) 0 ∧
        u.kern.params = s.kern.params ∧ s.keepsMem u) ∧
      (∀ p, v5 = 3 → s.kern.stagedOf 3 = [] → s.kern.block = some p → p.sess = k.val → s.cpm.msTick ≤ p.atMs + 600000 → s.offOrSafe = true →
        a6.toNat = p.crc → ∃ u, exec (.kCommit P k a5 a6 a7 a8) s = .next u ∧ s.queued u 0x12 n 0 0 0 0 ∧ u.kern.block = none ∧
          u.kern.blockOk = true ∧ u.r CPM_BOOTSTAT_PARBAD = 0 ∧ (∀ e, p.items = [e] → u.itemValue e.1 = e.2.toNat) ∧ s.keepsMem u)) ∧
    (∀ n, s.room n → s.journalRefuses = false → v5 < 0x7F00 → atLeast .installer →
      ∃ u, exec (.journalAppend P k a5 a6 a7 a8) s = .next u ∧ s.queued u 0x20 n 0 0 0 0 ∧ u.kern.nextSeq = s.kern.nextSeq + 1 ∧
        (∃ x ∈ u.kern.journal, x.seq = s.kern.nextSeq ∧ x.item = v5 ∧ x.new = padTo 9 (digest9 (leBytes a6.toNat 4))) ∧ s.keepsMem u) ∧
    (∃ u, exec (.journalRead P k a5 a6 a7 a8) s = .next u ∧ u.kern.journal = s.kern.journal ∧ s.keepsMem u ∧
      ((∀ x ∈ s.kern.journal, x.seq ≠ v5) → u.replies 4 0 0) ∧
      (∀ x, s.kern.journal = [x] → x.seq = v5 → ∃ g5 g6, u.replies 0 g5 g6)) ∧
    (∀ q, roleOfCode v5 = some q →
      (s.lockOf q = 0 → s.keyOf q ≠ [] → ∃ u g5 g6, exec (.burgeeChallenge P k a5 a6 a7 a8) s = .next u ∧ u.replies 0 g5 g6 ∧
        u.kern.challenge = (s.kern.challenge + 1) % 2 ^ 64 ∧ s.keepsMem u ∧
        u.kern.nonces = s.kern.nonces.filter (fun y => y.chan != P) ++ [⟨P, q, s.nonceOf u.kern.challenge, s.cpm.msTick⟩]) ∧
      (s.lockOf q ≠ 0 ∨ s.keyOf q = [] → ∃ u, exec (.burgeeChallenge P k a5 a6 a7 a8) s = .next u ∧ u.replies 3 0 0 ∧
        u.kern.nonces = s.kern.nonces ∧ s.keepsMem u)) ∧
    (∀ n x, s.room n → s.kern.nonces = [x] → x.chan = P → s.cpm.msTick ≤ x.atMs + 10000 → s.journalRefuses = false →
      let tag := leBytes v5 4 ++ leBytes a6.toNat 4 ++ leBytes a7.toNat 4 ++ leBytes a8.toNat 4
      (∀ f, tag = z.tagFor x → k.val = 0 → (∀ y ∈ s.kern.sessions, 1 ≤ y.n) →
        [1, 2, 3, 4].find? (fun j => !s.kern.sessions.any (fun y => y.n == j)) = some f →
        ∃ u, exec (.burgeeResponse P k a5 a6 a7 a8) s = .next u ∧ s.queued u 0x31 n 0 0 (BitVec.ofNat 32 f) 0 ∧
          (⟨f, x.role, P, 0⟩ : Session) ∈ u.kern.sessions ∧ u.failsOf x.role = 0 ∧ u.kern.nonces = [] ∧ s.keepsMem u) ∧
      (tag ≠ z.tagFor x → ∃ u, exec (.burgeeResponse P k a5 a6 a7 a8) s = .next u ∧
        s.queued u 0x31 n 0 5 (BitVec.ofNat 32 (Config.failReason 0x31 1)) 0 ∧ u.failsOf x.role = s.failsOf x.role + 1 ∧
        u.lockOf x.role = lockMs (s.failsOf x.role + 1) ∧ (2 ≤ s.failsOf x.role → u.raised Fid.authLockout) ∧
        u.kern.nonces = [] ∧ s.keepsMem u)) ∧
    (∃ u, exec (.dropSession P k a5 a6 a7 a8) s = .next u ∧ s.keepsMem u ∧
      (∀ y ∈ s.kern.sessions, y.n = v5 → y.chan = P → u.replies 0 0 0 ∧ ∀ x ∈ u.kern.sessions, x.n ≠ v5) ∧
      ((∀ y ∈ s.kern.sessions, y.n ≠ v5 ∨ y.chan ≠ P) → u.replies 4 0 0))

/-- The other services (R326) and the end of a ticket (R324). -/
def Obligations.TestsHalyardImagesAndTicketsAreServed : Prop :=
  (∀ (s : State) (k : Fin 5) (r : Role) (a5 a6 a7 a8 : Word), s.serves → s.sessRole .program k.val = some r → 1 ≤ roleRank r →
    let z := s.touch k.val
    let v5 := a5.toNat
    let atLeast (q : Role) : Prop := roleRank q ≤ roleRank r
    let P := Chan.program
    (s.r CMP_STS_MIS = 0 → ∃ u, exec (.keyOffDischarge P k a5 a6 a7 a8) s = .next u ∧ u.replies 0 0 0 ∧ u.dis = z.kernelWrote.disRequest.dis ∧
      (∀ f, u.r f = z.kernelWrote.disRequest.r f) ∧ s.keepsMem u ∧
      (s.live .pwm → s.disLive → s.tested 5 = false → s.tested 6 = false → s.offOrSafe = true → s.r DIS_STS_STATE = 0 ∨ s.r DIS_STS_STATE = 5 ∨
        s.r DIS_STS_STATE = 6 → u.r DIS_STS_STATE = match s.vdc with
          | some v => if v ≤ 1000 * (s.r DIS_LIM_VTGT : Int) then 5 else 1
          | none => 1) ∧
      (s.offOrSafe = false → u.dis = { s.dis with reqHeld := true })) ∧
    (s.r CMP_STS_MIS ≠ 0 → ∃ u, exec (.keyOffDischarge P k a5 a6 a7 a8) s = .next u ∧
      u.replies 5 (BitVec.ofNat 32 (Config.failReason 0x03 0)) 0 ∧ u.dis = s.dis ∧ s.keepsMem u) ∧
    (atLeast .installer → s.b CMP_STS_MIS = false → ∃ u, exec (.kernelSoftwareReset P k a5 a6 a7 a8) s = .next u ∧
      u.cpm.phase = .inReset ∧ u.r CPM_RSTCAUSE_SOFT = 1 ∧ u.cores.main = {} ∧ u.cores.chk = {}) ∧
    (atLeast .installer → s.b CMP_STS_MIS = true → ∃ u, exec (.kernelSoftwareReset P k a5 a6 a7 a8) s = .next u ∧
      u.replies 5 (BitVec.ofNat 32 (Config.failReason 0x04 0)) 0 ∧ u.cpm = s.cpm) ∧
    (∀ n, s.room n → s.bst.blocks.length = 17 →
      (s.dbgOpen = false → s.r THM_STS_DLEVEL < 2 → s.b SSS_STS_TBUSY = false → ∃ u, exec (.selfTestRequest P k a5 a6 a7 a8) s = .next u ∧
        s.queued u 0x40 n (v5 % 2 ^ 17) 1 (BitVec.ofNat 32 (v5 % 2 ^ 17)) 0 ∧ s.keepsMem u ∧
        (∀ j, j < 17 → bit v5 j = true → (s.bstBlock j).phase = .none → (u.bstBlock j).phase = .pending ∧ u.bstCode j = 7)) ∧
      (s.dbgOpen = true → ∃ u, exec (.selfTestRequest P k a5 a6 a7 a8) s = .next u ∧ u.replies 3 0 0 ∧ u.bst = s.bst ∧ s.keepsMem u)) ∧
    (∃ u, exec (.selfTestResult P k a5 a6 a7 a8) s = .next u ∧ u.replies 0 (BitVec.ofNat 32 (s.readReg BST_RES0_RES.addr))
      (BitVec.ofNat 32 (s.readReg BST_RES1_RES.addr)) ∧ s.keepsMem u) ∧
    (∀ n tab, s.room n → a8.toNat ≤ 256 → natWithin (v5 / 65536 % 256) 1 3 = true → s.hly.table = some tab →
      let dst := v5 % 4096
      (s.outstanding < 64 → a5.getLsbD 12 = false → (tab.index dst).isSome = true → dst ≠ s.r HLY_NODE_ADDR →
        ∀ tid, s.nextTid = some tid → ∃ u, exec (.halyardRequest P k a5 a6 a7 a8) s = .next u ∧
          s.queued u 0x50 n tid 1 (BitVec.ofNat 32 tid) 0 ∧ u.hly.tidNext = (tid + 1) % 256 ∧
          (⟨tid, s.nowU, n, none⟩ : Transaction) ∈ u.hly.trans ∧ s.keepsMem u) ∧
      (s.outstanding < 64 → a5.getLsbD 12 = true ∨ (tab.index dst).isSome = false → ∃ u,
        exec (.halyardRequest P k a5 a6 a7 a8) s = .next u ∧ s.queued u 0x50 n 0 5 3 0 ∧ u.hly = s.hly ∧ s.keepsMem u) ∧
      (64 ≤ s.outstanding → ∃ u, exec (.halyardRequest P k a5 a6 a7 a8) s = .next u ∧ u.replies 2 0 0 ∧ u.hly = s.hly ∧ s.keepsMem u)) ∧
    (atLeast .maker → ∃ u q, exec (.registerProducer P k a5 a6 a7 a8) s = .next u ∧ u.replies 0 0 0 ∧
      u.hly.producers = s.hly.producers.filter (fun p => p.src != v5 % 4096) ++ [⟨v5 % 4096, q, 0⟩] ∧ s.keepsMem u) ∧
    (∀ n, s.room n → atLeast .installer →
      (s.r HLY_STS_RSTATE = 3 → s.hly.pending.isSome = true → ∃ u, exec (.switchSlotTable P k a5 a6 a7 a8) s = .next u ∧
        s.queued u 0x52 n 0 1 0 0 ∧ u.hly = s.hly ∧ s.keepsMem u) ∧
      (s.r HLY_STS_RSTATE ≠ 3 ∨ s.hly.pending = none → ∃ u, exec (.switchSlotTable P k a5 a6 a7 a8) s = .next u ∧ u.replies 3 0 0 ∧
        u.hly = s.hly ∧ s.keepsMem u)) ∧
    (atLeast .installer →
      (a5 = 1 → s.hoi.cut = [] → s.hoi.late = [] → s.gdn.iso ≠ .claiming → s.gdn.iso ≠ .running → ∃ u, exec (.isoClient P k a5 a6 a7 a8) s = .next u ∧ u.replies 0 0 0 ∧
        u.gdn.iso = .claiming ∧ u.gdn.isoAt = s.cpm.msTick ∧ u.shadowOf (CAN_CTRL_EN s.isoCan) = 1 ∧ s.keepsMem u) ∧
      (a5 = 0 → ∃ u, exec (.isoClient P k a5 a6 a7 a8) s = .next u ∧ u.replies 0 0 0 ∧ u.gdn.iso = .stopped ∧ s.keepsMem u)) ∧
    (∀ n, s.room n → atLeast .maker → s.journalRefuses = false →
      (v5 + a7.toNat ≤ slotSize → v5 % 16 = 0 → a7.toNat % 16 = 0 → 0x20002000 ≤ a6.toNat → a6.toNat + a7.toNat ≤ 0x20100000 →
        ∃ u, exec (.imageBlockWrite P k a5 a6 a7 a8) s = .next u ∧ s.queued u 0x70 n 0 0 0 0 ∧ s.keepsMem u ∧
          u.kern.flash = s.kern.flash ++ [.program (slotBase (!s.bootSlot) + v5) (s.bytes a6.toNat a7.toNat)]) ∧
      (∃ u role, exec (.imageFinalise P k a5 a6 a7 a8) s = .next u ∧ s.queued u 0x71 n 0 0 0 0 ∧ s.keepsMem u ∧
        u.kern.flash = s.kern.flash ++ [.finalise (!s.bootSlot) role]) ∧
      (s.b CPM_BOOTSTAT_TRIAL = true → s.cpm.imgAdvance = false → ∃ u x, ∃ second : Bool,
        exec (.kConfirm P k a5 a6 a7 a8) s = .next u ∧ s.queued u 0x02 n 0 0 0 0 ∧ u.b CPM_BOOTSTAT_TRIAL = false ∧
        u.readRec second = some x ∧ x.state s.bootSlot = .confirmed ∧ x.preferB = s.bootSlot ∧
        x.seq = (s.bootRec.seq + 1) % 2 ^ 32 ∧ u.kern.flash = s.kern.flash ++ [.record] ∧
        ∀ a, a < recAddr second ∨ recAddr second + 8192 ≤ a → u.byte a = s.byte a))) ∧
  (∀ (s : State) (n : Fin 8) (ok : Bool) (w : Work) (rest : List Work), s.driveAwake = true → s.kern.queue = w :: rest → w.ticket = n.val → w.st ≠ 1 →
    let ends (u : State) (st : Nat) (g5 g6 : Word) := exec (.ticketComplete n ok) s = .next u ∧ u.kern.queue = rest ∧
      (∀ t ∈ s.kern.tickets, t.n = n.val → { t with done := some (st, g5, g6) } ∈ u.kern.tickets) ∧
      (∀ m, (u.core m).lines.getLsbD 23 = true)
    (w.st ≠ 0 ∨ flashService w.num = false → ∃ u, ends u w.st w.g5 w.g6 ∧ s.keepsRegs u [HSP_IRQ_EVT] ∧ s.keepsMem u) ∧
    (w.st = 0 → flashService w.num = true → ∀ work, ∀ fl, s.kern.flash = work :: fl →
      (∀ a l, work = .program a l → ∃ u, ends u 0 0 0 ∧ u.kern.flash = fl ∧ s.keepsRegs u [HSP_IRQ_EVT] ∧
        (∀ i, i < l.length → u.byte (a + i) = l.getD i 0) ∧
        ∀ x, x < a ∨ a + l.length ≤ x → x < (a + 8191) / 8192 * 8192 ∨ (a + l.length + 8191) / 8192 * 8192 ≤ x →
          u.byte x = s.byte x) ∧
      (∀ b role, work = .finalise b role → s.imageOk b = true → s.bootRec.state b ≠ .confirmed ∨ s.kern.newIn b = true →
        s.journalRefuses = false → ∃ u x, ∃ second : Bool, ends u 0 0 0 ∧ u.kern.flash = fl ∧ u.readRec second = some x ∧
          x.state b = .trial ∧ x.tries b = 3 ∧ x.preferB = b ∧ x.seq = (s.bootRec.seq + 1) % 2 ^ 32 ∧
          ∀ a, a < recAddr second ∨ recAddr second + 8192 ≤ a → u.byte a = s.byte a) ∧
      (∀ b role, work = .finalise b role → s.imageOk b = false ∨ (s.bootRec.state b = .confirmed ∧ s.kern.newIn b = false) →
        ∃ u, ends u 5 (BitVec.ofNat 32 (Config.failReason 0x71 0)) 0 ∧ u.kern.flash = fl ∧
          (if s.slotWorn b then u.raised Fid.flashUncorrectable else s.keepsRegs u [HSP_IRQ_EVT]) ∧ s.keepsMem u)))

/-! Faults, thermal management, self-test and the host port (chapters 18 to 21). -/

/-- FLT (R405, R406, R409, R410, R416), THM (R426 to R432), BST (R435 to R440). -/
def Obligations.FaultsTemperaturesAndSelfTestsFollowTheirRules : Prop :=
  (∀ (s : State) (x : Reaction), s.flt.current = some x →
    (s.reactionDone x false = false → exec .queuedReaction s = .next (s.after s)) ∧
    (s.reactionDone x false = true → s.flt.preempted = [] →
      (s.flt.queue = [] → exec .queuedReaction s = .next (s.after { s with flt := { s.flt with current := none } })) ∧
      (∀ d y, s.flt.queue = [d, y] → d.cls = .D → y.cls = .C → y.derate = true → y.started = false →
        ∃ u, exec .queuedReaction s = .next u ∧ u.flt.current = some { y with started := true } ∧ u.flt.queue = [d] ∧
          u.flt.active = s.flt.active ∧ s.keepsMem u))) ∧
  (∀ (s : State) who (id : BitVec 16) (a : ActiveFault), s.mayWrite who FLT_CLR_ID → s.mayWrite who FLT_CLR_ALL → s.flt.active = [a] →
    let may := mayClear (clearRole who) a.cls
    let refuse (x : State) (w : Nat) : State := match who with
      | .host r => x.noteFold ⟨0, .host, FLT_CLR_ID.addr, 0, BitVec.ofNat 32 w, 3, r, s.cpm.msTick⟩
      | _ => x
    (a.id ≠ id.toNat → exec (.faultClear who id) s = .next (s.after s)) ∧
    (a.id = id.toNat → may = false → exec (.faultClear who id) s = .next (s.after (refuse s id.toNat))) ∧
    (a.id = id.toNat → may = true → s.clearable a = false → exec (.faultClear who id) s = .next (s.after (s.w FLT_STS_CLRREF 1))) ∧
    (a.id = id.toNat → may = true → s.clearable a = true → ∃ u, exec (.faultClear who id) s = .next u ∧ u.flt.active = [] ∧ s.keepsMem u) ∧
    (may = true → s.clearable a = true → ∃ u, exec (.clearAll who) s = .next u ∧ u.flt.active = [] ∧ s.keepsMem u) ∧
    (may = false ∨ s.clearable a = false → exec (.clearAll who) s = .next (s.after
      (if may then s.w FLT_STS_CLRREF 1 else refuse (s.w FLT_STS_CLRREF 1) 65536)))) ∧
  (∀ s : State, s.cpm.phase = .running → s.driveAwake = true →
    (s.kern.flash ≠ [] → ∃ u, exec .faultRecordMove s = .next u ∧ u.flt.fifo = s.flt.fifo.drop 1 ∧
      u.flt.buffer = s.flt.buffer ++ s.flt.fifo.take 1 ∧ u.kern = s.kern ∧ s.keepsRegs u [] ∧ s.keepsMem u) ∧
    ∀ x l, s.kern.flash = [] → s.flt.buffer ++ s.flt.fifo.take 1 = x :: l →
    (s.journalRefuses = false → ∃ u, exec .faultRecordMove s = .next u ∧ u.flt.fifo = s.flt.fifo.drop 1 ∧ u.flt.buffer = l ∧
      (∃ y ∈ u.kern.journal, y.seq = s.kern.nextSeq ∧ y.item = 0x8000 + x.id) ∧ s.keepsMem u) ∧
    (s.journalRefuses = true → s.hasFault Fid.journalFull = true → ∃ u, exec .faultRecordMove s = .next u ∧
      u.flt.fifo = s.flt.fifo.drop 1 ∧ u.flt.buffer = l ∧ u.kern.journal = s.kern.journal ∧ u.r FLT_STS_JLOST = 1 ∧ s.keepsMem u)) ∧
  (∀ (s : State) (die : Bool),
    (s.energised = true → s.b THM_CTRL_PTEN = true → max 1 (s.r THM_OSTOP_STALEN) ≤ s.thm.stale →
      ∃ u, exec .thermalModelStale s = .next u ∧ u.r THM_STS_STALE = 1 ∧ bit (u.r THM_IRQ_EVT) 2 = true ∧ u.raised Fid.thmStale ∧
        s.keepsMem u) ∧
    (∀ t x, x = (if die then s.thm.dStop else s.thm.pStop) →
      (x.wait = true → s.drv = .stopping → (s.at t).stopOver x = true → ∃ u, exec (.orderlyStopEnd ⟨die, t⟩) s = .next u ∧ u.raised Fid.thmShutdown ∧
        (if die then u.thm.dStop else u.thm.pStop) = {} ∧ u.b THM_STS_ORDER = false ∧ s.keepsMem u) ∧
      (x.wait = false ∨ s.drv ≠ .stopping ∨ (s.at t).stopOver x = false →
        exec (.orderlyStopEnd ⟨die, t⟩) s = .next (s.after (s.at t)))) ∧
    (∀ who, s.live .sys = true → s.mayWrite who THM_REEN_REEN → s.r THM_STS_PLEVEL = 3 → s.r THM_STS_DLEVEL ≠ 3 →
      (s.thmCool false = false → exec (.reEnable who true) s = .next (s.after (s.w THM_STS_REENREF 1))) ∧
      (s.thmCool false = true → ∃ u, exec (.reEnable who true) s = .next u ∧
        u.r THM_STS_PLEVEL = levelRows (s.thmLimits false) s.powerTj 0 ∧ u.r THM_STS_PLEVEL ≠ 3 ∧ s.keepsMem u)) ∧
    (s.cpm.dev = .run → s.cpm.phase = .running → hourU ≤ s.thm.unsaved → ∃ u, exec .lifeCounterSave s = .next u ∧ s.keepsMem u ∧
      (∀ k, k < 4 → u.itemValue (0x0900 + k) = s.r (THM_LIFE_HOURS k)) ∧ u.itemValue 0x0904 = s.r THM_KEYS_KEYS ∧
      (s.lifeBeyond = true → s.b THM_STS_LIFEX = false → u.r THM_STS_LIFEX = 1 ∧ u.raised Fid.lifeExceeded))) ∧
  (∀ (s : State) (t : Nat), s.live .sys = true → s.bst.blocks.length = 17 →
    (∀ who (mask : BitVec 17), s.mayWrite who BST_REQ_MASK → ∃ u, exec (.bstRequest t who mask) s = .next u ∧
      (∀ k, k < 17 → mask.getLsbD k = true → (s.bstBlock k).phase = .none → (u.bstBlock k).phase = .pending ∧
        (u.bstBlock k).since = (s.at t).nowU ∧ u.bstCode k = 7) ∧
      (∀ k, k < 17 → mask.getLsbD k = false ∨ (s.bstBlock k).phase ≠ .none → u.bstBlock k = s.bstBlock k) ∧
      s.keepsRegs u [BST_RES0_RES, BST_RES1_RES, BST_STS_BUSY] ∧ s.keepsMem u) ∧
    (∀ mw : BitVec 12, (∀ k, k < 17 → (s.bstBlock k).phase ≠ .running) →
      let fits (k : Nat) : Prop := (s.bstBlock k).phase = .pending ∧ s.bstAllowed k = true ∧ mw.toNat + bstIncrement k ≤ s.plim;
      (∀ k, k < 17 → fits k → (∀ j, j < k → ¬ fits j) → ∃ u, exec (.admissionScan t mw) s = .next u ∧ u.r BST_PWR_P = mw.toNat ∧
        (u.bstBlock k).phase = .running ∧ u.bstCode k = 6 ∧ (4 ≤ k → bit (u.r BST_STS_ISO) k = true) ∧ s.keepsMem u) ∧
      ((∀ k, k < 17 → ¬ fits k) → ∃ u, exec (.admissionScan t mw) s = .next u ∧ u.r BST_PWR_P = mw.toNat ∧
        (∀ k, (u.bstBlock k).phase = (s.bstBlock k).phase) ∧ s.keepsRegs u [BST_PWR_P, BST_PWR_PEAK] ∧ s.keepsMem u)) ∧
    (∀ k : Fin 17, (s.bstBlock k.val).phase = .pending →
      (s.bstBlock k.val).since + msU (max 1 (s.r BST_CFG_TWAIT)) ≤ (s.at t).nowU → ∃ u, exec (.admissionTimeout t k) s = .next u ∧
        (u.bstBlock k.val).phase = .none ∧ u.bstCode k.val = (if (s.bstBlock k.val).allowed then 4 else 3) ∧
        s.keepsRegs u [BST_RES0_RES, BST_RES1_RES, BST_STS_BUSY, BST_IRQ_EVT] ∧ s.keepsMem u) ∧
    (∀ k : Fin 17, (s.bstBlock k.val).phase = .running → s.bstAllowed k.val = true → s.on (bstDomain k.val) = true →
      (∃ u, exec (.testComplete k true) s = .next u ∧ (u.bstBlock k.val).phase = .rejoin ∧ u.bstCode k.val = 1 ∧ s.keepsMem u) ∧
      (∃ u, exec (.testComplete k false) s = .next u ∧ (u.bstBlock k.val).phase = .none ∧ bit (u.r BST_STS_ISO) k.val = true ∧
        u.raised (bstFault k.val) ∧ s.keepsMem u)))

/-- The host port (R444 to R449, R466), idle sessions (R455). -/
def Obligations.HostFramesAreAnsweredWithinTheirRole : Prop :=
  ∀ s : State, s.hostLive = true →
  (∀ (c : Byte) (k : Fin 8) (a : Word) (n : Byte) (late : Bool) (r : Role), headOk ⟨a, ⟨k, n, c⟩⟩ 1 = true → n.toNat < 64 →
    s.sessRole .host k.val = some r → a.toNat % 4 = 0 →
    let words := (List.range (n.toNat + 1)).map (fun i => BitVec.ofNat 32 (s.readLE (a.toNat + 4 * i) 4))
    let isLate := late && s.mayLate a.toNat
    let good := ∀ i, i ≤ n.toNat → isSram (a.toNat + 4 * i) = true ∧ hostHidden (a.toNat + 4 * i) = false ∧
      s.secded (a.toNat + 4 * i) = none
    (s.cpm.phase ≠ .recovery → s.hsp.late = none → good → ∃ u, exec (.hostRead c k a n late) s = .next u ∧ s.keepsMem u ∧
      u.hsp.status = (if isLate then 6 else 0) ∧ u.hsp.words = (if isLate then List.replicate (n.toNat + 1) 0 else words) ∧
      u.hsp.late = (if isLate then some (a.toNat, words) else none) ∧ u.hsp.crc = crc8 (leBytes u.hsp.status 1 ++ wordBytes u.hsp.words)) ∧
    (∀ l, s.cpm.phase ≠ .recovery → s.hsp.late = some (a.toNat, l) → ∃ u, exec (.hostRead c k a n late) s = .next u ∧ u.hsp.status = 0 ∧
      u.hsp.words = l ∧ u.hsp.late = none ∧ s.keepsMem u) ∧
    (s.cpm.phase = .recovery ∨ (s.hsp.late = none ∧ hostHidden a.toNat = true) → ∃ u, exec (.hostRead c k a n late) s = .next u ∧ u.hsp.status = 3 ∧
      u.hsp.words = [] ∧ s.keepsMem u)) ∧
  (∀ (c : Byte) (k : Fin 8) (a : Word) (n : Byte) (late : Bool), headOk ⟨a, ⟨k, n, c⟩⟩ 1 = true → a.toNat % 4 ≠ 0 ∨ 64 ≤ n.toNat → ∃ u, exec (.hostRead c k a n late) s = .next u ∧
    u.hsp.status = 8 ∧ u.hsp.words = [] ∧ s.keepsRegs u [] ∧ s.keepsMem u) ∧
  (∀ (c d : Byte) (k : Fin 8) (a w : Word) (r : Role), headOk ⟨a, ⟨k, 0, c⟩⟩ 2 = true → s.sessRole .host k.val = some r → a.toNat % 4 = 0 → isSram a.toNat = true →
    hostHidden a.toNat = false →
    (dcrcOk [w] d = true → 0x20010000 ≤ a.toNat → 2 ≤ roleRank r → s.journalRefuses = false → ∃ u, exec (.hostWrite c k a [w] d) s = .next u ∧
      u.hsp.status = 0 ∧ u.readLE a.toNat 4 = w.toNat ∧ ∀ x, x < a.toNat ∨ a.toNat + 4 ≤ x → u.byte x = s.byte x) ∧
    (dcrcOk [w] d = true → roleRank r < 2 ∨ a.toNat < 0x20010000 → ∃ u, exec (.hostWrite c k a [w] d) s = .next u ∧ u.hsp.status = 3 ∧ s.keepsMem u) ∧
    (dcrcOk [w] d = false → ∃ u, exec (.hostWrite c k a [w] d) s = .next u ∧ u.hsp.status = 2 ∧
      u.r HSP_STS_DCRCCNT = (if s.r HSP_STS_DCRCCNT + 1 < 2 ^ HSP_STS_DCRCCNT.width then s.r HSP_STS_DCRCCNT + 1
        else s.r HSP_STS_DCRCCNT) ∧ s.keepsMem u)) ∧
  (∀ (c : Byte) (k : Fin 8) (a : Word) (n : Byte) (late : Bool), headOk ⟨a, ⟨k, n, c⟩⟩ 1 = false → ∃ u, exec (.hostRead c k a n late) s = .next u ∧ u.hsp.status = 1 ∧
    u.hsp.words = [] ∧ u.hsp.fails = s.hsp.fails.filter (fun t => decide (s.cpm.msTick < t + 1000)) ++ [s.cpm.msTick] ∧
    (16 ≤ u.hsp.fails.length → u.raised Fid.hostFrameErrors) ∧ s.keepsMem u) ∧
  (∀ x r, headOk x 3 = true → s.sessRole .host x.tail.sess.val = some r → ∃ u, exec (.hostStatus x) s = .next u ∧ u.hsp.status = 0 ∧ bit (u.r HSP_IRQ_EVT) 0 = false ∧
    u.hsp.words = [BitVec.ofNat 32 (s.r SSS_ENSIGN_ENSIGN), BitVec.ofNat 32 (s.r HSP_IRQ_EVT),
      BitVec.ofNat 32 (s.readReg FLT_STS_QLEVEL.addr), BitVec.ofNat 32 s.hostTickets] ∧
    s.keepsMem u) ∧
  (∀ x, headOk x 3 = true → s.sessRole .host x.tail.sess.val = none →
    ∃ u, exec (.hostStatus x) s = .next u ∧ u.hsp.status = 3 ∧ s.keepsRegs u [] ∧ s.keepsMem u) ∧
  (∀ (x : FrameHead) (d : Byte) (r : Role) (last a5 a6 a7 a8 : Word), headOk x 4 = true →
    dcrcOk [0, a5, a6, a7, a8, last] d = true → s.sessRole .host x.tail.sess.val = some r → 1 ≤ roleRank r →
    (∀ n, s.room n → ∃ u g5 g6, exec (.hostService x last 0 a5 a6 a7 a8 d) s = .next u ∧ u.hsp.status = 0 ∧ u.hsp.ticket = n ∧
      u.kern.queue = s.kern.queue ++ [⟨0, n, 0, .host, 0, g5, g6⟩] ∧ (⟨n, .host, none⟩ : Ticket) ∈ u.kern.tickets ∧ s.keepsMem u) ∧
    (16 ≤ s.kern.queue.length → ∃ u, exec (.hostService x last 0 a5 a6 a7 a8 d) s = .next u ∧ u.hsp.status = 7 ∧
      u.kern.queue = s.kern.queue ∧ s.keepsMem u)) ∧
  (∀ (x : FrameTail) (v : Word) r, headOk ⟨v, x⟩ 5 = true → s.sessRole .host x.sess.val = some r →
    ∃ u, exec (.hostResult x v) s = .next u ∧ u.hsp.status = 0 ∧ s.keepsMem u ∧
    (∀ st g5 g6, s.kern.tickets = [⟨v.toNat, .host, some (st, g5, g6)⟩] → u.hsp.words = [BitVec.ofNat 32 st, g5, g6]) ∧
    (s.kern.tickets = [⟨v.toNat, .host, none⟩] → u.hsp.words = [1, v, 0]) ∧
    ((∀ t ∈ s.kern.tickets, t.n ≠ v.toNat ∨ t.chan ≠ .host) → u.hsp.words = [4, 0, 0])) ∧
  (∃ u, exec .frameAbort s = .next u ∧ s.keepsRegs u [HSP_STS_ABORTCNT] ∧ u.hsp = s.hsp ∧ s.keepsMem u ∧
    u.r HSP_STS_ABORTCNT = (if s.r HSP_STS_ABORTCNT + 1 < 2 ^ HSP_STS_ABORTCNT.width then s.r HSP_STS_ABORTCNT + 1
      else s.r HSP_STS_ABORTCNT)) ∧
  (∀ (n : Fin 5) (y : Session), y ∈ s.kern.sessions → y.n = n.val → s.sestoMs ≤ y.idleMs → ∃ u, exec (.sessionTimeout n) s = .next u ∧
    (∀ x ∈ u.kern.sessions, x.n ≠ n.val) ∧ (∀ x ∈ s.kern.sessions, x.n ≠ n.val → x ∈ u.kern.sessions) ∧ s.keepsMem u) ∧
  ((∀ t ∈ s.hsp.fails, t + 1000 ≤ s.cpm.msTick) → ∃ u, exec .hostFrameErrorsQuiet s = .next u ∧ u.hsp.fails = [] ∧
    (∀ a, s.flt.active = [a] → a.insts = [0] → u.hasFault Fid.hostFrameErrors = false) ∧ s.keepsMem u)
end

