-- ==== Sys2Proof/Laws/Sparse.lean ====
section
/-!
SUPPORT. Sparse data: what finding, erasing, inserting and writing a key do, and that each keeps the canonical form.
-/
namespace Sys2Proof.Machine

/-- An erased key is not listed, whatever the list. -/
theorem sparseFind_erase {α : Type} (l : Sparse α) (i : Nat) : sparseFind (sparseErase l i) i = none := by
  induction l with
  | nil => rfl
  | cons e l ih =>
    obtain ⟨k, v⟩ := e
    unfold sparseErase
    by_cases hk : k = i
    · simp only [if_pos hk, ih]
    · simp only [if_neg hk, sparseFind, ih]

theorem sparseFind_erase_other {α : Type} (l : Sparse α) (i j : Nat) (h : i ≠ j) :
    sparseFind (sparseErase l i) j = sparseFind l j := by
  induction l with
  | nil => rfl
  | cons e l ih =>
    obtain ⟨k, v⟩ := e
    unfold sparseErase
    by_cases hk : k = i
    · subst hk; simp [sparseFind, h, ih]
    · simp only [if_neg hk, sparseFind, ih]

theorem sparseFind_insert_self {α : Type} (l : Sparse α) (i : Nat) (x : α) (h : sparseFind l i = none) :
    sparseFind (sparseInsert l i x) i = some x := by
  induction l with
  | nil => simp [sparseInsert, sparseFind]
  | cons e l ih =>
    obtain ⟨k, v⟩ := e
    unfold sparseInsert
    by_cases hk : i < k
    · simp [hk, sparseFind]
    · have hne : k ≠ i := by
        rintro rfl
        simp [sparseFind] at h
      simp only [if_neg hk, sparseFind, if_neg hne]
      apply ih
      simpa [sparseFind, hne] using h

theorem sparseFind_insert_other {α : Type} (l : Sparse α) (i j : Nat) (x : α) (h : i ≠ j) :
    sparseFind (sparseInsert l i x) j = sparseFind l j := by
  induction l with
  | nil => simp [sparseInsert, sparseFind, h]
  | cons e l ih =>
    obtain ⟨k, v⟩ := e
    unfold sparseInsert
    by_cases hk : i < k
    · simp [hk, sparseFind, h]
    · simp only [if_neg hk, sparseFind, ih]

/-- A key that a list does not hold after an erase, whatever the list. -/
theorem sparseFind_put_other {α : Type} [DecidableEq α] (l : Sparse α) (i j : Nat) (x d : α) (h : i ≠ j) :
    sparseFind (sparsePut l i x d) j = sparseFind l j := by
  unfold sparsePut
  split
  · exact sparseFind_erase_other l i j h
  · rw [sparseFind_insert_other _ _ _ _ h, sparseFind_erase_other l i j h]

theorem sparseFind_put_self {α : Type} [DecidableEq α] (l : Sparse α) (i : Nat) (x d : α) :
    (sparseFind (sparsePut l i x d) i).getD d = x := by
  have he := sparseFind_erase l i
  unfold sparsePut
  split
  · next hx => rw [he, hx]; rfl
  · rw [sparseFind_insert_self _ _ _ he]; rfl

/-! The canonical form. -/

theorem sparseWfFrom_mono {α : Type} [DecidableEq α] (d : Nat → α) (l : Sparse α) (b c : Nat) (hbc : c ≤ b)
    (h : sparseWfFrom d b l = true) : sparseWfFrom d c l = true := by
  cases l with
  | nil => rfl
  | cons e l =>
    obtain ⟨k, v⟩ := e
    simp only [sparseWfFrom, Bool.and_eq_true, decide_eq_true_eq] at h ⊢
    exact ⟨⟨by omega, h.1.2⟩, h.2⟩

theorem sparseWfFrom_erase {α : Type} [DecidableEq α] (d : Nat → α) (l : Sparse α) (b i : Nat) (h : sparseWfFrom d b l = true) :
    sparseWfFrom d b (sparseErase l i) = true := by
  induction l generalizing b with
  | nil => rfl
  | cons e l ih =>
    obtain ⟨k, v⟩ := e
    simp only [sparseWfFrom, Bool.and_eq_true, decide_eq_true_eq] at h
    unfold sparseErase
    split
    · exact sparseWfFrom_mono d _ (k + 1) b (by omega) (ih _ h.2)
    · simp only [sparseWfFrom, Bool.and_eq_true, decide_eq_true_eq]
      exact ⟨h.1, ih _ h.2⟩

theorem sparseWfFrom_insert {α : Type} [DecidableEq α] (d : Nat → α) (l : Sparse α) (b i : Nat) (x : α) (hb : b ≤ i) (hx : x ≠ d i)
    (hn : sparseFind l i = none) (h : sparseWfFrom d b l = true) : sparseWfFrom d b (sparseInsert l i x) = true := by
  induction l generalizing b with
  | nil => simp [sparseInsert, sparseWfFrom, hb, hx]
  | cons e l ih =>
    obtain ⟨k, v⟩ := e
    simp only [sparseWfFrom, Bool.and_eq_true, decide_eq_true_eq] at h
    unfold sparseInsert
    by_cases hk : i < k
    · simp only [if_pos hk, sparseWfFrom, Bool.and_eq_true, decide_eq_true_eq]
      exact ⟨⟨hb, hx⟩, ⟨by omega, h.1.2⟩, h.2⟩
    · have hne : k ≠ i := by
        rintro rfl
        simp [sparseFind] at hn
      simp only [if_neg hk, sparseWfFrom, Bool.and_eq_true, decide_eq_true_eq]
      refine ⟨h.1, ih _ (by omega) ?_ h.2⟩
      simpa [sparseFind, hne] using hn

/-- Writing a key keeps the canonical form. -/
theorem sparseWf_put {α : Type} [DecidableEq α] (l : Sparse α) (i : Nat) (x : α) (d : Nat → α) (h : sparseWf d l = true) :
    sparseWf d (sparsePut l i x (d i)) = true := by
  unfold sparsePut sparseWf
  split
  · exact sparseWfFrom_erase d l 0 i h
  · next hx =>
    exact sparseWfFrom_insert d _ 0 i x (by omega) hx (sparseFind_erase l i) (sparseWfFrom_erase d l 0 i h)

/-- Keeping some of the entries keeps the canonical form. -/
theorem sparseWf_filter {α : Type} [DecidableEq α] (l : Sparse α) (d : Nat → α) (p : Nat × α → Bool) (h : sparseWf d l = true) :
    sparseWf d (l.filter p) = true := by
  suffices ∀ b, sparseWfFrom d b l = true → sparseWfFrom d b (l.filter p) = true from this 0 h
  clear h
  induction l with
  | nil => intros; rfl
  | cons e l ih =>
    obtain ⟨k, v⟩ := e
    intro b h
    simp only [sparseWfFrom, Bool.and_eq_true, decide_eq_true_eq] at h
    by_cases hp : p (k, v) = true
    · simp only [List.filter_cons_of_pos hp, sparseWfFrom, Bool.and_eq_true, decide_eq_true_eq]
      exact ⟨h.1, ih _ h.2⟩
    · simp only [List.filter_cons_of_neg hp]
      exact ih b (sparseWfFrom_mono d l (k + 1) b (by omega) h.2)

end Sys2Proof.Machine
end

