-- ==== Sys2Proof/Laws/State.lean ====
section
/-!
SUPPORT. What each update of the state leaves alone and what it sets: one lemma per field per update, so that no later
proof unfolds a record update.
-/
namespace Sys2Proof.Machine

/-! `w`. -/
@[simp] theorem State.w_shadow (s : State) (k : Fld) (v : Nat) : (s.w k v).shadow = s.shadow := rfl
@[simp] theorem State.w_mem (s : State) (k : Fld) (v : Nat) : (s.w k v).mem = s.mem := rfl
@[simp] theorem State.w_hoi (s : State) (k : Fld) (v : Nat) : (s.w k v).hoi = s.hoi := rfl
@[simp] theorem State.w_cpm (s : State) (k : Fld) (v : Nat) : (s.w k v).cpm = s.cpm := rfl
@[simp] theorem State.w_pwm (s : State) (k : Fld) (v : Nat) : (s.w k v).pwm = s.pwm := rfl
@[simp] theorem State.w_dis (s : State) (k : Fld) (v : Nat) : (s.w k v).dis = s.dis := rfl
@[simp] theorem State.w_sense (s : State) (k : Fld) (v : Nat) : (s.w k v).sense = s.sense := rfl
@[simp] theorem State.w_pos (s : State) (k : Fld) (v : Nat) : (s.w k v).pos = s.pos := rfl
@[simp] theorem State.w_cle (s : State) (k : Fld) (v : Nat) : (s.w k v).cle = s.cle := rfl
@[simp] theorem State.w_drive (s : State) (k : Fld) (v : Nat) : (s.w k v).drive = s.drive := rfl
@[simp] theorem State.w_sss (s : State) (k : Fld) (v : Nat) : (s.w k v).sss = s.sss := rfl
@[simp] theorem State.w_saf (s : State) (k : Fld) (v : Nat) : (s.w k v).saf = s.saf := rfl
@[simp] theorem State.w_ss1 (s : State) (k : Fld) (v : Nat) : (s.w k v).ss1 = s.ss1 := rfl
@[simp] theorem State.w_tmon (s : State) (k : Fld) (v : Nat) : (s.w k v).tmon = s.tmon := rfl
@[simp] theorem State.w_flt (s : State) (k : Fld) (v : Nat) : (s.w k v).flt = s.flt := rfl
@[simp] theorem State.w_ax0 (s : State) (k : Fld) (v : Nat) : (s.w k v).ax0 = s.ax0 := rfl
@[simp] theorem State.w_ax1 (s : State) (k : Fld) (v : Nat) : (s.w k v).ax1 = s.ax1 := rfl
@[simp] theorem State.w_gdn (s : State) (k : Fld) (v : Nat) : (s.w k v).gdn = s.gdn := rfl
@[simp] theorem State.w_hly (s : State) (k : Fld) (v : Nat) : (s.w k v).hly = s.hly := rfl
@[simp] theorem State.w_bst (s : State) (k : Fld) (v : Nat) : (s.w k v).bst = s.bst := rfl
@[simp] theorem State.w_thm (s : State) (k : Fld) (v : Nat) : (s.w k v).thm = s.thm := rfl
@[simp] theorem State.w_cores (s : State) (k : Fld) (v : Nat) : (s.w k v).cores = s.cores := rfl
@[simp] theorem State.w_can0 (s : State) (k : Fld) (v : Nat) : (s.w k v).can0 = s.can0 := rfl
@[simp] theorem State.w_can1 (s : State) (k : Fld) (v : Nat) : (s.w k v).can1 = s.can1 := rfl
@[simp] theorem State.w_hsp (s : State) (k : Fld) (v : Nat) : (s.w k v).hsp = s.hsp := rfl
@[simp] theorem State.w_kern (s : State) (k : Fld) (v : Nat) : (s.w k v).kern = s.kern := rfl
@[simp] theorem State.w_pins (s : State) (k : Fld) (v : Nat) : (s.w k v).pins = s.pins := rfl
@[simp] theorem State.w_free (s : State) (k : Fld) (v : Nat) : (s.w k v).free = s.free := rfl
@[simp] theorem State.w_pending (s : State) (k : Fld) (v : Nat) : (s.w k v).pending = s.pending := rfl

/-! `ws`. -/
@[simp] theorem State.ws_regs (s : State) (k : Fld) (v : Nat) : (s.ws k v).regs = s.regs := rfl
@[simp] theorem State.ws_mem (s : State) (k : Fld) (v : Nat) : (s.ws k v).mem = s.mem := rfl
@[simp] theorem State.ws_hoi (s : State) (k : Fld) (v : Nat) : (s.ws k v).hoi = s.hoi := rfl
@[simp] theorem State.ws_cpm (s : State) (k : Fld) (v : Nat) : (s.ws k v).cpm = s.cpm := rfl
@[simp] theorem State.ws_pwm (s : State) (k : Fld) (v : Nat) : (s.ws k v).pwm = s.pwm := rfl
@[simp] theorem State.ws_dis (s : State) (k : Fld) (v : Nat) : (s.ws k v).dis = s.dis := rfl
@[simp] theorem State.ws_sense (s : State) (k : Fld) (v : Nat) : (s.ws k v).sense = s.sense := rfl
@[simp] theorem State.ws_pos (s : State) (k : Fld) (v : Nat) : (s.ws k v).pos = s.pos := rfl
@[simp] theorem State.ws_cle (s : State) (k : Fld) (v : Nat) : (s.ws k v).cle = s.cle := rfl
@[simp] theorem State.ws_drive (s : State) (k : Fld) (v : Nat) : (s.ws k v).drive = s.drive := rfl
@[simp] theorem State.ws_sss (s : State) (k : Fld) (v : Nat) : (s.ws k v).sss = s.sss := rfl
@[simp] theorem State.ws_saf (s : State) (k : Fld) (v : Nat) : (s.ws k v).saf = s.saf := rfl
@[simp] theorem State.ws_ss1 (s : State) (k : Fld) (v : Nat) : (s.ws k v).ss1 = s.ss1 := rfl
@[simp] theorem State.ws_tmon (s : State) (k : Fld) (v : Nat) : (s.ws k v).tmon = s.tmon := rfl
@[simp] theorem State.ws_flt (s : State) (k : Fld) (v : Nat) : (s.ws k v).flt = s.flt := rfl
@[simp] theorem State.ws_ax0 (s : State) (k : Fld) (v : Nat) : (s.ws k v).ax0 = s.ax0 := rfl
@[simp] theorem State.ws_ax1 (s : State) (k : Fld) (v : Nat) : (s.ws k v).ax1 = s.ax1 := rfl
@[simp] theorem State.ws_gdn (s : State) (k : Fld) (v : Nat) : (s.ws k v).gdn = s.gdn := rfl
@[simp] theorem State.ws_hly (s : State) (k : Fld) (v : Nat) : (s.ws k v).hly = s.hly := rfl
@[simp] theorem State.ws_bst (s : State) (k : Fld) (v : Nat) : (s.ws k v).bst = s.bst := rfl
@[simp] theorem State.ws_thm (s : State) (k : Fld) (v : Nat) : (s.ws k v).thm = s.thm := rfl
@[simp] theorem State.ws_cores (s : State) (k : Fld) (v : Nat) : (s.ws k v).cores = s.cores := rfl
@[simp] theorem State.ws_can0 (s : State) (k : Fld) (v : Nat) : (s.ws k v).can0 = s.can0 := rfl
@[simp] theorem State.ws_can1 (s : State) (k : Fld) (v : Nat) : (s.ws k v).can1 = s.can1 := rfl
@[simp] theorem State.ws_hsp (s : State) (k : Fld) (v : Nat) : (s.ws k v).hsp = s.hsp := rfl
@[simp] theorem State.ws_kern (s : State) (k : Fld) (v : Nat) : (s.ws k v).kern = s.kern := rfl
@[simp] theorem State.ws_pins (s : State) (k : Fld) (v : Nat) : (s.ws k v).pins = s.pins := rfl
@[simp] theorem State.ws_free (s : State) (k : Fld) (v : Nat) : (s.ws k v).free = s.free := rfl
@[simp] theorem State.ws_pending (s : State) (k : Fld) (v : Nat) : (s.ws k v).pending = s.pending := rfl

/-! `setByte`. -/
@[simp] theorem State.setByte_regs (s : State) (a : Nat) (v : Byte) : (s.setByte a v).regs = s.regs := rfl
@[simp] theorem State.setByte_shadow (s : State) (a : Nat) (v : Byte) : (s.setByte a v).shadow = s.shadow := rfl
@[simp] theorem State.setByte_hoi (s : State) (a : Nat) (v : Byte) : (s.setByte a v).hoi = s.hoi := rfl
@[simp] theorem State.setByte_cpm (s : State) (a : Nat) (v : Byte) : (s.setByte a v).cpm = s.cpm := rfl
@[simp] theorem State.setByte_pwm (s : State) (a : Nat) (v : Byte) : (s.setByte a v).pwm = s.pwm := rfl
@[simp] theorem State.setByte_dis (s : State) (a : Nat) (v : Byte) : (s.setByte a v).dis = s.dis := rfl
@[simp] theorem State.setByte_sense (s : State) (a : Nat) (v : Byte) : (s.setByte a v).sense = s.sense := rfl
@[simp] theorem State.setByte_pos (s : State) (a : Nat) (v : Byte) : (s.setByte a v).pos = s.pos := rfl
@[simp] theorem State.setByte_cle (s : State) (a : Nat) (v : Byte) : (s.setByte a v).cle = s.cle := rfl
@[simp] theorem State.setByte_drive (s : State) (a : Nat) (v : Byte) : (s.setByte a v).drive = s.drive := rfl
@[simp] theorem State.setByte_sss (s : State) (a : Nat) (v : Byte) : (s.setByte a v).sss = s.sss := rfl
@[simp] theorem State.setByte_saf (s : State) (a : Nat) (v : Byte) : (s.setByte a v).saf = s.saf := rfl
@[simp] theorem State.setByte_ss1 (s : State) (a : Nat) (v : Byte) : (s.setByte a v).ss1 = s.ss1 := rfl
@[simp] theorem State.setByte_tmon (s : State) (a : Nat) (v : Byte) : (s.setByte a v).tmon = s.tmon := rfl
@[simp] theorem State.setByte_flt (s : State) (a : Nat) (v : Byte) : (s.setByte a v).flt = s.flt := rfl
@[simp] theorem State.setByte_ax0 (s : State) (a : Nat) (v : Byte) : (s.setByte a v).ax0 = s.ax0 := rfl
@[simp] theorem State.setByte_ax1 (s : State) (a : Nat) (v : Byte) : (s.setByte a v).ax1 = s.ax1 := rfl
@[simp] theorem State.setByte_gdn (s : State) (a : Nat) (v : Byte) : (s.setByte a v).gdn = s.gdn := rfl
@[simp] theorem State.setByte_hly (s : State) (a : Nat) (v : Byte) : (s.setByte a v).hly = s.hly := rfl
@[simp] theorem State.setByte_bst (s : State) (a : Nat) (v : Byte) : (s.setByte a v).bst = s.bst := rfl
@[simp] theorem State.setByte_thm (s : State) (a : Nat) (v : Byte) : (s.setByte a v).thm = s.thm := rfl
@[simp] theorem State.setByte_cores (s : State) (a : Nat) (v : Byte) : (s.setByte a v).cores = s.cores := rfl
@[simp] theorem State.setByte_can0 (s : State) (a : Nat) (v : Byte) : (s.setByte a v).can0 = s.can0 := rfl
@[simp] theorem State.setByte_can1 (s : State) (a : Nat) (v : Byte) : (s.setByte a v).can1 = s.can1 := rfl
@[simp] theorem State.setByte_hsp (s : State) (a : Nat) (v : Byte) : (s.setByte a v).hsp = s.hsp := rfl
@[simp] theorem State.setByte_kern (s : State) (a : Nat) (v : Byte) : (s.setByte a v).kern = s.kern := rfl
@[simp] theorem State.setByte_pins (s : State) (a : Nat) (v : Byte) : (s.setByte a v).pins = s.pins := rfl
@[simp] theorem State.setByte_free (s : State) (a : Nat) (v : Byte) : (s.setByte a v).free = s.free := rfl
@[simp] theorem State.setByte_pending (s : State) (a : Nat) (v : Byte) : (s.setByte a v).pending = s.pending := rfl

/-! `at`. -/
@[simp] theorem State.at_regs (s : State) (t : Nat) : (s.at t).regs = s.regs := rfl
@[simp] theorem State.at_shadow (s : State) (t : Nat) : (s.at t).shadow = s.shadow := rfl
@[simp] theorem State.at_mem (s : State) (t : Nat) : (s.at t).mem = s.mem := rfl
@[simp] theorem State.at_cpm (s : State) (t : Nat) : (s.at t).cpm = s.cpm := rfl
@[simp] theorem State.at_pwm (s : State) (t : Nat) : (s.at t).pwm = s.pwm := rfl
@[simp] theorem State.at_dis (s : State) (t : Nat) : (s.at t).dis = s.dis := rfl
@[simp] theorem State.at_sense (s : State) (t : Nat) : (s.at t).sense = s.sense := rfl
@[simp] theorem State.at_pos (s : State) (t : Nat) : (s.at t).pos = s.pos := rfl
@[simp] theorem State.at_cle (s : State) (t : Nat) : (s.at t).cle = s.cle := rfl
@[simp] theorem State.at_drive (s : State) (t : Nat) : (s.at t).drive = s.drive := rfl
@[simp] theorem State.at_sss (s : State) (t : Nat) : (s.at t).sss = s.sss := rfl
@[simp] theorem State.at_saf (s : State) (t : Nat) : (s.at t).saf = s.saf := rfl
@[simp] theorem State.at_ss1 (s : State) (t : Nat) : (s.at t).ss1 = s.ss1 := rfl
@[simp] theorem State.at_tmon (s : State) (t : Nat) : (s.at t).tmon = s.tmon := rfl
@[simp] theorem State.at_flt (s : State) (t : Nat) : (s.at t).flt = s.flt := rfl
@[simp] theorem State.at_ax0 (s : State) (t : Nat) : (s.at t).ax0 = s.ax0 := rfl
@[simp] theorem State.at_ax1 (s : State) (t : Nat) : (s.at t).ax1 = s.ax1 := rfl
@[simp] theorem State.at_gdn (s : State) (t : Nat) : (s.at t).gdn = s.gdn := rfl
@[simp] theorem State.at_hly (s : State) (t : Nat) : (s.at t).hly = s.hly := rfl
@[simp] theorem State.at_bst (s : State) (t : Nat) : (s.at t).bst = s.bst := rfl
@[simp] theorem State.at_thm (s : State) (t : Nat) : (s.at t).thm = s.thm := rfl
@[simp] theorem State.at_cores (s : State) (t : Nat) : (s.at t).cores = s.cores := rfl
@[simp] theorem State.at_can0 (s : State) (t : Nat) : (s.at t).can0 = s.can0 := rfl
@[simp] theorem State.at_can1 (s : State) (t : Nat) : (s.at t).can1 = s.can1 := rfl
@[simp] theorem State.at_hsp (s : State) (t : Nat) : (s.at t).hsp = s.hsp := rfl
@[simp] theorem State.at_kern (s : State) (t : Nat) : (s.at t).kern = s.kern := rfl
@[simp] theorem State.at_pins (s : State) (t : Nat) : (s.at t).pins = s.pins := rfl
@[simp] theorem State.at_free (s : State) (t : Nat) : (s.at t).free = s.free := rfl
@[simp] theorem State.at_pending (s : State) (t : Nat) : (s.at t).pending = s.pending := rfl

/-! `atF`. -/
@[simp] theorem State.atF_regs (s : State) (t : Nat) : (s.atF t).regs = s.regs := rfl
@[simp] theorem State.atF_shadow (s : State) (t : Nat) : (s.atF t).shadow = s.shadow := rfl
@[simp] theorem State.atF_mem (s : State) (t : Nat) : (s.atF t).mem = s.mem := rfl
@[simp] theorem State.atF_cpm (s : State) (t : Nat) : (s.atF t).cpm = s.cpm := rfl
@[simp] theorem State.atF_pwm (s : State) (t : Nat) : (s.atF t).pwm = s.pwm := rfl
@[simp] theorem State.atF_dis (s : State) (t : Nat) : (s.atF t).dis = s.dis := rfl
@[simp] theorem State.atF_sense (s : State) (t : Nat) : (s.atF t).sense = s.sense := rfl
@[simp] theorem State.atF_pos (s : State) (t : Nat) : (s.atF t).pos = s.pos := rfl
@[simp] theorem State.atF_cle (s : State) (t : Nat) : (s.atF t).cle = s.cle := rfl
@[simp] theorem State.atF_drive (s : State) (t : Nat) : (s.atF t).drive = s.drive := rfl
@[simp] theorem State.atF_sss (s : State) (t : Nat) : (s.atF t).sss = s.sss := rfl
@[simp] theorem State.atF_saf (s : State) (t : Nat) : (s.atF t).saf = s.saf := rfl
@[simp] theorem State.atF_ss1 (s : State) (t : Nat) : (s.atF t).ss1 = s.ss1 := rfl
@[simp] theorem State.atF_tmon (s : State) (t : Nat) : (s.atF t).tmon = s.tmon := rfl
@[simp] theorem State.atF_flt (s : State) (t : Nat) : (s.atF t).flt = s.flt := rfl
@[simp] theorem State.atF_ax0 (s : State) (t : Nat) : (s.atF t).ax0 = s.ax0 := rfl
@[simp] theorem State.atF_ax1 (s : State) (t : Nat) : (s.atF t).ax1 = s.ax1 := rfl
@[simp] theorem State.atF_gdn (s : State) (t : Nat) : (s.atF t).gdn = s.gdn := rfl
@[simp] theorem State.atF_hly (s : State) (t : Nat) : (s.atF t).hly = s.hly := rfl
@[simp] theorem State.atF_bst (s : State) (t : Nat) : (s.atF t).bst = s.bst := rfl
@[simp] theorem State.atF_thm (s : State) (t : Nat) : (s.atF t).thm = s.thm := rfl
@[simp] theorem State.atF_cores (s : State) (t : Nat) : (s.atF t).cores = s.cores := rfl
@[simp] theorem State.atF_can0 (s : State) (t : Nat) : (s.atF t).can0 = s.can0 := rfl
@[simp] theorem State.atF_can1 (s : State) (t : Nat) : (s.atF t).can1 = s.can1 := rfl
@[simp] theorem State.atF_hsp (s : State) (t : Nat) : (s.atF t).hsp = s.hsp := rfl
@[simp] theorem State.atF_kern (s : State) (t : Nat) : (s.atF t).kern = s.kern := rfl
@[simp] theorem State.atF_pins (s : State) (t : Nat) : (s.atF t).pins = s.pins := rfl
@[simp] theorem State.atF_free (s : State) (t : Nat) : (s.atF t).free = s.free := rfl
@[simp] theorem State.atF_pending (s : State) (t : Nat) : (s.atF t).pending = s.pending := rfl

/-! Settling the pins changes the pins alone. -/
@[simp] theorem settle_regs (s : State) : (settle s).regs = s.regs := rfl
@[simp] theorem settle_shadow (s : State) : (settle s).shadow = s.shadow := rfl
@[simp] theorem settle_mem (s : State) : (settle s).mem = s.mem := rfl
@[simp] theorem settle_hoi (s : State) : (settle s).hoi = s.hoi := rfl
@[simp] theorem settle_cpm (s : State) : (settle s).cpm = s.cpm := rfl
@[simp] theorem settle_pwm (s : State) : (settle s).pwm = s.pwm := rfl
@[simp] theorem settle_dis (s : State) : (settle s).dis = s.dis := rfl
@[simp] theorem settle_sense (s : State) : (settle s).sense = s.sense := rfl
@[simp] theorem settle_pos (s : State) : (settle s).pos = s.pos := rfl
@[simp] theorem settle_cle (s : State) : (settle s).cle = s.cle := rfl
@[simp] theorem settle_drive (s : State) : (settle s).drive = s.drive := rfl
@[simp] theorem settle_sss (s : State) : (settle s).sss = s.sss := rfl
@[simp] theorem settle_saf (s : State) : (settle s).saf = s.saf := rfl
@[simp] theorem settle_ss1 (s : State) : (settle s).ss1 = s.ss1 := rfl
@[simp] theorem settle_tmon (s : State) : (settle s).tmon = s.tmon := rfl
@[simp] theorem settle_flt (s : State) : (settle s).flt = s.flt := rfl
@[simp] theorem settle_ax0 (s : State) : (settle s).ax0 = s.ax0 := rfl
@[simp] theorem settle_ax1 (s : State) : (settle s).ax1 = s.ax1 := rfl
@[simp] theorem settle_gdn (s : State) : (settle s).gdn = s.gdn := rfl
@[simp] theorem settle_hly (s : State) : (settle s).hly = s.hly := rfl
@[simp] theorem settle_bst (s : State) : (settle s).bst = s.bst := rfl
@[simp] theorem settle_thm (s : State) : (settle s).thm = s.thm := rfl
@[simp] theorem settle_cores (s : State) : (settle s).cores = s.cores := rfl
@[simp] theorem settle_can0 (s : State) : (settle s).can0 = s.can0 := rfl
@[simp] theorem settle_can1 (s : State) : (settle s).can1 = s.can1 := rfl
@[simp] theorem settle_hsp (s : State) : (settle s).hsp = s.hsp := rfl
@[simp] theorem settle_kern (s : State) : (settle s).kern = s.kern := rfl
@[simp] theorem settle_free (s : State) : (settle s).free = s.free := rfl
@[simp] theorem settle_pending (s : State) : (settle s).pending = s.pending := rfl
@[simp] theorem settle_r (s : State) (k : Fld) : (settle s).r k = s.r k := rfl
@[simp] theorem settle_byte (s : State) (a : Nat) : (settle s).byte a = s.byte a := rfl
@[simp] theorem settle_shadowOf (s : State) (k : Fld) : (settle s).shadowOf k = s.shadowOf k := rfl

/-! The updates of one block's state. -/
@[simp] theorem State.modHoi_regs (s : State) (f : Hoi → Hoi) : (s.modHoi f).regs = s.regs := rfl
@[simp] theorem State.modHoi_shadow (s : State) (f : Hoi → Hoi) : (s.modHoi f).shadow = s.shadow := rfl
@[simp] theorem State.modHoi_mem (s : State) (f : Hoi → Hoi) : (s.modHoi f).mem = s.mem := rfl
@[simp] theorem State.modHoi_hoi (s : State) (f : Hoi → Hoi) : (s.modHoi f).hoi = f s.hoi := rfl
@[simp] theorem State.modHoi_cpm (s : State) (f : Hoi → Hoi) : (s.modHoi f).cpm = s.cpm := rfl
@[simp] theorem State.modHoi_pwm (s : State) (f : Hoi → Hoi) : (s.modHoi f).pwm = s.pwm := rfl
@[simp] theorem State.modHoi_dis (s : State) (f : Hoi → Hoi) : (s.modHoi f).dis = s.dis := rfl
@[simp] theorem State.modHoi_sense (s : State) (f : Hoi → Hoi) : (s.modHoi f).sense = s.sense := rfl
@[simp] theorem State.modHoi_pos (s : State) (f : Hoi → Hoi) : (s.modHoi f).pos = s.pos := rfl
@[simp] theorem State.modHoi_cle (s : State) (f : Hoi → Hoi) : (s.modHoi f).cle = s.cle := rfl
@[simp] theorem State.modHoi_drive (s : State) (f : Hoi → Hoi) : (s.modHoi f).drive = s.drive := rfl
@[simp] theorem State.modHoi_sss (s : State) (f : Hoi → Hoi) : (s.modHoi f).sss = s.sss := rfl
@[simp] theorem State.modHoi_saf (s : State) (f : Hoi → Hoi) : (s.modHoi f).saf = s.saf := rfl
@[simp] theorem State.modHoi_ss1 (s : State) (f : Hoi → Hoi) : (s.modHoi f).ss1 = s.ss1 := rfl
@[simp] theorem State.modHoi_tmon (s : State) (f : Hoi → Hoi) : (s.modHoi f).tmon = s.tmon := rfl
@[simp] theorem State.modHoi_flt (s : State) (f : Hoi → Hoi) : (s.modHoi f).flt = s.flt := rfl
@[simp] theorem State.modHoi_ax0 (s : State) (f : Hoi → Hoi) : (s.modHoi f).ax0 = s.ax0 := rfl
@[simp] theorem State.modHoi_ax1 (s : State) (f : Hoi → Hoi) : (s.modHoi f).ax1 = s.ax1 := rfl
@[simp] theorem State.modHoi_gdn (s : State) (f : Hoi → Hoi) : (s.modHoi f).gdn = s.gdn := rfl
@[simp] theorem State.modHoi_hly (s : State) (f : Hoi → Hoi) : (s.modHoi f).hly = s.hly := rfl
@[simp] theorem State.modHoi_bst (s : State) (f : Hoi → Hoi) : (s.modHoi f).bst = s.bst := rfl
@[simp] theorem State.modHoi_thm (s : State) (f : Hoi → Hoi) : (s.modHoi f).thm = s.thm := rfl
@[simp] theorem State.modHoi_cores (s : State) (f : Hoi → Hoi) : (s.modHoi f).cores = s.cores := rfl
@[simp] theorem State.modHoi_can0 (s : State) (f : Hoi → Hoi) : (s.modHoi f).can0 = s.can0 := rfl
@[simp] theorem State.modHoi_can1 (s : State) (f : Hoi → Hoi) : (s.modHoi f).can1 = s.can1 := rfl
@[simp] theorem State.modHoi_hsp (s : State) (f : Hoi → Hoi) : (s.modHoi f).hsp = s.hsp := rfl
@[simp] theorem State.modHoi_kern (s : State) (f : Hoi → Hoi) : (s.modHoi f).kern = s.kern := rfl
@[simp] theorem State.modHoi_pins (s : State) (f : Hoi → Hoi) : (s.modHoi f).pins = s.pins := rfl
@[simp] theorem State.modHoi_free (s : State) (f : Hoi → Hoi) : (s.modHoi f).free = s.free := rfl
@[simp] theorem State.modHoi_pending (s : State) (f : Hoi → Hoi) : (s.modHoi f).pending = s.pending := rfl
@[simp] theorem State.modHoi_r (s : State) (f : Hoi → Hoi) (k : Fld) : (s.modHoi f).r k = s.r k := rfl

@[simp] theorem State.modCpm_regs (s : State) (f : Cpm → Cpm) : (s.modCpm f).regs = s.regs := rfl
@[simp] theorem State.modCpm_shadow (s : State) (f : Cpm → Cpm) : (s.modCpm f).shadow = s.shadow := rfl
@[simp] theorem State.modCpm_mem (s : State) (f : Cpm → Cpm) : (s.modCpm f).mem = s.mem := rfl
@[simp] theorem State.modCpm_hoi (s : State) (f : Cpm → Cpm) : (s.modCpm f).hoi = s.hoi := rfl
@[simp] theorem State.modCpm_cpm (s : State) (f : Cpm → Cpm) : (s.modCpm f).cpm = f s.cpm := rfl
@[simp] theorem State.modCpm_pwm (s : State) (f : Cpm → Cpm) : (s.modCpm f).pwm = s.pwm := rfl
@[simp] theorem State.modCpm_dis (s : State) (f : Cpm → Cpm) : (s.modCpm f).dis = s.dis := rfl
@[simp] theorem State.modCpm_sense (s : State) (f : Cpm → Cpm) : (s.modCpm f).sense = s.sense := rfl
@[simp] theorem State.modCpm_pos (s : State) (f : Cpm → Cpm) : (s.modCpm f).pos = s.pos := rfl
@[simp] theorem State.modCpm_cle (s : State) (f : Cpm → Cpm) : (s.modCpm f).cle = s.cle := rfl
@[simp] theorem State.modCpm_drive (s : State) (f : Cpm → Cpm) : (s.modCpm f).drive = s.drive := rfl
@[simp] theorem State.modCpm_sss (s : State) (f : Cpm → Cpm) : (s.modCpm f).sss = s.sss := rfl
@[simp] theorem State.modCpm_saf (s : State) (f : Cpm → Cpm) : (s.modCpm f).saf = s.saf := rfl
@[simp] theorem State.modCpm_ss1 (s : State) (f : Cpm → Cpm) : (s.modCpm f).ss1 = s.ss1 := rfl
@[simp] theorem State.modCpm_tmon (s : State) (f : Cpm → Cpm) : (s.modCpm f).tmon = s.tmon := rfl
@[simp] theorem State.modCpm_flt (s : State) (f : Cpm → Cpm) : (s.modCpm f).flt = s.flt := rfl
@[simp] theorem State.modCpm_ax0 (s : State) (f : Cpm → Cpm) : (s.modCpm f).ax0 = s.ax0 := rfl
@[simp] theorem State.modCpm_ax1 (s : State) (f : Cpm → Cpm) : (s.modCpm f).ax1 = s.ax1 := rfl
@[simp] theorem State.modCpm_gdn (s : State) (f : Cpm → Cpm) : (s.modCpm f).gdn = s.gdn := rfl
@[simp] theorem State.modCpm_hly (s : State) (f : Cpm → Cpm) : (s.modCpm f).hly = s.hly := rfl
@[simp] theorem State.modCpm_bst (s : State) (f : Cpm → Cpm) : (s.modCpm f).bst = s.bst := rfl
@[simp] theorem State.modCpm_thm (s : State) (f : Cpm → Cpm) : (s.modCpm f).thm = s.thm := rfl
@[simp] theorem State.modCpm_cores (s : State) (f : Cpm → Cpm) : (s.modCpm f).cores = s.cores := rfl
@[simp] theorem State.modCpm_can0 (s : State) (f : Cpm → Cpm) : (s.modCpm f).can0 = s.can0 := rfl
@[simp] theorem State.modCpm_can1 (s : State) (f : Cpm → Cpm) : (s.modCpm f).can1 = s.can1 := rfl
@[simp] theorem State.modCpm_hsp (s : State) (f : Cpm → Cpm) : (s.modCpm f).hsp = s.hsp := rfl
@[simp] theorem State.modCpm_kern (s : State) (f : Cpm → Cpm) : (s.modCpm f).kern = s.kern := rfl
@[simp] theorem State.modCpm_pins (s : State) (f : Cpm → Cpm) : (s.modCpm f).pins = s.pins := rfl
@[simp] theorem State.modCpm_free (s : State) (f : Cpm → Cpm) : (s.modCpm f).free = s.free := rfl
@[simp] theorem State.modCpm_pending (s : State) (f : Cpm → Cpm) : (s.modCpm f).pending = s.pending := rfl
@[simp] theorem State.modCpm_r (s : State) (f : Cpm → Cpm) (k : Fld) : (s.modCpm f).r k = s.r k := rfl

@[simp] theorem State.modThm_regs (s : State) (f : Thm → Thm) : (s.modThm f).regs = s.regs := rfl
@[simp] theorem State.modThm_shadow (s : State) (f : Thm → Thm) : (s.modThm f).shadow = s.shadow := rfl
@[simp] theorem State.modThm_mem (s : State) (f : Thm → Thm) : (s.modThm f).mem = s.mem := rfl
@[simp] theorem State.modThm_hoi (s : State) (f : Thm → Thm) : (s.modThm f).hoi = s.hoi := rfl
@[simp] theorem State.modThm_cpm (s : State) (f : Thm → Thm) : (s.modThm f).cpm = s.cpm := rfl
@[simp] theorem State.modThm_pwm (s : State) (f : Thm → Thm) : (s.modThm f).pwm = s.pwm := rfl
@[simp] theorem State.modThm_dis (s : State) (f : Thm → Thm) : (s.modThm f).dis = s.dis := rfl
@[simp] theorem State.modThm_sense (s : State) (f : Thm → Thm) : (s.modThm f).sense = s.sense := rfl
@[simp] theorem State.modThm_pos (s : State) (f : Thm → Thm) : (s.modThm f).pos = s.pos := rfl
@[simp] theorem State.modThm_cle (s : State) (f : Thm → Thm) : (s.modThm f).cle = s.cle := rfl
@[simp] theorem State.modThm_drive (s : State) (f : Thm → Thm) : (s.modThm f).drive = s.drive := rfl
@[simp] theorem State.modThm_sss (s : State) (f : Thm → Thm) : (s.modThm f).sss = s.sss := rfl
@[simp] theorem State.modThm_saf (s : State) (f : Thm → Thm) : (s.modThm f).saf = s.saf := rfl
@[simp] theorem State.modThm_ss1 (s : State) (f : Thm → Thm) : (s.modThm f).ss1 = s.ss1 := rfl
@[simp] theorem State.modThm_tmon (s : State) (f : Thm → Thm) : (s.modThm f).tmon = s.tmon := rfl
@[simp] theorem State.modThm_flt (s : State) (f : Thm → Thm) : (s.modThm f).flt = s.flt := rfl
@[simp] theorem State.modThm_ax0 (s : State) (f : Thm → Thm) : (s.modThm f).ax0 = s.ax0 := rfl
@[simp] theorem State.modThm_ax1 (s : State) (f : Thm → Thm) : (s.modThm f).ax1 = s.ax1 := rfl
@[simp] theorem State.modThm_gdn (s : State) (f : Thm → Thm) : (s.modThm f).gdn = s.gdn := rfl
@[simp] theorem State.modThm_hly (s : State) (f : Thm → Thm) : (s.modThm f).hly = s.hly := rfl
@[simp] theorem State.modThm_bst (s : State) (f : Thm → Thm) : (s.modThm f).bst = s.bst := rfl
@[simp] theorem State.modThm_thm (s : State) (f : Thm → Thm) : (s.modThm f).thm = f s.thm := rfl
@[simp] theorem State.modThm_cores (s : State) (f : Thm → Thm) : (s.modThm f).cores = s.cores := rfl
@[simp] theorem State.modThm_can0 (s : State) (f : Thm → Thm) : (s.modThm f).can0 = s.can0 := rfl
@[simp] theorem State.modThm_can1 (s : State) (f : Thm → Thm) : (s.modThm f).can1 = s.can1 := rfl
@[simp] theorem State.modThm_hsp (s : State) (f : Thm → Thm) : (s.modThm f).hsp = s.hsp := rfl
@[simp] theorem State.modThm_kern (s : State) (f : Thm → Thm) : (s.modThm f).kern = s.kern := rfl
@[simp] theorem State.modThm_pins (s : State) (f : Thm → Thm) : (s.modThm f).pins = s.pins := rfl
@[simp] theorem State.modThm_free (s : State) (f : Thm → Thm) : (s.modThm f).free = s.free := rfl
@[simp] theorem State.modThm_pending (s : State) (f : Thm → Thm) : (s.modThm f).pending = s.pending := rfl
@[simp] theorem State.modThm_r (s : State) (f : Thm → Thm) (k : Fld) : (s.modThm f).r k = s.r k := rfl

@[simp] theorem State.modSaf_regs (s : State) (f : Saf → Saf) : (s.modSaf f).regs = s.regs := rfl
@[simp] theorem State.modSaf_shadow (s : State) (f : Saf → Saf) : (s.modSaf f).shadow = s.shadow := rfl
@[simp] theorem State.modSaf_mem (s : State) (f : Saf → Saf) : (s.modSaf f).mem = s.mem := rfl
@[simp] theorem State.modSaf_hoi (s : State) (f : Saf → Saf) : (s.modSaf f).hoi = s.hoi := rfl
@[simp] theorem State.modSaf_cpm (s : State) (f : Saf → Saf) : (s.modSaf f).cpm = s.cpm := rfl
@[simp] theorem State.modSaf_pwm (s : State) (f : Saf → Saf) : (s.modSaf f).pwm = s.pwm := rfl
@[simp] theorem State.modSaf_dis (s : State) (f : Saf → Saf) : (s.modSaf f).dis = s.dis := rfl
@[simp] theorem State.modSaf_sense (s : State) (f : Saf → Saf) : (s.modSaf f).sense = s.sense := rfl
@[simp] theorem State.modSaf_pos (s : State) (f : Saf → Saf) : (s.modSaf f).pos = s.pos := rfl
@[simp] theorem State.modSaf_cle (s : State) (f : Saf → Saf) : (s.modSaf f).cle = s.cle := rfl
@[simp] theorem State.modSaf_drive (s : State) (f : Saf → Saf) : (s.modSaf f).drive = s.drive := rfl
@[simp] theorem State.modSaf_sss (s : State) (f : Saf → Saf) : (s.modSaf f).sss = s.sss := rfl
@[simp] theorem State.modSaf_saf (s : State) (f : Saf → Saf) : (s.modSaf f).saf = f s.saf := rfl
@[simp] theorem State.modSaf_ss1 (s : State) (f : Saf → Saf) : (s.modSaf f).ss1 = s.ss1 := rfl
@[simp] theorem State.modSaf_tmon (s : State) (f : Saf → Saf) : (s.modSaf f).tmon = s.tmon := rfl
@[simp] theorem State.modSaf_flt (s : State) (f : Saf → Saf) : (s.modSaf f).flt = s.flt := rfl
@[simp] theorem State.modSaf_ax0 (s : State) (f : Saf → Saf) : (s.modSaf f).ax0 = s.ax0 := rfl
@[simp] theorem State.modSaf_ax1 (s : State) (f : Saf → Saf) : (s.modSaf f).ax1 = s.ax1 := rfl
@[simp] theorem State.modSaf_gdn (s : State) (f : Saf → Saf) : (s.modSaf f).gdn = s.gdn := rfl
@[simp] theorem State.modSaf_hly (s : State) (f : Saf → Saf) : (s.modSaf f).hly = s.hly := rfl
@[simp] theorem State.modSaf_bst (s : State) (f : Saf → Saf) : (s.modSaf f).bst = s.bst := rfl
@[simp] theorem State.modSaf_thm (s : State) (f : Saf → Saf) : (s.modSaf f).thm = s.thm := rfl
@[simp] theorem State.modSaf_cores (s : State) (f : Saf → Saf) : (s.modSaf f).cores = s.cores := rfl
@[simp] theorem State.modSaf_can0 (s : State) (f : Saf → Saf) : (s.modSaf f).can0 = s.can0 := rfl
@[simp] theorem State.modSaf_can1 (s : State) (f : Saf → Saf) : (s.modSaf f).can1 = s.can1 := rfl
@[simp] theorem State.modSaf_hsp (s : State) (f : Saf → Saf) : (s.modSaf f).hsp = s.hsp := rfl
@[simp] theorem State.modSaf_kern (s : State) (f : Saf → Saf) : (s.modSaf f).kern = s.kern := rfl
@[simp] theorem State.modSaf_pins (s : State) (f : Saf → Saf) : (s.modSaf f).pins = s.pins := rfl
@[simp] theorem State.modSaf_free (s : State) (f : Saf → Saf) : (s.modSaf f).free = s.free := rfl
@[simp] theorem State.modSaf_pending (s : State) (f : Saf → Saf) : (s.modSaf f).pending = s.pending := rfl
@[simp] theorem State.modSaf_r (s : State) (f : Saf → Saf) (k : Fld) : (s.modSaf f).r k = s.r k := rfl

@[simp] theorem State.modHsp_regs (s : State) (f : Hsp → Hsp) : (s.modHsp f).regs = s.regs := rfl
@[simp] theorem State.modHsp_shadow (s : State) (f : Hsp → Hsp) : (s.modHsp f).shadow = s.shadow := rfl
@[simp] theorem State.modHsp_mem (s : State) (f : Hsp → Hsp) : (s.modHsp f).mem = s.mem := rfl
@[simp] theorem State.modHsp_hoi (s : State) (f : Hsp → Hsp) : (s.modHsp f).hoi = s.hoi := rfl
@[simp] theorem State.modHsp_cpm (s : State) (f : Hsp → Hsp) : (s.modHsp f).cpm = s.cpm := rfl
@[simp] theorem State.modHsp_pwm (s : State) (f : Hsp → Hsp) : (s.modHsp f).pwm = s.pwm := rfl
@[simp] theorem State.modHsp_dis (s : State) (f : Hsp → Hsp) : (s.modHsp f).dis = s.dis := rfl
@[simp] theorem State.modHsp_sense (s : State) (f : Hsp → Hsp) : (s.modHsp f).sense = s.sense := rfl
@[simp] theorem State.modHsp_pos (s : State) (f : Hsp → Hsp) : (s.modHsp f).pos = s.pos := rfl
@[simp] theorem State.modHsp_cle (s : State) (f : Hsp → Hsp) : (s.modHsp f).cle = s.cle := rfl
@[simp] theorem State.modHsp_drive (s : State) (f : Hsp → Hsp) : (s.modHsp f).drive = s.drive := rfl
@[simp] theorem State.modHsp_sss (s : State) (f : Hsp → Hsp) : (s.modHsp f).sss = s.sss := rfl
@[simp] theorem State.modHsp_saf (s : State) (f : Hsp → Hsp) : (s.modHsp f).saf = s.saf := rfl
@[simp] theorem State.modHsp_ss1 (s : State) (f : Hsp → Hsp) : (s.modHsp f).ss1 = s.ss1 := rfl
@[simp] theorem State.modHsp_tmon (s : State) (f : Hsp → Hsp) : (s.modHsp f).tmon = s.tmon := rfl
@[simp] theorem State.modHsp_flt (s : State) (f : Hsp → Hsp) : (s.modHsp f).flt = s.flt := rfl
@[simp] theorem State.modHsp_ax0 (s : State) (f : Hsp → Hsp) : (s.modHsp f).ax0 = s.ax0 := rfl
@[simp] theorem State.modHsp_ax1 (s : State) (f : Hsp → Hsp) : (s.modHsp f).ax1 = s.ax1 := rfl
@[simp] theorem State.modHsp_gdn (s : State) (f : Hsp → Hsp) : (s.modHsp f).gdn = s.gdn := rfl
@[simp] theorem State.modHsp_hly (s : State) (f : Hsp → Hsp) : (s.modHsp f).hly = s.hly := rfl
@[simp] theorem State.modHsp_bst (s : State) (f : Hsp → Hsp) : (s.modHsp f).bst = s.bst := rfl
@[simp] theorem State.modHsp_thm (s : State) (f : Hsp → Hsp) : (s.modHsp f).thm = s.thm := rfl
@[simp] theorem State.modHsp_cores (s : State) (f : Hsp → Hsp) : (s.modHsp f).cores = s.cores := rfl
@[simp] theorem State.modHsp_can0 (s : State) (f : Hsp → Hsp) : (s.modHsp f).can0 = s.can0 := rfl
@[simp] theorem State.modHsp_can1 (s : State) (f : Hsp → Hsp) : (s.modHsp f).can1 = s.can1 := rfl
@[simp] theorem State.modHsp_hsp (s : State) (f : Hsp → Hsp) : (s.modHsp f).hsp = f s.hsp := rfl
@[simp] theorem State.modHsp_kern (s : State) (f : Hsp → Hsp) : (s.modHsp f).kern = s.kern := rfl
@[simp] theorem State.modHsp_pins (s : State) (f : Hsp → Hsp) : (s.modHsp f).pins = s.pins := rfl
@[simp] theorem State.modHsp_free (s : State) (f : Hsp → Hsp) : (s.modHsp f).free = s.free := rfl
@[simp] theorem State.modHsp_pending (s : State) (f : Hsp → Hsp) : (s.modHsp f).pending = s.pending := rfl
@[simp] theorem State.modHsp_r (s : State) (f : Hsp → Hsp) (k : Fld) : (s.modHsp f).r k = s.r k := rfl

@[simp] theorem State.modTmon_regs (s : State) (f : Tmon → Tmon) : (s.modTmon f).regs = s.regs := rfl
@[simp] theorem State.modTmon_shadow (s : State) (f : Tmon → Tmon) : (s.modTmon f).shadow = s.shadow := rfl
@[simp] theorem State.modTmon_mem (s : State) (f : Tmon → Tmon) : (s.modTmon f).mem = s.mem := rfl
@[simp] theorem State.modTmon_hoi (s : State) (f : Tmon → Tmon) : (s.modTmon f).hoi = s.hoi := rfl
@[simp] theorem State.modTmon_cpm (s : State) (f : Tmon → Tmon) : (s.modTmon f).cpm = s.cpm := rfl
@[simp] theorem State.modTmon_pwm (s : State) (f : Tmon → Tmon) : (s.modTmon f).pwm = s.pwm := rfl
@[simp] theorem State.modTmon_dis (s : State) (f : Tmon → Tmon) : (s.modTmon f).dis = s.dis := rfl
@[simp] theorem State.modTmon_sense (s : State) (f : Tmon → Tmon) : (s.modTmon f).sense = s.sense := rfl
@[simp] theorem State.modTmon_pos (s : State) (f : Tmon → Tmon) : (s.modTmon f).pos = s.pos := rfl
@[simp] theorem State.modTmon_cle (s : State) (f : Tmon → Tmon) : (s.modTmon f).cle = s.cle := rfl
@[simp] theorem State.modTmon_drive (s : State) (f : Tmon → Tmon) : (s.modTmon f).drive = s.drive := rfl
@[simp] theorem State.modTmon_sss (s : State) (f : Tmon → Tmon) : (s.modTmon f).sss = s.sss := rfl
@[simp] theorem State.modTmon_saf (s : State) (f : Tmon → Tmon) : (s.modTmon f).saf = s.saf := rfl
@[simp] theorem State.modTmon_ss1 (s : State) (f : Tmon → Tmon) : (s.modTmon f).ss1 = s.ss1 := rfl
@[simp] theorem State.modTmon_tmon (s : State) (f : Tmon → Tmon) : (s.modTmon f).tmon = f s.tmon := rfl
@[simp] theorem State.modTmon_flt (s : State) (f : Tmon → Tmon) : (s.modTmon f).flt = s.flt := rfl
@[simp] theorem State.modTmon_ax0 (s : State) (f : Tmon → Tmon) : (s.modTmon f).ax0 = s.ax0 := rfl
@[simp] theorem State.modTmon_ax1 (s : State) (f : Tmon → Tmon) : (s.modTmon f).ax1 = s.ax1 := rfl
@[simp] theorem State.modTmon_gdn (s : State) (f : Tmon → Tmon) : (s.modTmon f).gdn = s.gdn := rfl
@[simp] theorem State.modTmon_hly (s : State) (f : Tmon → Tmon) : (s.modTmon f).hly = s.hly := rfl
@[simp] theorem State.modTmon_bst (s : State) (f : Tmon → Tmon) : (s.modTmon f).bst = s.bst := rfl
@[simp] theorem State.modTmon_thm (s : State) (f : Tmon → Tmon) : (s.modTmon f).thm = s.thm := rfl
@[simp] theorem State.modTmon_cores (s : State) (f : Tmon → Tmon) : (s.modTmon f).cores = s.cores := rfl
@[simp] theorem State.modTmon_can0 (s : State) (f : Tmon → Tmon) : (s.modTmon f).can0 = s.can0 := rfl
@[simp] theorem State.modTmon_can1 (s : State) (f : Tmon → Tmon) : (s.modTmon f).can1 = s.can1 := rfl
@[simp] theorem State.modTmon_hsp (s : State) (f : Tmon → Tmon) : (s.modTmon f).hsp = s.hsp := rfl
@[simp] theorem State.modTmon_kern (s : State) (f : Tmon → Tmon) : (s.modTmon f).kern = s.kern := rfl
@[simp] theorem State.modTmon_pins (s : State) (f : Tmon → Tmon) : (s.modTmon f).pins = s.pins := rfl
@[simp] theorem State.modTmon_free (s : State) (f : Tmon → Tmon) : (s.modTmon f).free = s.free := rfl
@[simp] theorem State.modTmon_pending (s : State) (f : Tmon → Tmon) : (s.modTmon f).pending = s.pending := rfl
@[simp] theorem State.modTmon_r (s : State) (f : Tmon → Tmon) (k : Fld) : (s.modTmon f).r k = s.r k := rfl

@[simp] theorem State.modHly_regs (s : State) (f : Hly → Hly) : (s.modHly f).regs = s.regs := rfl
@[simp] theorem State.modHly_shadow (s : State) (f : Hly → Hly) : (s.modHly f).shadow = s.shadow := rfl
@[simp] theorem State.modHly_mem (s : State) (f : Hly → Hly) : (s.modHly f).mem = s.mem := rfl
@[simp] theorem State.modHly_hoi (s : State) (f : Hly → Hly) : (s.modHly f).hoi = s.hoi := rfl
@[simp] theorem State.modHly_cpm (s : State) (f : Hly → Hly) : (s.modHly f).cpm = s.cpm := rfl
@[simp] theorem State.modHly_pwm (s : State) (f : Hly → Hly) : (s.modHly f).pwm = s.pwm := rfl
@[simp] theorem State.modHly_dis (s : State) (f : Hly → Hly) : (s.modHly f).dis = s.dis := rfl
@[simp] theorem State.modHly_sense (s : State) (f : Hly → Hly) : (s.modHly f).sense = s.sense := rfl
@[simp] theorem State.modHly_pos (s : State) (f : Hly → Hly) : (s.modHly f).pos = s.pos := rfl
@[simp] theorem State.modHly_cle (s : State) (f : Hly → Hly) : (s.modHly f).cle = s.cle := rfl
@[simp] theorem State.modHly_drive (s : State) (f : Hly → Hly) : (s.modHly f).drive = s.drive := rfl
@[simp] theorem State.modHly_sss (s : State) (f : Hly → Hly) : (s.modHly f).sss = s.sss := rfl
@[simp] theorem State.modHly_saf (s : State) (f : Hly → Hly) : (s.modHly f).saf = s.saf := rfl
@[simp] theorem State.modHly_ss1 (s : State) (f : Hly → Hly) : (s.modHly f).ss1 = s.ss1 := rfl
@[simp] theorem State.modHly_tmon (s : State) (f : Hly → Hly) : (s.modHly f).tmon = s.tmon := rfl
@[simp] theorem State.modHly_flt (s : State) (f : Hly → Hly) : (s.modHly f).flt = s.flt := rfl
@[simp] theorem State.modHly_ax0 (s : State) (f : Hly → Hly) : (s.modHly f).ax0 = s.ax0 := rfl
@[simp] theorem State.modHly_ax1 (s : State) (f : Hly → Hly) : (s.modHly f).ax1 = s.ax1 := rfl
@[simp] theorem State.modHly_gdn (s : State) (f : Hly → Hly) : (s.modHly f).gdn = s.gdn := rfl
@[simp] theorem State.modHly_hly (s : State) (f : Hly → Hly) : (s.modHly f).hly = f s.hly := rfl
@[simp] theorem State.modHly_bst (s : State) (f : Hly → Hly) : (s.modHly f).bst = s.bst := rfl
@[simp] theorem State.modHly_thm (s : State) (f : Hly → Hly) : (s.modHly f).thm = s.thm := rfl
@[simp] theorem State.modHly_cores (s : State) (f : Hly → Hly) : (s.modHly f).cores = s.cores := rfl
@[simp] theorem State.modHly_can0 (s : State) (f : Hly → Hly) : (s.modHly f).can0 = s.can0 := rfl
@[simp] theorem State.modHly_can1 (s : State) (f : Hly → Hly) : (s.modHly f).can1 = s.can1 := rfl
@[simp] theorem State.modHly_hsp (s : State) (f : Hly → Hly) : (s.modHly f).hsp = s.hsp := rfl
@[simp] theorem State.modHly_kern (s : State) (f : Hly → Hly) : (s.modHly f).kern = s.kern := rfl
@[simp] theorem State.modHly_pins (s : State) (f : Hly → Hly) : (s.modHly f).pins = s.pins := rfl
@[simp] theorem State.modHly_free (s : State) (f : Hly → Hly) : (s.modHly f).free = s.free := rfl
@[simp] theorem State.modHly_pending (s : State) (f : Hly → Hly) : (s.modHly f).pending = s.pending := rfl
@[simp] theorem State.modHly_r (s : State) (f : Hly → Hly) (k : Fld) : (s.modHly f).r k = s.r k := rfl

@[simp] theorem State.modCores_regs (s : State) (f : Cores → Cores) : (s.modCores f).regs = s.regs := rfl
@[simp] theorem State.modCores_shadow (s : State) (f : Cores → Cores) : (s.modCores f).shadow = s.shadow := rfl
@[simp] theorem State.modCores_mem (s : State) (f : Cores → Cores) : (s.modCores f).mem = s.mem := rfl
@[simp] theorem State.modCores_hoi (s : State) (f : Cores → Cores) : (s.modCores f).hoi = s.hoi := rfl
@[simp] theorem State.modCores_cpm (s : State) (f : Cores → Cores) : (s.modCores f).cpm = s.cpm := rfl
@[simp] theorem State.modCores_pwm (s : State) (f : Cores → Cores) : (s.modCores f).pwm = s.pwm := rfl
@[simp] theorem State.modCores_dis (s : State) (f : Cores → Cores) : (s.modCores f).dis = s.dis := rfl
@[simp] theorem State.modCores_sense (s : State) (f : Cores → Cores) : (s.modCores f).sense = s.sense := rfl
@[simp] theorem State.modCores_pos (s : State) (f : Cores → Cores) : (s.modCores f).pos = s.pos := rfl
@[simp] theorem State.modCores_cle (s : State) (f : Cores → Cores) : (s.modCores f).cle = s.cle := rfl
@[simp] theorem State.modCores_drive (s : State) (f : Cores → Cores) : (s.modCores f).drive = s.drive := rfl
@[simp] theorem State.modCores_sss (s : State) (f : Cores → Cores) : (s.modCores f).sss = s.sss := rfl
@[simp] theorem State.modCores_saf (s : State) (f : Cores → Cores) : (s.modCores f).saf = s.saf := rfl
@[simp] theorem State.modCores_ss1 (s : State) (f : Cores → Cores) : (s.modCores f).ss1 = s.ss1 := rfl
@[simp] theorem State.modCores_tmon (s : State) (f : Cores → Cores) : (s.modCores f).tmon = s.tmon := rfl
@[simp] theorem State.modCores_flt (s : State) (f : Cores → Cores) : (s.modCores f).flt = s.flt := rfl
@[simp] theorem State.modCores_ax0 (s : State) (f : Cores → Cores) : (s.modCores f).ax0 = s.ax0 := rfl
@[simp] theorem State.modCores_ax1 (s : State) (f : Cores → Cores) : (s.modCores f).ax1 = s.ax1 := rfl
@[simp] theorem State.modCores_gdn (s : State) (f : Cores → Cores) : (s.modCores f).gdn = s.gdn := rfl
@[simp] theorem State.modCores_hly (s : State) (f : Cores → Cores) : (s.modCores f).hly = s.hly := rfl
@[simp] theorem State.modCores_bst (s : State) (f : Cores → Cores) : (s.modCores f).bst = s.bst := rfl
@[simp] theorem State.modCores_thm (s : State) (f : Cores → Cores) : (s.modCores f).thm = s.thm := rfl
@[simp] theorem State.modCores_cores (s : State) (f : Cores → Cores) : (s.modCores f).cores = f s.cores := rfl
@[simp] theorem State.modCores_can0 (s : State) (f : Cores → Cores) : (s.modCores f).can0 = s.can0 := rfl
@[simp] theorem State.modCores_can1 (s : State) (f : Cores → Cores) : (s.modCores f).can1 = s.can1 := rfl
@[simp] theorem State.modCores_hsp (s : State) (f : Cores → Cores) : (s.modCores f).hsp = s.hsp := rfl
@[simp] theorem State.modCores_kern (s : State) (f : Cores → Cores) : (s.modCores f).kern = s.kern := rfl
@[simp] theorem State.modCores_pins (s : State) (f : Cores → Cores) : (s.modCores f).pins = s.pins := rfl
@[simp] theorem State.modCores_free (s : State) (f : Cores → Cores) : (s.modCores f).free = s.free := rfl
@[simp] theorem State.modCores_pending (s : State) (f : Cores → Cores) : (s.modCores f).pending = s.pending := rfl
@[simp] theorem State.modCores_r (s : State) (f : Cores → Cores) (k : Fld) : (s.modCores f).r k = s.r k := rfl

@[simp] theorem State.modSss_regs (s : State) (f : Sss → Sss) : (s.modSss f).regs = s.regs := rfl
@[simp] theorem State.modSss_shadow (s : State) (f : Sss → Sss) : (s.modSss f).shadow = s.shadow := rfl
@[simp] theorem State.modSss_mem (s : State) (f : Sss → Sss) : (s.modSss f).mem = s.mem := rfl
@[simp] theorem State.modSss_hoi (s : State) (f : Sss → Sss) : (s.modSss f).hoi = s.hoi := rfl
@[simp] theorem State.modSss_cpm (s : State) (f : Sss → Sss) : (s.modSss f).cpm = s.cpm := rfl
@[simp] theorem State.modSss_pwm (s : State) (f : Sss → Sss) : (s.modSss f).pwm = s.pwm := rfl
@[simp] theorem State.modSss_dis (s : State) (f : Sss → Sss) : (s.modSss f).dis = s.dis := rfl
@[simp] theorem State.modSss_sense (s : State) (f : Sss → Sss) : (s.modSss f).sense = s.sense := rfl
@[simp] theorem State.modSss_pos (s : State) (f : Sss → Sss) : (s.modSss f).pos = s.pos := rfl
@[simp] theorem State.modSss_cle (s : State) (f : Sss → Sss) : (s.modSss f).cle = s.cle := rfl
@[simp] theorem State.modSss_drive (s : State) (f : Sss → Sss) : (s.modSss f).drive = s.drive := rfl
@[simp] theorem State.modSss_sss (s : State) (f : Sss → Sss) : (s.modSss f).sss = f s.sss := rfl
@[simp] theorem State.modSss_saf (s : State) (f : Sss → Sss) : (s.modSss f).saf = s.saf := rfl
@[simp] theorem State.modSss_ss1 (s : State) (f : Sss → Sss) : (s.modSss f).ss1 = s.ss1 := rfl
@[simp] theorem State.modSss_tmon (s : State) (f : Sss → Sss) : (s.modSss f).tmon = s.tmon := rfl
@[simp] theorem State.modSss_flt (s : State) (f : Sss → Sss) : (s.modSss f).flt = s.flt := rfl
@[simp] theorem State.modSss_ax0 (s : State) (f : Sss → Sss) : (s.modSss f).ax0 = s.ax0 := rfl
@[simp] theorem State.modSss_ax1 (s : State) (f : Sss → Sss) : (s.modSss f).ax1 = s.ax1 := rfl
@[simp] theorem State.modSss_gdn (s : State) (f : Sss → Sss) : (s.modSss f).gdn = s.gdn := rfl
@[simp] theorem State.modSss_hly (s : State) (f : Sss → Sss) : (s.modSss f).hly = s.hly := rfl
@[simp] theorem State.modSss_bst (s : State) (f : Sss → Sss) : (s.modSss f).bst = s.bst := rfl
@[simp] theorem State.modSss_thm (s : State) (f : Sss → Sss) : (s.modSss f).thm = s.thm := rfl
@[simp] theorem State.modSss_cores (s : State) (f : Sss → Sss) : (s.modSss f).cores = s.cores := rfl
@[simp] theorem State.modSss_can0 (s : State) (f : Sss → Sss) : (s.modSss f).can0 = s.can0 := rfl
@[simp] theorem State.modSss_can1 (s : State) (f : Sss → Sss) : (s.modSss f).can1 = s.can1 := rfl
@[simp] theorem State.modSss_hsp (s : State) (f : Sss → Sss) : (s.modSss f).hsp = s.hsp := rfl
@[simp] theorem State.modSss_kern (s : State) (f : Sss → Sss) : (s.modSss f).kern = s.kern := rfl
@[simp] theorem State.modSss_pins (s : State) (f : Sss → Sss) : (s.modSss f).pins = s.pins := rfl
@[simp] theorem State.modSss_free (s : State) (f : Sss → Sss) : (s.modSss f).free = s.free := rfl
@[simp] theorem State.modSss_pending (s : State) (f : Sss → Sss) : (s.modSss f).pending = s.pending := rfl
@[simp] theorem State.modSss_r (s : State) (f : Sss → Sss) (k : Fld) : (s.modSss f).r k = s.r k := rfl

@[simp] theorem State.modDrive_regs (s : State) (f : Drive → Drive) : (s.modDrive f).regs = s.regs := rfl
@[simp] theorem State.modDrive_shadow (s : State) (f : Drive → Drive) : (s.modDrive f).shadow = s.shadow := rfl
@[simp] theorem State.modDrive_mem (s : State) (f : Drive → Drive) : (s.modDrive f).mem = s.mem := rfl
@[simp] theorem State.modDrive_hoi (s : State) (f : Drive → Drive) : (s.modDrive f).hoi = s.hoi := rfl
@[simp] theorem State.modDrive_cpm (s : State) (f : Drive → Drive) : (s.modDrive f).cpm = s.cpm := rfl
@[simp] theorem State.modDrive_pwm (s : State) (f : Drive → Drive) : (s.modDrive f).pwm = s.pwm := rfl
@[simp] theorem State.modDrive_dis (s : State) (f : Drive → Drive) : (s.modDrive f).dis = s.dis := rfl
@[simp] theorem State.modDrive_sense (s : State) (f : Drive → Drive) : (s.modDrive f).sense = s.sense := rfl
@[simp] theorem State.modDrive_pos (s : State) (f : Drive → Drive) : (s.modDrive f).pos = s.pos := rfl
@[simp] theorem State.modDrive_cle (s : State) (f : Drive → Drive) : (s.modDrive f).cle = s.cle := rfl
@[simp] theorem State.modDrive_drive (s : State) (f : Drive → Drive) : (s.modDrive f).drive = f s.drive := rfl
@[simp] theorem State.modDrive_sss (s : State) (f : Drive → Drive) : (s.modDrive f).sss = s.sss := rfl
@[simp] theorem State.modDrive_saf (s : State) (f : Drive → Drive) : (s.modDrive f).saf = s.saf := rfl
@[simp] theorem State.modDrive_ss1 (s : State) (f : Drive → Drive) : (s.modDrive f).ss1 = s.ss1 := rfl
@[simp] theorem State.modDrive_tmon (s : State) (f : Drive → Drive) : (s.modDrive f).tmon = s.tmon := rfl
@[simp] theorem State.modDrive_flt (s : State) (f : Drive → Drive) : (s.modDrive f).flt = s.flt := rfl
@[simp] theorem State.modDrive_ax0 (s : State) (f : Drive → Drive) : (s.modDrive f).ax0 = s.ax0 := rfl
@[simp] theorem State.modDrive_ax1 (s : State) (f : Drive → Drive) : (s.modDrive f).ax1 = s.ax1 := rfl
@[simp] theorem State.modDrive_gdn (s : State) (f : Drive → Drive) : (s.modDrive f).gdn = s.gdn := rfl
@[simp] theorem State.modDrive_hly (s : State) (f : Drive → Drive) : (s.modDrive f).hly = s.hly := rfl
@[simp] theorem State.modDrive_bst (s : State) (f : Drive → Drive) : (s.modDrive f).bst = s.bst := rfl
@[simp] theorem State.modDrive_thm (s : State) (f : Drive → Drive) : (s.modDrive f).thm = s.thm := rfl
@[simp] theorem State.modDrive_cores (s : State) (f : Drive → Drive) : (s.modDrive f).cores = s.cores := rfl
@[simp] theorem State.modDrive_can0 (s : State) (f : Drive → Drive) : (s.modDrive f).can0 = s.can0 := rfl
@[simp] theorem State.modDrive_can1 (s : State) (f : Drive → Drive) : (s.modDrive f).can1 = s.can1 := rfl
@[simp] theorem State.modDrive_hsp (s : State) (f : Drive → Drive) : (s.modDrive f).hsp = s.hsp := rfl
@[simp] theorem State.modDrive_kern (s : State) (f : Drive → Drive) : (s.modDrive f).kern = s.kern := rfl
@[simp] theorem State.modDrive_pins (s : State) (f : Drive → Drive) : (s.modDrive f).pins = s.pins := rfl
@[simp] theorem State.modDrive_free (s : State) (f : Drive → Drive) : (s.modDrive f).free = s.free := rfl
@[simp] theorem State.modDrive_pending (s : State) (f : Drive → Drive) : (s.modDrive f).pending = s.pending := rfl
@[simp] theorem State.modDrive_r (s : State) (f : Drive → Drive) (k : Fld) : (s.modDrive f).r k = s.r k := rfl

@[simp] theorem State.modCle_regs (s : State) (f : Cle → Cle) : (s.modCle f).regs = s.regs := rfl
@[simp] theorem State.modCle_shadow (s : State) (f : Cle → Cle) : (s.modCle f).shadow = s.shadow := rfl
@[simp] theorem State.modCle_mem (s : State) (f : Cle → Cle) : (s.modCle f).mem = s.mem := rfl
@[simp] theorem State.modCle_hoi (s : State) (f : Cle → Cle) : (s.modCle f).hoi = s.hoi := rfl
@[simp] theorem State.modCle_cpm (s : State) (f : Cle → Cle) : (s.modCle f).cpm = s.cpm := rfl
@[simp] theorem State.modCle_pwm (s : State) (f : Cle → Cle) : (s.modCle f).pwm = s.pwm := rfl
@[simp] theorem State.modCle_dis (s : State) (f : Cle → Cle) : (s.modCle f).dis = s.dis := rfl
@[simp] theorem State.modCle_sense (s : State) (f : Cle → Cle) : (s.modCle f).sense = s.sense := rfl
@[simp] theorem State.modCle_pos (s : State) (f : Cle → Cle) : (s.modCle f).pos = s.pos := rfl
@[simp] theorem State.modCle_cle (s : State) (f : Cle → Cle) : (s.modCle f).cle = f s.cle := rfl
@[simp] theorem State.modCle_drive (s : State) (f : Cle → Cle) : (s.modCle f).drive = s.drive := rfl
@[simp] theorem State.modCle_sss (s : State) (f : Cle → Cle) : (s.modCle f).sss = s.sss := rfl
@[simp] theorem State.modCle_saf (s : State) (f : Cle → Cle) : (s.modCle f).saf = s.saf := rfl
@[simp] theorem State.modCle_ss1 (s : State) (f : Cle → Cle) : (s.modCle f).ss1 = s.ss1 := rfl
@[simp] theorem State.modCle_tmon (s : State) (f : Cle → Cle) : (s.modCle f).tmon = s.tmon := rfl
@[simp] theorem State.modCle_flt (s : State) (f : Cle → Cle) : (s.modCle f).flt = s.flt := rfl
@[simp] theorem State.modCle_ax0 (s : State) (f : Cle → Cle) : (s.modCle f).ax0 = s.ax0 := rfl
@[simp] theorem State.modCle_ax1 (s : State) (f : Cle → Cle) : (s.modCle f).ax1 = s.ax1 := rfl
@[simp] theorem State.modCle_gdn (s : State) (f : Cle → Cle) : (s.modCle f).gdn = s.gdn := rfl
@[simp] theorem State.modCle_hly (s : State) (f : Cle → Cle) : (s.modCle f).hly = s.hly := rfl
@[simp] theorem State.modCle_bst (s : State) (f : Cle → Cle) : (s.modCle f).bst = s.bst := rfl
@[simp] theorem State.modCle_thm (s : State) (f : Cle → Cle) : (s.modCle f).thm = s.thm := rfl
@[simp] theorem State.modCle_cores (s : State) (f : Cle → Cle) : (s.modCle f).cores = s.cores := rfl
@[simp] theorem State.modCle_can0 (s : State) (f : Cle → Cle) : (s.modCle f).can0 = s.can0 := rfl
@[simp] theorem State.modCle_can1 (s : State) (f : Cle → Cle) : (s.modCle f).can1 = s.can1 := rfl
@[simp] theorem State.modCle_hsp (s : State) (f : Cle → Cle) : (s.modCle f).hsp = s.hsp := rfl
@[simp] theorem State.modCle_kern (s : State) (f : Cle → Cle) : (s.modCle f).kern = s.kern := rfl
@[simp] theorem State.modCle_pins (s : State) (f : Cle → Cle) : (s.modCle f).pins = s.pins := rfl
@[simp] theorem State.modCle_free (s : State) (f : Cle → Cle) : (s.modCle f).free = s.free := rfl
@[simp] theorem State.modCle_pending (s : State) (f : Cle → Cle) : (s.modCle f).pending = s.pending := rfl
@[simp] theorem State.modCle_r (s : State) (f : Cle → Cle) (k : Fld) : (s.modCle f).r k = s.r k := rfl

@[simp] theorem State.modSense_regs (s : State) (f : Sense → Sense) : (s.modSense f).regs = s.regs := rfl
@[simp] theorem State.modSense_shadow (s : State) (f : Sense → Sense) : (s.modSense f).shadow = s.shadow := rfl
@[simp] theorem State.modSense_mem (s : State) (f : Sense → Sense) : (s.modSense f).mem = s.mem := rfl
@[simp] theorem State.modSense_hoi (s : State) (f : Sense → Sense) : (s.modSense f).hoi = s.hoi := rfl
@[simp] theorem State.modSense_cpm (s : State) (f : Sense → Sense) : (s.modSense f).cpm = s.cpm := rfl
@[simp] theorem State.modSense_pwm (s : State) (f : Sense → Sense) : (s.modSense f).pwm = s.pwm := rfl
@[simp] theorem State.modSense_dis (s : State) (f : Sense → Sense) : (s.modSense f).dis = s.dis := rfl
@[simp] theorem State.modSense_sense (s : State) (f : Sense → Sense) : (s.modSense f).sense = f s.sense := rfl
@[simp] theorem State.modSense_pos (s : State) (f : Sense → Sense) : (s.modSense f).pos = s.pos := rfl
@[simp] theorem State.modSense_cle (s : State) (f : Sense → Sense) : (s.modSense f).cle = s.cle := rfl
@[simp] theorem State.modSense_drive (s : State) (f : Sense → Sense) : (s.modSense f).drive = s.drive := rfl
@[simp] theorem State.modSense_sss (s : State) (f : Sense → Sense) : (s.modSense f).sss = s.sss := rfl
@[simp] theorem State.modSense_saf (s : State) (f : Sense → Sense) : (s.modSense f).saf = s.saf := rfl
@[simp] theorem State.modSense_ss1 (s : State) (f : Sense → Sense) : (s.modSense f).ss1 = s.ss1 := rfl
@[simp] theorem State.modSense_tmon (s : State) (f : Sense → Sense) : (s.modSense f).tmon = s.tmon := rfl
@[simp] theorem State.modSense_flt (s : State) (f : Sense → Sense) : (s.modSense f).flt = s.flt := rfl
@[simp] theorem State.modSense_ax0 (s : State) (f : Sense → Sense) : (s.modSense f).ax0 = s.ax0 := rfl
@[simp] theorem State.modSense_ax1 (s : State) (f : Sense → Sense) : (s.modSense f).ax1 = s.ax1 := rfl
@[simp] theorem State.modSense_gdn (s : State) (f : Sense → Sense) : (s.modSense f).gdn = s.gdn := rfl
@[simp] theorem State.modSense_hly (s : State) (f : Sense → Sense) : (s.modSense f).hly = s.hly := rfl
@[simp] theorem State.modSense_bst (s : State) (f : Sense → Sense) : (s.modSense f).bst = s.bst := rfl
@[simp] theorem State.modSense_thm (s : State) (f : Sense → Sense) : (s.modSense f).thm = s.thm := rfl
@[simp] theorem State.modSense_cores (s : State) (f : Sense → Sense) : (s.modSense f).cores = s.cores := rfl
@[simp] theorem State.modSense_can0 (s : State) (f : Sense → Sense) : (s.modSense f).can0 = s.can0 := rfl
@[simp] theorem State.modSense_can1 (s : State) (f : Sense → Sense) : (s.modSense f).can1 = s.can1 := rfl
@[simp] theorem State.modSense_hsp (s : State) (f : Sense → Sense) : (s.modSense f).hsp = s.hsp := rfl
@[simp] theorem State.modSense_kern (s : State) (f : Sense → Sense) : (s.modSense f).kern = s.kern := rfl
@[simp] theorem State.modSense_pins (s : State) (f : Sense → Sense) : (s.modSense f).pins = s.pins := rfl
@[simp] theorem State.modSense_free (s : State) (f : Sense → Sense) : (s.modSense f).free = s.free := rfl
@[simp] theorem State.modSense_pending (s : State) (f : Sense → Sense) : (s.modSense f).pending = s.pending := rfl
@[simp] theorem State.modSense_r (s : State) (f : Sense → Sense) (k : Fld) : (s.modSense f).r k = s.r k := rfl

@[simp] theorem State.modFlt_regs (s : State) (f : Flt → Flt) : (s.modFlt f).regs = s.regs := rfl
@[simp] theorem State.modFlt_shadow (s : State) (f : Flt → Flt) : (s.modFlt f).shadow = s.shadow := rfl
@[simp] theorem State.modFlt_mem (s : State) (f : Flt → Flt) : (s.modFlt f).mem = s.mem := rfl
@[simp] theorem State.modFlt_hoi (s : State) (f : Flt → Flt) : (s.modFlt f).hoi = s.hoi := rfl
@[simp] theorem State.modFlt_cpm (s : State) (f : Flt → Flt) : (s.modFlt f).cpm = s.cpm := rfl
@[simp] theorem State.modFlt_pwm (s : State) (f : Flt → Flt) : (s.modFlt f).pwm = s.pwm := rfl
@[simp] theorem State.modFlt_dis (s : State) (f : Flt → Flt) : (s.modFlt f).dis = s.dis := rfl
@[simp] theorem State.modFlt_sense (s : State) (f : Flt → Flt) : (s.modFlt f).sense = s.sense := rfl
@[simp] theorem State.modFlt_pos (s : State) (f : Flt → Flt) : (s.modFlt f).pos = s.pos := rfl
@[simp] theorem State.modFlt_cle (s : State) (f : Flt → Flt) : (s.modFlt f).cle = s.cle := rfl
@[simp] theorem State.modFlt_drive (s : State) (f : Flt → Flt) : (s.modFlt f).drive = s.drive := rfl
@[simp] theorem State.modFlt_sss (s : State) (f : Flt → Flt) : (s.modFlt f).sss = s.sss := rfl
@[simp] theorem State.modFlt_saf (s : State) (f : Flt → Flt) : (s.modFlt f).saf = s.saf := rfl
@[simp] theorem State.modFlt_ss1 (s : State) (f : Flt → Flt) : (s.modFlt f).ss1 = s.ss1 := rfl
@[simp] theorem State.modFlt_tmon (s : State) (f : Flt → Flt) : (s.modFlt f).tmon = s.tmon := rfl
@[simp] theorem State.modFlt_flt (s : State) (f : Flt → Flt) : (s.modFlt f).flt = f s.flt := rfl
@[simp] theorem State.modFlt_ax0 (s : State) (f : Flt → Flt) : (s.modFlt f).ax0 = s.ax0 := rfl
@[simp] theorem State.modFlt_ax1 (s : State) (f : Flt → Flt) : (s.modFlt f).ax1 = s.ax1 := rfl
@[simp] theorem State.modFlt_gdn (s : State) (f : Flt → Flt) : (s.modFlt f).gdn = s.gdn := rfl
@[simp] theorem State.modFlt_hly (s : State) (f : Flt → Flt) : (s.modFlt f).hly = s.hly := rfl
@[simp] theorem State.modFlt_bst (s : State) (f : Flt → Flt) : (s.modFlt f).bst = s.bst := rfl
@[simp] theorem State.modFlt_thm (s : State) (f : Flt → Flt) : (s.modFlt f).thm = s.thm := rfl
@[simp] theorem State.modFlt_cores (s : State) (f : Flt → Flt) : (s.modFlt f).cores = s.cores := rfl
@[simp] theorem State.modFlt_can0 (s : State) (f : Flt → Flt) : (s.modFlt f).can0 = s.can0 := rfl
@[simp] theorem State.modFlt_can1 (s : State) (f : Flt → Flt) : (s.modFlt f).can1 = s.can1 := rfl
@[simp] theorem State.modFlt_hsp (s : State) (f : Flt → Flt) : (s.modFlt f).hsp = s.hsp := rfl
@[simp] theorem State.modFlt_kern (s : State) (f : Flt → Flt) : (s.modFlt f).kern = s.kern := rfl
@[simp] theorem State.modFlt_pins (s : State) (f : Flt → Flt) : (s.modFlt f).pins = s.pins := rfl
@[simp] theorem State.modFlt_free (s : State) (f : Flt → Flt) : (s.modFlt f).free = s.free := rfl
@[simp] theorem State.modFlt_pending (s : State) (f : Flt → Flt) : (s.modFlt f).pending = s.pending := rfl
@[simp] theorem State.modFlt_r (s : State) (f : Flt → Flt) (k : Fld) : (s.modFlt f).r k = s.r k := rfl

@[simp] theorem State.modPos_regs (s : State) (f : Pos → Pos) : (s.modPos f).regs = s.regs := rfl
@[simp] theorem State.modPos_shadow (s : State) (f : Pos → Pos) : (s.modPos f).shadow = s.shadow := rfl
@[simp] theorem State.modPos_mem (s : State) (f : Pos → Pos) : (s.modPos f).mem = s.mem := rfl
@[simp] theorem State.modPos_hoi (s : State) (f : Pos → Pos) : (s.modPos f).hoi = s.hoi := rfl
@[simp] theorem State.modPos_cpm (s : State) (f : Pos → Pos) : (s.modPos f).cpm = s.cpm := rfl
@[simp] theorem State.modPos_pwm (s : State) (f : Pos → Pos) : (s.modPos f).pwm = s.pwm := rfl
@[simp] theorem State.modPos_dis (s : State) (f : Pos → Pos) : (s.modPos f).dis = s.dis := rfl
@[simp] theorem State.modPos_sense (s : State) (f : Pos → Pos) : (s.modPos f).sense = s.sense := rfl
@[simp] theorem State.modPos_pos (s : State) (f : Pos → Pos) : (s.modPos f).pos = f s.pos := rfl
@[simp] theorem State.modPos_cle (s : State) (f : Pos → Pos) : (s.modPos f).cle = s.cle := rfl
@[simp] theorem State.modPos_drive (s : State) (f : Pos → Pos) : (s.modPos f).drive = s.drive := rfl
@[simp] theorem State.modPos_sss (s : State) (f : Pos → Pos) : (s.modPos f).sss = s.sss := rfl
@[simp] theorem State.modPos_saf (s : State) (f : Pos → Pos) : (s.modPos f).saf = s.saf := rfl
@[simp] theorem State.modPos_ss1 (s : State) (f : Pos → Pos) : (s.modPos f).ss1 = s.ss1 := rfl
@[simp] theorem State.modPos_tmon (s : State) (f : Pos → Pos) : (s.modPos f).tmon = s.tmon := rfl
@[simp] theorem State.modPos_flt (s : State) (f : Pos → Pos) : (s.modPos f).flt = s.flt := rfl
@[simp] theorem State.modPos_ax0 (s : State) (f : Pos → Pos) : (s.modPos f).ax0 = s.ax0 := rfl
@[simp] theorem State.modPos_ax1 (s : State) (f : Pos → Pos) : (s.modPos f).ax1 = s.ax1 := rfl
@[simp] theorem State.modPos_gdn (s : State) (f : Pos → Pos) : (s.modPos f).gdn = s.gdn := rfl
@[simp] theorem State.modPos_hly (s : State) (f : Pos → Pos) : (s.modPos f).hly = s.hly := rfl
@[simp] theorem State.modPos_bst (s : State) (f : Pos → Pos) : (s.modPos f).bst = s.bst := rfl
@[simp] theorem State.modPos_thm (s : State) (f : Pos → Pos) : (s.modPos f).thm = s.thm := rfl
@[simp] theorem State.modPos_cores (s : State) (f : Pos → Pos) : (s.modPos f).cores = s.cores := rfl
@[simp] theorem State.modPos_can0 (s : State) (f : Pos → Pos) : (s.modPos f).can0 = s.can0 := rfl
@[simp] theorem State.modPos_can1 (s : State) (f : Pos → Pos) : (s.modPos f).can1 = s.can1 := rfl
@[simp] theorem State.modPos_hsp (s : State) (f : Pos → Pos) : (s.modPos f).hsp = s.hsp := rfl
@[simp] theorem State.modPos_kern (s : State) (f : Pos → Pos) : (s.modPos f).kern = s.kern := rfl
@[simp] theorem State.modPos_pins (s : State) (f : Pos → Pos) : (s.modPos f).pins = s.pins := rfl
@[simp] theorem State.modPos_free (s : State) (f : Pos → Pos) : (s.modPos f).free = s.free := rfl
@[simp] theorem State.modPos_pending (s : State) (f : Pos → Pos) : (s.modPos f).pending = s.pending := rfl
@[simp] theorem State.modPos_r (s : State) (f : Pos → Pos) (k : Fld) : (s.modPos f).r k = s.r k := rfl

@[simp] theorem State.modKern_regs (s : State) (f : Kernel → Kernel) : (s.modKern f).regs = s.regs := rfl
@[simp] theorem State.modKern_shadow (s : State) (f : Kernel → Kernel) : (s.modKern f).shadow = s.shadow := rfl
@[simp] theorem State.modKern_mem (s : State) (f : Kernel → Kernel) : (s.modKern f).mem = s.mem := rfl
@[simp] theorem State.modKern_hoi (s : State) (f : Kernel → Kernel) : (s.modKern f).hoi = s.hoi := rfl
@[simp] theorem State.modKern_cpm (s : State) (f : Kernel → Kernel) : (s.modKern f).cpm = s.cpm := rfl
@[simp] theorem State.modKern_pwm (s : State) (f : Kernel → Kernel) : (s.modKern f).pwm = s.pwm := rfl
@[simp] theorem State.modKern_dis (s : State) (f : Kernel → Kernel) : (s.modKern f).dis = s.dis := rfl
@[simp] theorem State.modKern_sense (s : State) (f : Kernel → Kernel) : (s.modKern f).sense = s.sense := rfl
@[simp] theorem State.modKern_pos (s : State) (f : Kernel → Kernel) : (s.modKern f).pos = s.pos := rfl
@[simp] theorem State.modKern_cle (s : State) (f : Kernel → Kernel) : (s.modKern f).cle = s.cle := rfl
@[simp] theorem State.modKern_drive (s : State) (f : Kernel → Kernel) : (s.modKern f).drive = s.drive := rfl
@[simp] theorem State.modKern_sss (s : State) (f : Kernel → Kernel) : (s.modKern f).sss = s.sss := rfl
@[simp] theorem State.modKern_saf (s : State) (f : Kernel → Kernel) : (s.modKern f).saf = s.saf := rfl
@[simp] theorem State.modKern_ss1 (s : State) (f : Kernel → Kernel) : (s.modKern f).ss1 = s.ss1 := rfl
@[simp] theorem State.modKern_tmon (s : State) (f : Kernel → Kernel) : (s.modKern f).tmon = s.tmon := rfl
@[simp] theorem State.modKern_flt (s : State) (f : Kernel → Kernel) : (s.modKern f).flt = s.flt := rfl
@[simp] theorem State.modKern_ax0 (s : State) (f : Kernel → Kernel) : (s.modKern f).ax0 = s.ax0 := rfl
@[simp] theorem State.modKern_ax1 (s : State) (f : Kernel → Kernel) : (s.modKern f).ax1 = s.ax1 := rfl
@[simp] theorem State.modKern_gdn (s : State) (f : Kernel → Kernel) : (s.modKern f).gdn = s.gdn := rfl
@[simp] theorem State.modKern_hly (s : State) (f : Kernel → Kernel) : (s.modKern f).hly = s.hly := rfl
@[simp] theorem State.modKern_bst (s : State) (f : Kernel → Kernel) : (s.modKern f).bst = s.bst := rfl
@[simp] theorem State.modKern_thm (s : State) (f : Kernel → Kernel) : (s.modKern f).thm = s.thm := rfl
@[simp] theorem State.modKern_cores (s : State) (f : Kernel → Kernel) : (s.modKern f).cores = s.cores := rfl
@[simp] theorem State.modKern_can0 (s : State) (f : Kernel → Kernel) : (s.modKern f).can0 = s.can0 := rfl
@[simp] theorem State.modKern_can1 (s : State) (f : Kernel → Kernel) : (s.modKern f).can1 = s.can1 := rfl
@[simp] theorem State.modKern_hsp (s : State) (f : Kernel → Kernel) : (s.modKern f).hsp = s.hsp := rfl
@[simp] theorem State.modKern_kern (s : State) (f : Kernel → Kernel) : (s.modKern f).kern = f s.kern := rfl
@[simp] theorem State.modKern_pins (s : State) (f : Kernel → Kernel) : (s.modKern f).pins = s.pins := rfl
@[simp] theorem State.modKern_free (s : State) (f : Kernel → Kernel) : (s.modKern f).free = s.free := rfl
@[simp] theorem State.modKern_pending (s : State) (f : Kernel → Kernel) : (s.modKern f).pending = s.pending := rfl
@[simp] theorem State.modKern_r (s : State) (f : Kernel → Kernel) (k : Fld) : (s.modKern f).r k = s.r k := rfl

end Sys2Proof.Machine
end

