-- ==== Sys2Proof/Laws/Regs.lean ====
section
/-!
SUPPORT. Reading a register field after a write: the written value cut to the field's width, every other field as it
was. The side conditions are closed facts about a field of the table; `decide` settles them.
-/
namespace Sys2Proof.Machine

/-- A write then a read of the same field. -/
theorem State.r_w_self (s : State) (k : Fld) (v : Nat) (hw : k.width ≤ 32) (hr : k.reset < 2 ^ 32) :
    (s.w k v).r k = v % 2 ^ k.width := by
  have hv : v % 2 ^ k.width < 2 ^ 32 :=
    Nat.lt_of_lt_of_le (Nat.mod_lt _ (Nat.two_pow_pos _)) (Nat.pow_le_pow_right (by omega) hw)
  unfold State.r State.w sparsePut
  by_cases h : BitVec.ofNat 32 (v % 2 ^ k.width) = BitVec.ofNat 32 k.reset
  · simp only [if_pos h, sparseFind_erase]
    have := congrArg BitVec.toNat h
    simp only [BitVec.toNat_ofNat] at this
    rw [Nat.mod_eq_of_lt hv, Nat.mod_eq_of_lt hr] at this
    exact this.symm
  · simp only [if_neg h, sparseFind_insert_self _ _ _ (sparseFind_erase _ _), BitVec.toNat_ofNat]
    exact Nat.mod_eq_of_lt hv

/-- A write leaves every field of another key alone. -/
theorem State.r_w_other (s : State) (k j : Fld) (v : Nat) (h : k.key ≠ j.key) : (s.w k v).r j = s.r j := by
  unfold State.r State.w
  simp only [sparseFind_put_other _ _ _ _ _ h]

theorem State.r_wb_self (s : State) (k : Fld) (v : Bool) (hw : k.width ≤ 32) (h0 : 1 ≤ k.width) (hr : k.reset < 2 ^ 32) :
    (s.wb k v).r k = if v then 1 else 0 := by
  unfold State.wb
  rw [s.r_w_self k _ hw hr]
  have : 2 ≤ 2 ^ k.width := Nat.pow_le_pow_right (n := 2) (by omega) h0
  cases v <;> simp <;> omega

theorem State.r_wb_other (s : State) (k j : Fld) (v : Bool) (h : k.key ≠ j.key) : (s.wb k v).r j = s.r j :=
  s.r_w_other k j _ h

/-- A write to the shadow bank leaves every active value alone (R90). -/
@[simp] theorem State.r_ws (s : State) (k j : Fld) (v : Nat) : (s.ws k v).r j = s.r j := rfl

/-- What the shadow bank holds after a write of it, with no held write of the field waiting (R90, R92). -/
theorem State.shadowOf_ws_self (s : State) (k : Fld) (v : Nat) (hw : k.width ≤ 32)
    (hl : s.hoi.late.reverse.find? (fun e => e.key == k.key) = none) :
    (s.ws k v).shadowOf k = v % 2 ^ k.width := by
  have hv : v % 2 ^ k.width < 2 ^ 32 :=
    Nat.lt_of_lt_of_le (Nat.mod_lt _ (Nat.two_pow_pos _)) (Nat.pow_le_pow_right (by omega) hw)
  unfold State.shadowOf State.ws
  simp only [hl, sparseFind_insert_self _ _ _ (sparseFind_erase _ _), BitVec.toNat_ofNat]
  exact Nat.mod_eq_of_lt hv

theorem State.shadowOf_ws_other (s : State) (k j : Fld) (v : Nat) (h : k.key ≠ j.key) :
    (s.ws k v).shadowOf j = s.shadowOf j := by
  unfold State.shadowOf State.ws State.r
  simp only [sparseFind_insert_other _ _ _ _ h, sparseFind_erase_other _ _ _ h]

/-- A reset's mark of the crossings leaves every other field (R67). -/
theorem State.r_markStale_other (s : State) (mask : Nat) (j : Fld) (h : Reg.CPM_XSTALE_STALE.key ≠ j.key) :
    (s.markStale mask).r j = s.r j := s.r_w_other _ j _ h

/-- A fresh transfer leaves every other field (R67). -/
theorem State.r_fresh_other (s : State) (mask : Nat) (j : Fld) (h : Reg.CPM_XSTALE_STALE.key ≠ j.key) :
    (s.fresh mask).r j = s.r j := by
  unfold State.fresh
  split
  · rfl
  · exact s.r_w_other _ j _ h

@[simp] theorem State.r_at (s : State) (t : Nat) (k : Fld) : (s.at t).r k = s.r k := rfl
@[simp] theorem State.r_atF (s : State) (t : Nat) (k : Fld) : (s.atF t).r k = s.r k := rfl
@[simp] theorem State.r_setByte (s : State) (a : Nat) (v : Byte) (k : Fld) : (s.setByte a v).r k = s.r k := rfl
@[simp] theorem State.byte_w (s : State) (k : Fld) (v a : Nat) : (s.w k v).byte a = s.byte a := rfl
@[simp] theorem State.byte_ws (s : State) (k : Fld) (v a : Nat) : (s.ws k v).byte a = s.byte a := rfl

/-- Filtering a sparse list by its keys: a key that passes reads as before, one that fails is unlisted. -/
theorem sparseFind_filter {α : Type} (l : Sparse α) (p : Nat → Bool) (k : Nat) :
    sparseFind (l.filter (fun e => p e.1)) k = if p k then sparseFind l k else none := by
  induction l with
  | nil => simp [sparseFind]
  | cons e l ih =>
    obtain ⟨j, v⟩ := e
    by_cases hj : p j
    · rw [List.filter_cons_of_pos (by simpa using hj)]
      simp only [sparseFind]
      by_cases hk : j = k
      · subst hk; simp [hj]
      · simp only [if_neg hk, ih]
    · rw [List.filter_cons_of_neg (by simpa using hj), ih]
      simp only [sparseFind]
      by_cases hk : j = k
      · subst hk; simp [hj]
      · simp only [if_neg hk]

/-- Bringing a table to its reset values leaves every field that the table does not hold. -/
theorem State.r_resetTable_out (s : State) (fs : List Fld) (k : Fld) (h : fs.any (fun f => f.key == k.key) = false) :
    (s.resetTable fs).r k = s.r k := by
  unfold State.r State.resetTable
  simp only [sparseFind_filter s.regs (fun i => !(fs.any (fun f => f.key == i))) k.key, h, Bool.not_false, if_true]

/-- Every field of the table reads its reset value. -/
theorem State.r_resetTable_in (s : State) (fs : List Fld) (k : Fld) (h : fs.any (fun f => f.key == k.key) = true) :
    (s.resetTable fs).r k = k.reset := by
  unfold State.r State.resetTable
  simp [sparseFind_filter s.regs (fun i => !(fs.any (fun f => f.key == i))) k.key, h]

/-- What every command's meaning answers: a next state with the queue as it was and the pins settled. -/
theorem act_eq (s : State) (f : State → State) : act s f = .next { settle (f s) with pending := s.pending } := rfl

end Sys2Proof.Machine
end

