-- ==== Sys2Proof/Laws/Faults.lean ====
section
/-!
SUPPORT. What taking the safe state, raising a fault and clearing one leave alone. These operations reach into the PWM
stage, the discharge block, the SSS, the axes' stop requests, self-test and the fault manager; memory, the cores, the
kernel's stores and every other block stay as they were.
-/
namespace Sys2Proof.Machine

open Reg

/-- The register fields that the fault path writes. -/
def faultFlds : List Fld :=
  [PWM_STS_STATE, PWM_STS_SSSOVR, PWM_STS_SSSSTOP, PWM_CTRL_RUN, PWM_IRQ_EVT, FLT_IRQ_EVT, HSP_IRQ_EVT, FLT_STS_JLOST, FLT_STS_OVF,
   FLT_LAST_ID, FLT_LAST_CLASS, FLT_LAST_DETAIL, FLT_LASTT_TICK, DIS_MEAS_V0, DIS_MEAS_ELAPSED, DIS_MEAS_HALVINGS,
   DIS_STS_WINDREQ, DIS_STS_STATE, SSS_STS_SAFEST, SSS_STS_OVR, SSS_STS_WINDREL, SSS_STS_DSTATE, SSS_STS_SS1RUN,
   BST_RES0_RES, BST_RES1_RES, BST_STS_ABORTS, BST_IRQ_EVT, CLE_BSTS_STATE, CLE_BSTS_ABORT, SAF_TP_TEST, SAF_TP_HOLDB,
   SSS_STS_TBUSY]

/-- The stage is neither in START nor in RUN. -/
def State.stageRests (s : State) : Prop := s.r PWM_STS_STATE ≠ 1 ∧ s.r PWM_STS_STATE ≠ 2

/-- What the fault path keeps. A resting stage stays as it is: a tripped one stays TRIPPED. -/
structure FaultFrame (s u : State) : Prop where
  stage : s.stageRests → u.r PWM_STS_STATE = s.r PWM_STS_STATE ∧ u.r PWM_CTRL_RUN = s.r PWM_CTRL_RUN
  regs : ∀ f : Fld, f.key ∉ faultFlds.map Fld.key → u.r f = s.r f
  shadow : u.shadow = s.shadow
  mem : u.mem = s.mem
  hoi : u.hoi = s.hoi
  cpm : { u.cpm with coasting := s.cpm.coasting, unconf := s.cpm.unconf, stopFrom := s.cpm.stopFrom } = s.cpm
  sense : u.sense = s.sense
  pos : u.pos = s.pos
  cle : u.cle = s.cle
  saf : u.saf = s.saf
  ss1 : u.ss1 = s.ss1
  tmon : u.tmon = s.tmon
  gdn : u.gdn = s.gdn
  hly : u.hly = s.hly
  thm : u.thm = s.thm
  cores : u.cores = s.cores
  can0 : u.can0 = s.can0
  can1 : u.can1 = s.can1
  hsp : u.hsp = s.hsp
  kern : u.kern = s.kern
  pins : u.pins = s.pins
  free : u.free = s.free
  pending : u.pending = s.pending

theorem FaultFrame.refl (s : State) : FaultFrame s s := by constructor <;> first | rfl | (intros; exact ⟨rfl, rfl⟩) | (intros; rfl)

theorem FaultFrame.trans {s u v : State} (h : FaultFrame s u) (g : FaultFrame u v) : FaultFrame s v where
  stage r := by
    have h1 := h.stage r
    have h2 := g.stage ⟨by rw [h1.1]; exact r.1, by rw [h1.1]; exact r.2⟩
    exact ⟨h2.1.trans h1.1, h2.2.trans h1.2⟩
  regs f hf := (g.regs f hf).trans (h.regs f hf)
  shadow := g.shadow.trans h.shadow
  mem := g.mem.trans h.mem
  hoi := g.hoi.trans h.hoi
  cpm := by
    have hu := h.cpm
    have hv := g.cpm
    rw [← hv] at hu
    exact hu
  sense := g.sense.trans h.sense
  pos := g.pos.trans h.pos
  cle := g.cle.trans h.cle
  saf := g.saf.trans h.saf
  ss1 := g.ss1.trans h.ss1
  tmon := g.tmon.trans h.tmon
  gdn := g.gdn.trans h.gdn
  hly := g.hly.trans h.hly
  thm := g.thm.trans h.thm
  cores := g.cores.trans h.cores
  can0 := g.can0.trans h.can0
  can1 := g.can1.trans h.can1
  hsp := g.hsp.trans h.hsp
  kern := g.kern.trans h.kern
  pins := g.pins.trans h.pins
  free := g.free.trans h.free
  pending := g.pending.trans h.pending

/-- A write of one of the path's own fields. -/
theorem faultFrame_w (s : State) (k : Fld) (v : Nat)
    (h : k.key ∈ faultFlds.map Fld.key ∧ k.key ≠ PWM_STS_STATE.key ∧ k.key ≠ PWM_CTRL_RUN.key) : FaultFrame s (s.w k v) := by
  constructor <;> first | rfl | skip
  · intro _; exact ⟨s.r_w_other k _ v h.2.1, s.r_w_other k _ v h.2.2⟩
  · intro f hf
    exact s.r_w_other k f v (fun e => hf (e ▸ h.1))

/-- An update that the frame allows, given by the state parts it may touch. -/
theorem faultFrame_parts (s : State) (pwm : Pwm) (dis : Dis) (sss : Sss) (drive : Drive) (flt : Flt) (ax0 ax1 : Axis) (bst : Bst)
    (c : Bool) (n : Bool) (o : Option Nat) :
    FaultFrame s { s with
      pwm := pwm
      dis := dis
      sss := sss
      drive := drive
      flt := flt
      ax0 := ax0
      ax1 := ax1
      bst := bst
      cpm := { s.cpm with coasting := c, unconf := n, stopFrom := o } } := by
  constructor <;> first | rfl | (intros; exact ⟨rfl, rfl⟩) | (intros; rfl)

theorem faultFrame_flt (s : State) (x : Flt) : FaultFrame s { s with flt := x } := faultFrame_parts s _ _ _ _ x _ _ _ _ _ _
theorem faultFrame_dis (s : State) (x : Dis) : FaultFrame s { s with dis := x } := faultFrame_parts s _ x _ _ _ _ _ _ _ _ _
theorem faultFrame_sss (s : State) (x : Sss) : FaultFrame s { s with sss := x } := faultFrame_parts s _ _ x _ _ _ _ _ _ _ _
theorem faultFrame_drive (s : State) (x : Drive) : FaultFrame s { s with drive := x } := faultFrame_parts s _ _ _ x _ _ _ _ _ _ _
theorem faultFrame_pwm (s : State) (x : Pwm) : FaultFrame s { s with pwm := x } := faultFrame_parts s x _ _ _ _ _ _ _ _ _ _
theorem faultFrame_bst (s : State) (x : Bst) : FaultFrame s { s with bst := x } := faultFrame_parts s _ _ _ _ _ _ _ x _ _ _
theorem faultFrame_axes (s : State) (x y : Axis) : FaultFrame s { s with ax0 := x, ax1 := y } :=
  faultFrame_parts s _ _ _ _ _ x y _ _ _ _

/-- One step after others. -/
theorem FaultFrame.w {s u : State} (h : FaultFrame s u) (k : Fld) (v : Nat)
    (hk : k.key ∈ faultFlds.map Fld.key ∧ k.key ≠ PWM_STS_STATE.key ∧ k.key ≠ PWM_CTRL_RUN.key := by decide) : FaultFrame s (u.w k v) := h.trans (faultFrame_w u k v hk)

/-! The operations in the order of their definitions. -/

/-- Stopping a stage in START or RUN (R112). -/
theorem faultFrame_stageStop (s : State) (dest : StageState) (h : ¬ s.stageRests) : FaultFrame s (s.stageStop dest) := by
  unfold State.stageStop
  constructor <;> first | rfl | skip
  · intro r; exact absurd r h
  · intro f hf
    have h1 : PWM_STS_STATE.key ≠ f.key := fun e => hf (by rw [← e]; decide)
    have h2 : PWM_CTRL_RUN.key ≠ f.key := fun e => hf (by rw [← e]; decide)
    rw [State.r_w_other _ _ _ _ h2, State.r_w_other _ _ _ _ h1]; rfl

theorem State.not_rests (s : State) (h : s.stageState = .start ∨ s.stageState = .run) : ¬ s.stageRests := by
  intro r
  have h1 := r.1
  have h2 := r.2
  unfold State.stageState at h
  rcases h with h | h <;> split at h <;> simp_all

theorem faultFrame_stageOverridden (s : State) : FaultFrame s s.stageOverridden := by
  unfold State.stageOverridden
  split
  · next h => exact ((faultFrame_stageStop _ _ (State.not_rests _ h)).w _ _).w _ _
  · exact FaultFrame.refl s

theorem faultFrame_fltEvent (s : State) (k : Nat) : FaultFrame s (s.fltEvent k) := by
  unfold State.fltEvent
  have h0 := (FaultFrame.refl s).w FLT_IRQ_EVT (bitSet (s.r FLT_IRQ_EVT) k)
  simp only
  split
  · exact h0.w _ _
  · exact h0

theorem faultFrame_record (s : State) (x : FaultRecord) : FaultFrame s (s.record x) := by
  unfold State.record
  split
  · exact faultFrame_flt s _
  · exact ((FaultFrame.refl s).w FLT_STS_JLOST 1).trans (faultFrame_fltEvent _ _)

theorem faultFrame_dropFault (s : State) (id : Nat) (who : Role) : FaultFrame s (s.dropFault id who) := by
  unfold State.dropFault
  split
  · exact FaultFrame.refl s
  · exact ((faultFrame_flt s _).trans (faultFrame_record _ _)).trans (faultFrame_fltEvent _ _)

theorem faultFrame_autoClear (s : State) (id d : Nat) : FaultFrame s (s.autoClear id d) := by
  unfold State.autoClear
  split
  · exact FaultFrame.refl s
  · simp only
    split
    · exact faultFrame_dropFault s _ _
    · exact faultFrame_flt s _

theorem faultFrame_resetFaults (s : State) (ids : List Nat) : FaultFrame s (s.resetFaults ids) := by
  unfold State.resetFaults
  induction ids generalizing s with
  | nil => exact FaultFrame.refl s
  | cons i l ih => exact (faultFrame_dropFault s i .none).trans (ih _)

theorem faultFrame_foldl {α : Type} (f : State → α → State) (h : ∀ s x, FaultFrame s (f s x)) (l : List α) (s : State) :
    FaultFrame s (l.foldl f s) := by
  induction l generalizing s with
  | nil => exact FaultFrame.refl s
  | cons x l ih => exact (h s x).trans (ih _)

theorem faultFrame_ite {p : Prop} [Decidable p] {s u v : State} (h : FaultFrame s u) (g : FaultFrame s v) :
    FaultFrame s (if p then u else v) := by
  split
  · exact h
  · exact g

theorem faultFrame_flagCleared (s : State) (f : Fld) (gone : Nat) : FaultFrame s (s.flagCleared f gone) := by
  unfold State.flagCleared
  repeat' with_reducible apply faultFrame_ite
  all_goals with_reducible first
    | exact FaultFrame.refl s
    | exact faultFrame_autoClear s _ _
    | exact faultFrame_foldl _ (fun s _ => faultFrame_autoClear s _ _) _ s
    | exact faultFrame_foldl _ (fun s _ => faultFrame_ite (faultFrame_autoClear s _ _) (FaultFrame.refl s)) _ s

/-- The faults that a reset's fallen flags clear (R410, R411). -/
theorem faultFrame_flagsReset (s u : State) : FaultFrame s (s.flagsReset u) := by
  refine faultFrame_foldl _ (fun x f => ?_) _ s
  split
  · exact faultFrame_flagCleared x f _
  · exact FaultFrame.refl x

theorem faultFrame_disBegin (s : State) : FaultFrame s s.disBegin := by
  unfold State.disBegin
  exact (((((((((FaultFrame.refl s).w _ _).w _ _).w _ _).w _ _).trans (faultFrame_autoClear _ _ _)).trans
    (faultFrame_autoClear _ _ _)).trans (faultFrame_autoClear _ _ _)).trans (faultFrame_drive _ _)).trans (faultFrame_dis _ _)

theorem faultFrame_disAct (s : State) : FaultFrame s s.disAct := by
  unfold State.disAct
  have h0 := faultFrame_dis s { s.dis with reqHeld := false }
  simp only
  split
  · have h1 := h0.trans (faultFrame_disBegin _)
    split
    · split
      · exact (h1.w DIS_STS_STATE 5).trans (faultFrame_flt _ _)
      · exact h1.w DIS_STS_STATE 1
    · exact h1.w DIS_STS_STATE 1
  · exact h0

theorem faultFrame_disRequest (s : State) : FaultFrame s s.disRequest := by
  unfold State.disRequest
  split
  · exact faultFrame_disAct s
  · exact faultFrame_dis s _

theorem faultFrame_disWake (s : State) : FaultFrame s s.disWake := by
  unfold State.disWake
  split
  · exact faultFrame_disRequest s
  · exact FaultFrame.refl s

theorem faultFrame_coast (s : State) : FaultFrame s s.coast := faultFrame_parts s _ _ _ _ _ _ _ _ _ _ _

theorem faultFrame_holdSafe (s : State) (x : SafeState) : FaultFrame s (s.holdSafe x) :=
  ((((FaultFrame.refl s).w SSS_STS_SAFEST (safeCode x)).w SSS_STS_OVR 1).trans (faultFrame_sss _ _)).trans (faultFrame_coast _)

theorem faultFrame_endWindrel (s : State) : FaultFrame s s.endWindrel := by
  unfold State.endWindrel
  split
  · exact (((FaultFrame.refl s).w _ _).trans (faultFrame_holdSafe _ _)).trans (faultFrame_stageOverridden _)
  · exact FaultFrame.refl s

theorem faultFrame_readFieldParams (s : State) : FaultFrame s s.readFieldParams := by
  unfold State.readFieldParams
  split
  · exact faultFrame_drive s _
  · exact FaultFrame.refl s

theorem faultFrame_leaveTest (s : State) : FaultFrame s s.leaveTest :=
  (((FaultFrame.refl s).w SAF_TP_TEST 0).w SAF_TP_HOLDB 0).w SSS_STS_TBUSY 0

theorem faultFrame_enterSafe (s : State) (own : Bool) : FaultFrame s (s.enterSafe own) := by
  unfold State.enterSafe
  have h0 := faultFrame_endWindrel s
  simp only
  split
  · exact h0
  · have h1 := (h0.trans (faultFrame_readFieldParams _)).trans (faultFrame_leaveTest _)
    have h2 := ((h1.trans (faultFrame_holdSafe _ s.endWindrel.readFieldParams.leaveTest.safeChoice)).w SSS_STS_DSTATE 4).w SSS_STS_SS1RUN 0
    exact (((h2.trans (faultFrame_sss _ _)).trans (faultFrame_stageOverridden _)).trans (faultFrame_drive _ _)).trans
      (faultFrame_disWake _)

theorem faultFrame_raiseRecord (s : State) (x : Reaction) : FaultFrame s (s.raiseRecord x) := by
  unfold State.raiseRecord
  extract_lets limited recent u
  cases limited && recent
  · exact (faultFrame_record s _).trans (faultFrame_flt _ _)
  · exact FaultFrame.refl s

theorem faultFrame_bstAbort (s : State) (k : Nat) : FaultFrame s (s.bstAbort k) := by
  unfold State.bstAbort
  split
  · split
    · have h0 := faultFrame_bst s { s.bst with blocks := setAt s.bst.blocks k { ‹BstBlock› with phase := .rejoin } }
      simp only [State.setBit, State.bumpSat]
      split <;> split <;> first | exact ((h0.w _ _).w _ _).w _ _ | exact (h0.w _ _).w _ _
    · exact FaultFrame.refl s
  · exact FaultFrame.refl s

theorem faultFrame_bstAbortAll (s : State) : FaultFrame s s.bstAbortAll := by
  unfold State.bstAbortAll
  generalize List.range 17 = l
  induction l generalizing s with
  | nil => exact FaultFrame.refl s
  | cons k l ih => exact (faultFrame_bstAbort s k).trans (ih _)

theorem faultFrame_buntingAbort (s : State) : FaultFrame s s.buntingAbort := by
  unfold State.buntingAbort
  split
  · exact ((FaultFrame.refl s).w _ _).w _ _
  · exact FaultFrame.refl s

theorem faultFrame_reactSteps (s : State) (x : Reaction) : FaultFrame s (s.reactSteps x) := by
  have hb : FaultFrame s (((s.enterSafe).stopAxes).buntingAbort).bstAbortAll :=
    (((faultFrame_enterSafe s false).trans (faultFrame_axes _ _ _)).trans (faultFrame_buntingAbort _)).trans
      (faultFrame_bstAbortAll _)
  unfold State.reactSteps
  split
  · exact FaultFrame.refl s
  · split
    · exact (hb.trans (faultFrame_raiseRecord _ _)).trans (faultFrame_disRequest _)
    · exact hb.trans (faultFrame_raiseRecord _ _)
    · exact faultFrame_raiseRecord s _

theorem faultFrame_startReaction (s : State) (x : Reaction) : FaultFrame s (s.startReaction x) :=
  (faultFrame_reactSteps s x).trans (faultFrame_flt _ _)

theorem faultFrame_pumpReactions (n : Nat) (s : State) : FaultFrame s (s.pumpReactions n) := by
  induction n generalizing s with
  | zero => exact FaultFrame.refl s
  | succ n ih =>
    unfold State.pumpReactions
    split
    · exact FaultFrame.refl s
    · split
      · exact FaultFrame.refl s
      · exact ((faultFrame_flt s _).trans (faultFrame_startReaction _ _)).trans (ih _)

theorem faultFrame_submit (s : State) (x : Reaction) : FaultFrame s (s.submit x).1 := by
  unfold State.submit
  split
  · exact (faultFrame_startReaction s x).trans (faultFrame_pumpReactions _ _)
  · split
    · exact ((faultFrame_flt s _).trans (faultFrame_startReaction _ _)).trans (faultFrame_pumpReactions _ _)
    · split
      · exact faultFrame_flt s _
      · exact FaultFrame.refl s

theorem faultFrame_noteRaise (s : State) (id d : Nat) (c : FaultClass) : FaultFrame s (s.noteRaise id d c) :=
  (((((FaultFrame.refl s).w FLT_LAST_ID _).w FLT_LAST_CLASS _).w FLT_LAST_DETAIL _).w FLT_LASTT_TICK _).trans (faultFrame_fltEvent _ _)

theorem faultFrame_raiseStops (s : State) (c : FaultClass) : FaultFrame s (s.raiseStops c) := by
  unfold State.raiseStops
  split
  · exact (faultFrame_endWindrel s).trans (faultFrame_bstAbortAll _)
  · exact FaultFrame.refl s

theorem faultFrame_raiseCore (s : State) (id d : Nat) (c : FaultClass) : FaultFrame s (s.raiseCore id d c).1 := by
  have h0 : FaultFrame s (((s.noteRaise id d c).countOcc id).raiseStops c) :=
    ((faultFrame_noteRaise s id d c).trans (faultFrame_flt _ _)).trans (faultFrame_raiseStops _ _)
  unfold State.raiseCore
  simp only
  split
  · exact (h0.trans (faultFrame_flt _ _)).trans (faultFrame_submit _ _)
  · split
    · exact (h0.trans (faultFrame_flt _ _)).trans (faultFrame_raiseRecord _ _)
    · exact h0.trans (faultFrame_flt _ _)

/-- Raising a fault keeps everything outside the fault path (R404 to R408). -/
theorem faultFrame_raise (s : State) (id d : Nat) : FaultFrame s (s.raise id d) := by
  unfold State.raise
  have h0 := (faultFrame_bstAbort s 1).trans (faultFrame_raiseCore (s.bstAbort 1) id d ((s.bstAbort 1).classOf id))
  simp only
  split
  · exact h0
  · have h1 := (h0.w FLT_STS_OVF 1).trans (faultFrame_fltEvent _ 5)
    split
    · exact h1.trans (faultFrame_raiseCore _ _ _ _)
    · exact (h1.trans (faultFrame_raiseCore _ _ _ _)).trans (faultFrame_reactSteps _ _)

end Sys2Proof.Machine
end

