-- ==== Sys2Proof/Laws/Memory.lean ====
section
/-!
SUPPORT. Memory: a read after a write, what a write leaves alone, and that every memory operation keeps the canonical form.
-/
namespace Sys2Proof.Machine

/-- A byte reads back as it was written. -/
theorem State.byte_setByte_self (s : State) (a : Nat) (v : Byte) : (s.setByte a v).byte a = v :=
  sparseFind_put_self s.mem a v (restByte a)

/-- A write of one byte leaves every other byte. -/
theorem State.byte_setByte_other (s : State) (a b : Nat) (v : Byte) (h : a ≠ b) : (s.setByte a v).byte b = s.byte b := by
  unfold State.byte State.setByte
  simp only [sparseFind_put_other s.mem a b v (restByte a) h]

theorem State.memWf_setByte (s : State) (a : Nat) (v : Byte) (h : s.memWf = true) : (s.setByte a v).memWf = true :=
  sparseWf_put s.mem a v restByte h

theorem State.memWf_writeLE (s : State) (a v n : Nat) (h : s.memWf = true) : (s.writeLE a v n).memWf = true := by
  induction n generalizing s a v with
  | zero => exact h
  | succ n ih => exact ih _ _ _ (s.memWf_setByte a _ h)

theorem State.memWf_writeBytes (s : State) (a : Nat) (l : List Byte) (h : s.memWf = true) : (s.writeBytes a l).memWf = true := by
  induction l generalizing s a with
  | nil => exact h
  | cons b l ih => exact ih _ _ (s.memWf_setByte a b h)

theorem State.memWf_clearRange (s : State) (a n : Nat) (h : s.memWf = true) : (s.clearRange a n).memWf = true :=
  sparseWf_filter s.mem restByte _ h

theorem State.memWf_copyBytes (s : State) (dst src n : Nat) (h : s.memWf = true) : (s.copyBytes dst src n).memWf = true :=
  s.memWf_writeBytes dst _ h

/-- A correction of single-bit errors changes no byte (R210). -/
@[simp] theorem State.mem_cleCorrect (s : State) (words : List Nat) : (s.cleCorrect words).mem = s.mem := by
  induction words generalizing s with
  | nil => rfl
  | cons w l ih =>
    unfold State.cleCorrect at ih ⊢
    rw [List.foldl_cons, ih]
    split
    · unfold State.bumpSat; split <;> rfl
    · rfl

theorem State.memWf_memWrite (s : State) (a v n : Nat) (h : s.memWf = true) : (s.memWrite a v n).memWf = true := by
  unfold State.memWrite
  split
  · exact s.memWf_writeLE a v n h
  · simpa only [State.memWf, State.mem_cleCorrect] using s.memWf_writeLE a v n h

theorem State.memWf_loseMemory (s : State) (d : Domain) (h : s.memWf = true) : (s.loseMemory d).memWf = true := by
  cases d <;> first | exact h | exact s.memWf_clearRange _ _ h

/-- Programming flash keeps the canonical form (R83). -/
theorem State.memWf_program (s : State) (a : Nat) (l : List Byte) (h : s.memWf = true) : (s.program a l).memWf = true :=
  State.memWf_writeBytes _ a l (sparseWf_filter s.mem restByte _ h)

theorem State.memWf_scramble (s : State) (a n : Nat) (h : s.memWf = true) : (s.scramble a n).memWf = true :=
  State.memWf_writeBytes _ a _ h

theorem State.memWf_tearCopy (s : State) (b : Bool) (h : s.memWf = true) : (s.tearCopy b).memWf = true := by
  unfold State.tearCopy
  change State.memWf (if s.freeNat.1 % 2 = 0 then s.freeNat.2 else s.freeNat.2.scramble (recAddr b) 32) = true
  split
  · exact h
  · exact s.freeNat.2.memWf_scramble _ _ h

/-- What a reset interrupts in flash keeps the canonical form (R71). -/
theorem State.memWf_tearFlash (s : State) (h : s.memWf = true) : s.tearFlash.memWf = true := by
  unfold State.tearFlash
  split
  · exact h
  · exact State.memWf_scramble _ _ _ (State.memWf_program _ _ _ h)
  · exact s.memWf_tearCopy _ h
  · exact s.memWf_tearCopy _ h
  · exact h

/-- A fault raised over a copy leaves memory alone. -/
theorem State.mem_noteRecs (s : State) : s.noteRecs.mem = s.mem := by
  unfold State.noteRecs
  split
  · exact (faultFrame_raise s _ _).mem
  · rfl

theorem State.memWf_putRec (s : State) (r : BootRecord) (h : s.memWf = true) : (s.putRec r).memWf = true :=
  State.memWf_program _ _ _ (by rw [State.memWf, s.mem_noteRecs]; exact h)

/-- A write of `n` bytes leaves every byte outside them. -/
theorem State.byte_writeLE_other (s : State) (a v n b : Nat) (h : b < a ∨ a + n ≤ b) : (s.writeLE a v n).byte b = s.byte b := by
  induction n generalizing s a v with
  | zero => rfl
  | succ n ih =>
    unfold State.writeLE
    rw [ih _ _ _ (by omega), s.byte_setByte_other a b _ (by omega)]

/-- Clearing a range leaves every byte outside it. -/
theorem sparseFind_filter_of {α : Type} (l : Sparse α) (p : Nat × α → Bool) (i : Nat) (h : ∀ v, p (i, v) = true) :
    sparseFind (l.filter p) i = sparseFind l i := by
  induction l with
  | nil => rfl
  | cons e l ih =>
    obtain ⟨k, v⟩ := e
    by_cases hp : p (k, v) = true
    · simp only [List.filter_cons_of_pos hp, sparseFind, ih]
    · have : k ≠ i := by
        rintro rfl
        exact hp (h v)
      simp only [List.filter_cons_of_neg hp, sparseFind, if_neg this, ih]

theorem State.byte_clearRange_other (s : State) (a n b : Nat) (h : b < a ∨ a + n ≤ b) : (s.clearRange a n).byte b = s.byte b := by
  unfold State.byte State.clearRange
  simp only
  rw [sparseFind_filter_of]
  intro v
  simp only [Bool.not_eq_true', Bool.and_eq_false_iff, decide_eq_false_iff_not]
  omega

theorem State.reset_memWf : State.reset.memWf = true := rfl

end Sys2Proof.Machine
end

