-- ==== Sys2Proof/Laws/Resets.lean ====
section
/-!
SUPPORT. What a reset of a domain keeps: the memories of R310 below CLE memory, the SSS and the CPM outside their
registers, CPM_RSTCAUSE, and the safe state the SSS holds.
-/
namespace Sys2Proof.Machine

open Reg

/-- Forgetting indexed entries leaves every field below their addresses. -/
theorem State.r_dropIndexed (s : State) (base : Nat) (f : Fld) (h : f.key < 32 * base) : (s.dropIndexed base).r f = s.r f := by
  unfold State.r State.dropIndexed
  have := sparseFind_filter s.regs (fun k => !(decide (32 * base ≤ k) && decide (k < 32 * (base + 0x01000000)))) f.key
  simp only [this]
  have h2 : ¬ (32 * base ≤ f.key) := by omega
  simp [h2]

/-- The register fields that no domain reset brings back: CPM_RSTCAUSE, and the SSS's drive and safe state. -/
def stayFlds : List Fld :=
  [CPM_RSTCAUSE_SUPPLY, CPM_RSTCAUSE_NRSTPIN, CPM_RSTCAUSE_SOFT, CPM_RSTCAUSE_BWDOG, CPM_RSTCAUSE_FLTRST,
   CPM_RSTCAUSE_PARKWAKE, CPM_RSTCAUSE_DORMWAKE, CPM_RSTCAUSE_TRIALWD, CPM_RSTCAUSE_POR, SSS_STS_SAFEST, SSS_STS_DSTATE,
   SSS_STS_WINDREL, SSS_STS_OVR, SSS_STS_VIOLOST, CPM_STATE_LASTSLP, CPM_STATE_DOMON, CPM_CLKSTAT_CLKOK,
   CPM_WAKESRC_WAKEPIN, CPM_WAKESRC_SFI, CPM_WAKESRC_CANRX, CPM_WAKESRC_TIMER, CPM_WAKESRC_HOSTDL, CPM_WAKESRC_VIORET]

/-- What a domain reset keeps. -/
structure ResetFrame (s u : State) : Prop where
  byte : ∀ a < 0x30000000, u.byte a = s.byte a
  sss : u.sss = s.sss
  saf : u.saf = s.saf
  cpm : u.cpm = s.cpm
  flt : u.flt = s.flt
  kern : u.kern = s.kern
  free : u.free = s.free
  pins : u.pins = s.pins
  regs : ∀ f ∈ stayFlds, u.r f = s.r f

theorem ResetFrame.refl (s : State) : ResetFrame s s :=
  ⟨fun _ _ => rfl, rfl, rfl, rfl, rfl, rfl, rfl, rfl, fun _ _ => rfl⟩

theorem ResetFrame.trans {s u v : State} (h : ResetFrame s u) (g : ResetFrame u v) : ResetFrame s v :=
  ⟨fun a ha => (g.byte a ha).trans (h.byte a ha), g.sss.trans h.sss, g.saf.trans h.saf, g.cpm.trans h.cpm, g.flt.trans h.flt,
   g.kern.trans h.kern, g.free.trans h.free, g.pins.trans h.pins, fun f hf => (g.regs f hf).trans (h.regs f hf)⟩

theorem resetFrame_table (s : State) (fs : List Fld) (h : stayFlds.all (fun k => !(fs.any (fun f => f.key == k.key))) = true) :
    ResetFrame s (s.resetTable fs) := by
  refine ⟨fun _ _ => rfl, rfl, rfl, rfl, rfl, rfl, rfl, rfl, fun f hf => ?_⟩
  apply s.r_resetTable_out
  have := List.all_eq_true.mp h f hf
  simpa using this

theorem resetFrame_drop (s : State) (b : Nat) (h : stayFlds.all (fun k => decide (k.key < 32 * b)) = true) :
    ResetFrame s (s.dropIndexed b) :=
  ⟨fun _ _ => rfl, rfl, rfl, rfl, rfl, rfl, rfl, rfl, fun f hf => s.r_dropIndexed b f (by
    have := List.all_eq_true.mp h f hf; simpa using this)⟩

theorem resetFrame_buffers (s : State) : ResetFrame s s.dropBuffers := by
  refine ⟨fun a ha => ?_, rfl, rfl, rfl, rfl, rfl, rfl, rfl, fun _ _ => rfl⟩
  unfold State.dropBuffers
  rw [State.byte_clearRange_other _ _ _ _ (by omega), State.byte_clearRange_other _ _ _ _ (by omega)]

theorem ResetFrame.of (s u : State) (h1 : u.mem = s.mem) (h2 : u.sss = s.sss) (h3 : u.saf = s.saf) (h4 : u.cpm = s.cpm)
    (h5 : u.flt = s.flt) (h6 : u.kern = s.kern) (h7 : u.free = s.free) (h8 : u.pins = s.pins) (h9 : u.regs = s.regs) :
    ResetFrame s u :=
  ⟨fun a _ => by unfold State.byte; rw [h1], h2, h3, h4, h5, h6, h7, h8, fun f _ => by unfold State.r; rw [h9]⟩

theorem resetFrame_pwm (s : State) : ResetFrame s s.resetPwm :=
  (resetFrame_table s pwmTable (by decide +kernel)).trans (.of _ _ rfl rfl rfl rfl rfl rfl rfl rfl rfl)
theorem resetFrame_dis (s : State) : ResetFrame s s.resetDis :=
  (resetFrame_table s disTable (by decide +kernel)).trans (.of _ _ rfl rfl rfl rfl rfl rfl rfl rfl rfl)
theorem resetFrame_disSuspend (s : State) : ResetFrame s s.disSuspend := by
  unfold State.disSuspend
  split
  · exact .of _ _ rfl rfl rfl rfl rfl rfl rfl rfl rfl
  · exact .refl s
theorem resetFrame_sdx (s : State) : ResetFrame s s.resetSdx :=
  (resetFrame_table s sdxTable (by decide +kernel)).trans (ResetFrame.trans
    (u := { s.resetTable sdxTable with
      sense := { hallBad := s.sense.hallBad, refBad := s.sense.refBad, krefTemp := s.sense.krefTemp,
                 fcv0 := s.sense.fcv0, fcv1 := s.sense.fcv1 } })
    (.of _ _ rfl rfl rfl rfl rfl rfl rfl rfl rfl) (resetFrame_disSuspend _))
theorem resetFrame_pcv (s : State) : ResetFrame s s.resetPcv :=
  (resetFrame_table s pcvTable (by decide +kernel)).trans (.of _ _ rfl rfl rfl rfl rfl rfl rfl rfl rfl)
theorem resetFrame_fcv (s : State) : ResetFrame s s.resetFcv :=
  (resetFrame_table s fcvTable (by decide +kernel)).trans (.of _ _ rfl rfl rfl rfl rfl rfl rfl rfl rfl)
theorem resetFrame_pos (s : State) : ResetFrame s s.resetPos :=
  (resetFrame_table s posTable (by decide +kernel)).trans (.of _ _ rfl rfl rfl rfl rfl rfl rfl rfl rfl)
theorem resetFrame_cle (s : State) : ResetFrame s s.resetCle :=
  ((resetFrame_table s cleTable (by decide +kernel)).trans (resetFrame_drop _ _ (by decide +kernel))).trans
    (.of _ _ rfl rfl rfl rfl rfl rfl rfl rfl rfl)
theorem resetFrame_axs (s : State) : ResetFrame s s.resetAxs :=
  (resetFrame_table s axsTable (by decide +kernel)).trans (.of _ _ rfl rfl rfl rfl rfl rfl rfl rfl rfl)
theorem resetFrame_gdn (s : State) : ResetFrame s s.resetGdn :=
  (((resetFrame_table s gdnTable (by decide +kernel)).trans (resetFrame_drop _ _ (by decide +kernel))).trans
    (resetFrame_drop _ _ (by decide +kernel))).trans (.of _ _ rfl rfl rfl rfl rfl rfl rfl rfl rfl)
theorem resetFrame_hly (s : State) : ResetFrame s s.resetHly :=
  (resetFrame_table s hlyTable (by decide +kernel)).trans (.of _ _ rfl rfl rfl rfl rfl rfl rfl rfl rfl)
theorem resetFrame_hsp (s : State) : ResetFrame s s.resetHsp :=
  (resetFrame_table s hspTable (by decide +kernel)).trans (.of _ _ rfl rfl rfl rfl rfl rfl rfl rfl rfl)
theorem resetFrame_can (s : State) : ResetFrame s s.resetCan :=
  ((resetFrame_table s canTable (by decide +kernel)).trans (resetFrame_buffers _)).trans
    (.of _ _ rfl rfl rfl rfl rfl rfl rfl rfl rfl)
theorem resetFrame_thm (s : State) : ResetFrame s s.resetThm :=
  (resetFrame_table s thmTable (by decide +kernel)).trans (.of _ _ rfl rfl rfl rfl rfl rfl rfl rfl rfl)

theorem resetFrame_sys (s : State) : ResetFrame s s.resetSys := by
  unfold State.resetSys
  extract_lets a b c
  have h1 : ResetFrame s a := ((((resetFrame_table s hoiTable (by decide +kernel)).trans
    (resetFrame_table _ bstTable (by decide +kernel))).trans (resetFrame_table _ rolTable (by decide +kernel))).trans
    (resetFrame_table _ cmpTable (by decide +kernel))).trans (resetFrame_table _ dbgTable (by decide +kernel))
  have h2 : ResetFrame a b := (resetFrame_table _ fltTable (by decide +kernel)).trans (resetFrame_thm _)
  have h3 : ResetFrame b c := resetFrame_table _ _ (by decide +kernel)
  exact ((h1.trans h2).trans h3).trans (.of _ _ rfl rfl rfl rfl rfl rfl rfl rfl rfl)

theorem resetFrame_stale (s : State) (mask : Nat) : ResetFrame s (s.markStale mask) :=
  ⟨fun _ _ => rfl, rfl, rfl, rfl, rfl, rfl, rfl, rfl, fun f hf => s.r_w_other _ _ _ fun e => by
    have : stayFlds.all (fun k => !(CPM_XSTALE_STALE.key == k.key)) = true := by decide +kernel
    have := List.all_eq_true.mp this f hf
    simp [e] at this⟩

/-- What the reset of one domain's logic keeps. -/
theorem resetFrame_logic (s : State) (d : Domain) : ResetFrame s (s.resetLogic d) := by
  cases d
  · exact resetFrame_sys s
  · exact .of _ _ rfl rfl rfl rfl rfl rfl rfl rfl rfl
  · exact .of _ _ rfl rfl rfl rfl rfl rfl rfl rfl rfl
  · exact resetFrame_cle s
  · exact (((resetFrame_sdx s).trans (resetFrame_pcv _)).trans (resetFrame_fcv _)).trans (resetFrame_pos _)
  · exact (resetFrame_pwm s).trans (resetFrame_dis _)
  · exact (resetFrame_axs s).trans (resetFrame_gdn _)
  · exact resetFrame_hly s
  · exact (resetFrame_hsp s).trans (resetFrame_can _)

/-- What the reset of one domain keeps (R67, R69 to R71). -/
theorem resetFrame_domain (s : State) (d : Domain) : ResetFrame s (s.resetDomain d) :=
  (resetFrame_logic s d).trans (resetFrame_stale _ _)

theorem resetFrame_loseCle (s : State) : ResetFrame s (s.loseMemory .cle) := by
  refine ⟨fun a ha => ?_, rfl, rfl, rfl, rfl, rfl, rfl, rfl, fun _ _ => rfl⟩
  exact State.byte_clearRange_other s _ _ _ (by omega)

theorem resetFrame_domains (s : State) (keepHly : Bool) : ResetFrame s (s.resetDomains keepHly) := by
  unfold State.resetDomains
  refine ResetFrame.trans ?_ (resetFrame_loseCle _)
  generalize allDomains.filter _ = l
  induction l generalizing s with
  | nil => exact ResetFrame.refl s
  | cons d l ih => exact (resetFrame_domain s d).trans (ih _)

/-- What a reset's mark in the CPM leaves: every field but DOMON, the cause and CLKOK. -/
theorem State.r_markReset (s : State) (c : ResetCause) (k : Bool) (f : Fld) (h1 : CPM_STATE_DOMON.key ≠ f.key) (h2 : c.fld.key ≠ f.key)
    (h3 : CPM_CLKSTAT_CLKOK.key ≠ f.key) : (s.markReset c k).r f = s.r f := by
  unfold State.markReset
  rw [State.r_w_other _ _ _ _ h3, State.r_w_other _ _ _ _ h2, State.r_w_other _ _ _ _ h1]

/-- The cause is recorded. -/
theorem State.r_markReset_cause (s : State) (c : ResetCause) (k : Bool) : (s.markReset c k).r c.fld = 1 := by
  unfold State.markReset
  cases c <;> (rw [State.r_w_other _ _ _ _ (by decide), State.r_w_self _ _ _ (by decide) (by decide)]; rfl)

theorem State.r_markReset_domon (s : State) (c : ResetCause) : (s.markReset c false).r CPM_STATE_DOMON = 0b100000111 := by
  unfold State.markReset
  cases c <;> (rw [State.r_w_other _ _ _ _ (by decide), State.r_w_other _ _ _ _ (by decide),
    State.r_w_self _ _ _ (by decide) (by decide)]; rfl)

@[simp] theorem State.r_holdReset (s : State) (b k : Bool) (f : Fld) : (s.holdReset b k).r f = s.r f := rfl
@[simp] theorem State.byte_holdReset (s : State) (b k : Bool) (a : Nat) : (s.holdReset b k).byte a = s.byte a := rfl
@[simp] theorem State.byte_markReset (s : State) (c : ResetCause) (k : Bool) (a : Nat) : (s.markReset c k).byte a = s.byte a := rfl

/-! Clearing faults leaves the SSS's fields. -/

theorem State.r_fltEvent (s : State) (k : Nat) (f : Fld) (h1 : FLT_IRQ_EVT.key ≠ f.key) (h2 : HSP_IRQ_EVT.key ≠ f.key) :
    (s.fltEvent k).r f = s.r f := by
  unfold State.fltEvent
  simp only
  split
  · simp only [State.setBit]; rw [State.r_w_other _ _ _ _ h2, State.r_w_other _ _ _ _ h1]
  · simp only [State.setBit]; rw [State.r_w_other _ _ _ _ h1]

theorem State.r_record (s : State) (x : FaultRecord) (f : Fld) (h1 : FLT_IRQ_EVT.key ≠ f.key) (h2 : HSP_IRQ_EVT.key ≠ f.key)
    (h3 : FLT_STS_JLOST.key ≠ f.key) : (s.record x).r f = s.r f := by
  unfold State.record
  split
  · rfl
  · rw [State.r_fltEvent _ _ _ h1 h2, State.r_w_other _ _ _ _ h3]

theorem State.r_dropFault (s : State) (i : Nat) (w : Role) (f : Fld) (h1 : FLT_IRQ_EVT.key ≠ f.key)
    (h2 : HSP_IRQ_EVT.key ≠ f.key) (h3 : FLT_STS_JLOST.key ≠ f.key) : (s.dropFault i w).r f = s.r f := by
  unfold State.dropFault
  split
  · rfl
  · rw [State.r_fltEvent _ _ _ h1 h2, State.r_record _ _ _ h1 h2 h3]; rfl

theorem State.r_autoClear (s : State) (i d : Nat) (f : Fld) (h1 : FLT_IRQ_EVT.key ≠ f.key) (h2 : HSP_IRQ_EVT.key ≠ f.key)
    (h3 : FLT_STS_JLOST.key ≠ f.key) : (s.autoClear i d).r f = s.r f := by
  unfold State.autoClear
  split
  · rfl
  · simp only
    split
    · exact State.r_dropFault _ _ _ _ h1 h2 h3
    · rfl

theorem State.r_resetFaults (l : List Nat) (s : State) (f : Fld) (h1 : FLT_IRQ_EVT.key ≠ f.key) (h2 : HSP_IRQ_EVT.key ≠ f.key)
    (h3 : FLT_STS_JLOST.key ≠ f.key) : (s.resetFaults l).r f = s.r f := by
  induction l generalizing s with
  | nil => rfl
  | cons i l ih => exact (ih (s.dropFault i .none)).trans (State.r_dropFault s i .none f h1 h2 h3)

theorem State.cpm_writeBytes (l : List Byte) (s : State) (a : Nat) : (s.writeBytes a l).cpm = s.cpm := by
  induction l generalizing s a with
  | nil => rfl
  | cons b l ih => exact ih _ _

theorem State.cpm_tearCopy (s : State) (b : Bool) : (s.tearCopy b).cpm = s.cpm := by
  unfold State.tearCopy
  change State.cpm (if s.freeNat.1 % 2 = 0 then s.freeNat.2 else s.freeNat.2.scramble (recAddr b) 32) = s.cpm
  split
  · rfl
  · exact State.cpm_writeBytes _ _ _

/-- What a reset interrupts in flash leaves the CPM alone (R71). -/
theorem State.cpm_tearFlash (s : State) : s.tearFlash.cpm = s.cpm := by
  unfold State.tearFlash
  split
  · rfl
  · simp only [State.freeNat, State.scramble, State.program, State.cpm_writeBytes]
  · exact s.cpm_tearCopy _
  · exact s.cpm_tearCopy _
  · rfl

/-- What a device reset keeps of the supplies and of AON's time base. -/
theorem State.cpm_switchedReset (s : State) (c : ResetCause) (cold keepHly : Bool) :
    let u := (s.switchedReset c cold keepHly).cpm
    u.vio = s.cpm.vio ∧ u.vdda = s.cpm.vdda ∧ u.vddc = s.cpm.vddc ∧ u.vdds = s.cpm.vdds ∧ u.held = s.cpm.held ∧
    u.aon = s.cpm.aon ∧ u.msTick = s.cpm.msTick ∧ u.arcStarted = s.cpm.arcStarted ∧ u.onArc = s.cpm.onArc ∧ u.phase = .inReset := by
  let a := s.enterSafe.resetFaults (clearedBy cold)
  let b := a.flagsReset (a.resetDomains keepHly)
  have e : FaultFrame s b := ((faultFrame_enterSafe s false).trans (faultFrame_resetFaults _ (clearedBy cold))).trans
    (faultFrame_flagsReset _ _)
  have d := (resetFrame_domains b.tearFlash keepHly).cpm
  rw [State.cpm_tearFlash] at d
  have h := e.cpm
  unfold State.switchedReset State.holdReset State.restart
  have hm : ∀ x : State, (x.markReset c keepHly).cpm = x.cpm := fun _ => rfl
  change _ = _ at d
  simp only [hm]
  rw [show (s.enterSafe.resetFaults (clearedBy cold)).flagsReset ((s.enterSafe.resetFaults (clearedBy cold)).resetDomains keepHly) = b from rfl, d]
  generalize b.cpm = q at h
  have h0 := congrArg Cpm.vio h
  have h1 := congrArg Cpm.vdda h
  have h2 := congrArg Cpm.vddc h
  have h3 := congrArg Cpm.vdds h
  have h4 := congrArg Cpm.held h
  have h5 := congrArg Cpm.aon h
  have h6 := congrArg Cpm.msTick h
  have h7 := congrArg Cpm.arcStarted h
  have h8 := congrArg Cpm.onArc h
  exact ⟨h0, h1, h2, h3, h4, h5, h6, h7, h8, trivial⟩

/-- A safe state held without a discharge release stays (R374). -/
theorem enterSafe_held (s : State) (hd : s.drv = .safe) (hw : s.b SSS_STS_WINDREL = false) : s.enterSafe = s := by
  have h : s.endWindrel = s := by unfold State.endWindrel; simp [hw]
  unfold State.enterSafe
  simp [h, hd]

end Sys2Proof.Machine
end

