-- ==== Sys2Proof/Laws/After.lean ====
section
/-!
SUPPORT. The machine after a command: what the settled state shares with the effect it settles, and the form of every
command's meaning.
-/
namespace Sys2Proof.Machine

@[simp] theorem State.after_regs (s x : State) : (s.after x).regs = x.regs := rfl
@[simp] theorem State.after_shadow (s x : State) : (s.after x).shadow = x.shadow := rfl
@[simp] theorem State.after_mem (s x : State) : (s.after x).mem = x.mem := rfl
@[simp] theorem State.after_hoi (s x : State) : (s.after x).hoi = x.hoi := rfl
@[simp] theorem State.after_cpm (s x : State) : (s.after x).cpm = x.cpm := rfl
@[simp] theorem State.after_pwm (s x : State) : (s.after x).pwm = x.pwm := rfl
@[simp] theorem State.after_dis (s x : State) : (s.after x).dis = x.dis := rfl
@[simp] theorem State.after_sense (s x : State) : (s.after x).sense = x.sense := rfl
@[simp] theorem State.after_pos (s x : State) : (s.after x).pos = x.pos := rfl
@[simp] theorem State.after_cle (s x : State) : (s.after x).cle = x.cle := rfl
@[simp] theorem State.after_drive (s x : State) : (s.after x).drive = x.drive := rfl
@[simp] theorem State.after_sss (s x : State) : (s.after x).sss = x.sss := rfl
@[simp] theorem State.after_saf (s x : State) : (s.after x).saf = x.saf := rfl
@[simp] theorem State.after_ss1 (s x : State) : (s.after x).ss1 = x.ss1 := rfl
@[simp] theorem State.after_tmon (s x : State) : (s.after x).tmon = x.tmon := rfl
@[simp] theorem State.after_flt (s x : State) : (s.after x).flt = x.flt := rfl
@[simp] theorem State.after_ax0 (s x : State) : (s.after x).ax0 = x.ax0 := rfl
@[simp] theorem State.after_ax1 (s x : State) : (s.after x).ax1 = x.ax1 := rfl
@[simp] theorem State.after_gdn (s x : State) : (s.after x).gdn = x.gdn := rfl
@[simp] theorem State.after_hly (s x : State) : (s.after x).hly = x.hly := rfl
@[simp] theorem State.after_bst (s x : State) : (s.after x).bst = x.bst := rfl
@[simp] theorem State.after_thm (s x : State) : (s.after x).thm = x.thm := rfl
@[simp] theorem State.after_cores (s x : State) : (s.after x).cores = x.cores := rfl
@[simp] theorem State.after_can0 (s x : State) : (s.after x).can0 = x.can0 := rfl
@[simp] theorem State.after_can1 (s x : State) : (s.after x).can1 = x.can1 := rfl
@[simp] theorem State.after_hsp (s x : State) : (s.after x).hsp = x.hsp := rfl
@[simp] theorem State.after_kern (s x : State) : (s.after x).kern = x.kern := rfl
@[simp] theorem State.after_free (s x : State) : (s.after x).free = x.free := rfl
@[simp] theorem State.after_pending (s x : State) : (s.after x).pending = s.pending := rfl
@[simp] theorem State.after_r (s x : State) (f : Fld) : (s.after x).r f = x.r f := rfl
@[simp] theorem State.after_b (s x : State) (f : Fld) : (s.after x).b f = x.b f := rfl
@[simp] theorem State.after_byte (s x : State) (a : Nat) : (s.after x).byte a = x.byte a := rfl
@[simp] theorem State.after_shadowOf (s x : State) (f : Fld) : (s.after x).shadowOf f = x.shadowOf f := rfl
@[simp] theorem State.after_drv (s x : State) : (s.after x).drv = x.drv := rfl
@[simp] theorem State.after_safest (s x : State) : (s.after x).safest = x.safest := rfl
@[simp] theorem State.after_hasFault (s x : State) (id : Nat) : (s.after x).hasFault id = x.hasFault id := rfl

/-- What a command's meaning answers, in the statements' terms. -/
theorem act_after (s : State) (f : State → State) : act s f = .next (s.after (f s)) := rfl

/-- Every command is an effect with the pins settled. -/
theorem exec_after (c : Instr) (s : State) : ∃ x, exec c s = .next (s.after x) := by
  cases c <;> exact ⟨_, rfl⟩

theorem State.when_true (s : State) (c : Bool) (f : State → State) (h : c = true) : s.when c f = f s := by
  subst h; rfl
theorem State.when_false (s : State) (c : Bool) (f : State → State) (h : c = false) : s.when c f = s := by
  subst h; rfl

@[simp] theorem State.cpm_holdReset_vio (s : State) (b k : Bool) : (s.holdReset b k).cpm.vio = s.cpm.vio := rfl

end Sys2Proof.Machine
end

