-- ==== Sys2Proof/Laws/Images.lean ====
section
/-!
SUPPORT. The checks of an image read memory alone (R74, R75).
-/
namespace Sys2Proof.Machine

theorem State.byte_of_mem (s u : State) (h : s.mem = u.mem) (a : Nat) : s.byte a = u.byte a := by
  unfold State.byte
  rw [h]

theorem State.bytes_of_mem (s u : State) (h : s.mem = u.mem) (a n : Nat) : s.bytes a n = u.bytes a n := by
  induction n generalizing a with
  | zero => rfl
  | succ n ih => unfold State.bytes; rw [s.byte_of_mem u h, ih]

theorem State.readLE_of_mem (s u : State) (h : s.mem = u.mem) (a n : Nat) : s.readLE a n = u.readLE a n := by
  induction n generalizing a with
  | zero => rfl
  | succ n ih => unfold State.readLE; rw [s.byte_of_mem u h, ih]

theorem State.rollback_of_mem (s u : State) (h : s.mem = u.mem) : s.rollback = u.rollback := by
  have e : s.rollbackBit = u.rollbackBit := by
    funext k
    unfold State.rollbackBit
    simp only [s.byte_of_mem u h]
  unfold State.rollback
  rw [e]

/-- Two states with the same memory, and the same errors in it, judge an image alike. -/
theorem State.imageOk_of_mem (s u : State) (h : s.mem = u.mem) (hb : s.cores.badWords = u.cores.badWords) (b : Bool) : s.imageOk b = u.imageOk b := by
  have g : s.header b = u.header b := by
    unfold State.header
    simp only [s.readLE_of_mem u h]
  unfold State.imageOk State.slotWorn State.headerOk State.signerOk State.signatureOk State.keyRevoked State.bigAt
  rw [g, s.rollback_of_mem u h, hb]
  simp only [s.bytes_of_mem u h, s.readLE_of_mem u h, s.byte_of_mem u h]

/-- Step 7 writes registers alone, and takes a free value. -/
theorem State.noteVerdict_mem (s : State) (b : Bool) (differ : Nat) :
    (s.noteVerdict b differ).mem = s.mem ∧ (s.noteVerdict b differ).cores = s.cores := by
  unfold State.noteVerdict
  split
  · unfold State.kernelWrote State.noteLag
    simp only
    split <;> exact ⟨rfl, rfl⟩
  · exact ⟨rfl, rfl⟩

/-- The preferred slot boots when it is confirmed, its image holds and the cores agree on it (R79). -/
theorem State.chooseSlot_confirmed (s : State) (b : Bool) (differ : Nat) (hp : s.bootRec.preferB = b)
    (hc : s.bootRec.state b = .confirmed) (hi : s.imageOk b = true)
    (hw : (s.recWorn false || s.recWorn true) = false) (hd : bit differ (boolBit b 0) = false) :
    s.chooseSlot differ = (s.noteVerdict b differ, some b) := by
  have hv : (s.noteVerdict b differ).imageOk b = true := by
    rw [State.imageOk_of_mem _ s (s.noteVerdict_mem b differ).1 (by rw [(s.noteVerdict_mem b differ).2]), hi]
  have hn : s.noteRecs = s := by unfold State.noteRecs; rw [hw]; rfl
  unfold State.chooseSlot State.trySlot
  simp only [hn, hp, hc, hv, hd, Bool.not_false, Bool.and_self, if_true]

end Sys2Proof.Machine
end

