-- ==== Sys2Proof/Laws/Raises.lean ====
section
/-!
SUPPORT. Raising a fault makes it active, and keeps every other active fault but the three that a new discharge clears
(R121, R404).
-/
namespace Sys2Proof.Machine

open Reg

/-- The faults that the begin of a discharge clears (R121). -/
def disClears : List Nat := [Fid.contactorNotOpen, Fid.dischargeSlow, Fid.windNotRun]

/-- Every active fault but those three stays active. -/
def KeepsActive (s u : State) : Prop := ∀ id, id ∉ disClears → s.hasFault id = true → u.hasFault id = true

theorem KeepsActive.refl (s : State) : KeepsActive s s := fun _ _ h => h
theorem KeepsActive.trans {s u v : State} (h : KeepsActive s u) (g : KeepsActive u v) : KeepsActive s v :=
  fun id hn ha => g id hn (h id hn ha)

/-- An update that leaves the list of active faults. -/
theorem KeepsActive.of {s u : State} (h : u.flt.active = s.flt.active) : KeepsActive s u := by
  intro id _ ha; unfold State.hasFault at *; rw [h]; exact ha

theorem keepsActive_flt (s : State) (x : Flt) (h : x.active = s.flt.active) : KeepsActive s { s with flt := x } := .of h

theorem keepsActive_w (s : State) (k : Fld) (v : Nat) : KeepsActive s (s.w k v) := .of rfl

theorem active_fltEvent (s : State) (k : Nat) : (s.fltEvent k).flt.active = s.flt.active := by
  unfold State.fltEvent; simp only; split <;> rfl

theorem active_record (s : State) (x : FaultRecord) : (s.record x).flt.active = s.flt.active := by
  unfold State.record; split
  · rfl
  · rw [active_fltEvent]; rfl

theorem active_stageOverridden (s : State) : s.stageOverridden.flt.active = s.flt.active := by
  unfold State.stageOverridden; split <;> rfl

/-- Clearing a fault leaves the others. -/
theorem hasFault_dropFault (s : State) (i id : Nat) (who : Role) (hne : id ≠ i) (h : s.hasFault id = true) :
    (s.dropFault i who).hasFault id = true := by
  unfold State.dropFault
  split
  · exact h
  · unfold State.hasFault at *
    rw [active_fltEvent, active_record]
    simp only [List.any_eq_true, List.mem_filter] at *
    obtain ⟨a, ha, hi⟩ := h
    refine ⟨a, ⟨ha, ?_⟩, hi⟩
    simp only [beq_iff_eq] at hi
    simp [hi, hne]

theorem hasFault_autoClear (s : State) (i d id : Nat) (hne : id ≠ i) (h : s.hasFault id = true) :
    (s.autoClear i d).hasFault id = true := by
  unfold State.autoClear
  split
  · exact h
  · next a _ =>
    simp only
    split
    · exact hasFault_dropFault s i id _ hne h
    · unfold State.hasFault at *
      simp only [List.any_eq_true, List.mem_map] at *
      obtain ⟨x, hx, hi⟩ := h
      refine ⟨_, ⟨x, hx, rfl⟩, ?_⟩
      simp only [beq_iff_eq] at hi
      rw [if_neg (by simp [hi, hne])]
      simp [hi]

theorem keepsActive_disBegin (s : State) : KeepsActive s s.disBegin := by
  intro id hn h
  simp only [disClears, List.mem_cons, List.not_mem_nil, or_false, not_or] at hn
  unfold State.disBegin
  exact hasFault_autoClear _ _ _ _ hn.2.2 (hasFault_autoClear _ _ _ _ hn.2.1 (hasFault_autoClear _ _ _ _ hn.1 h))

theorem keepsActive_disAct (s : State) : KeepsActive s s.disAct := by
  unfold State.disAct
  have h0 : KeepsActive s { s with dis := { s.dis with reqHeld := false } } := .of rfl
  simp only
  split
  · have h1 := h0.trans (keepsActive_disBegin _)
    split
    · split
      · exact h1.trans (.of rfl)
      · exact h1.trans (keepsActive_w _ DIS_STS_STATE 1)
    · exact h1.trans (keepsActive_w _ DIS_STS_STATE 1)
  · exact h0

theorem keepsActive_disRequest (s : State) : KeepsActive s s.disRequest := by
  unfold State.disRequest
  split
  · exact keepsActive_disAct s
  · exact .of rfl

theorem keepsActive_disWake (s : State) : KeepsActive s s.disWake := by
  unfold State.disWake
  split
  · exact keepsActive_disRequest s
  · exact .refl s

theorem active_holdSafe (s : State) (x : SafeState) : (s.holdSafe x).flt.active = s.flt.active := rfl

theorem active_endWindrel (s : State) : s.endWindrel.flt.active = s.flt.active := by
  unfold State.endWindrel
  split
  · rw [active_stageOverridden]; rfl
  · rfl

theorem active_readFieldParams (s : State) : s.readFieldParams.flt.active = s.flt.active := by
  unfold State.readFieldParams
  split <;> rfl

theorem keepsActive_sss (s : State) (x : Sss) : KeepsActive s { s with sss := x } := .of rfl
theorem keepsActive_drive (s : State) (x : Drive) : KeepsActive s { s with drive := x } := .of rfl
theorem keepsActive_stageOverridden (s : State) : KeepsActive s s.stageOverridden := .of (active_stageOverridden s)

theorem keepsActive_leaveTest (s : State) : KeepsActive s s.leaveTest := .of rfl

theorem keepsActive_holdSafe (s : State) (x : SafeState) :
    KeepsActive s (((s.holdSafe x).w SSS_STS_DSTATE 4).w SSS_STS_SS1RUN 0) := .of rfl

theorem keepsActive_enterSafe (s : State) (own : Bool) : KeepsActive s (s.enterSafe own) := by
  unfold State.enterSafe
  have h0 : KeepsActive s s.endWindrel := .of (active_endWindrel s)
  simp only
  split
  · exact h0
  · have h1 := h0.trans (.of (active_readFieldParams s.endWindrel))
    have h2 := h1.trans (keepsActive_leaveTest _)
    have h3 := h2.trans (keepsActive_holdSafe _ s.endWindrel.readFieldParams.leaveTest.safeChoice)
    exact (((h3.trans (keepsActive_sss _ _)).trans (keepsActive_stageOverridden _)).trans (keepsActive_drive _ _)).trans
      (keepsActive_disWake _)

theorem active_raiseRecord (s : State) (x : Reaction) : (s.raiseRecord x).flt.active = s.flt.active := by
  unfold State.raiseRecord
  extract_lets limited recent u
  cases limited && recent
  · exact active_record s _
  · rfl

theorem active_bstAbort (s : State) (k : Nat) : (s.bstAbort k).flt.active = s.flt.active := by
  unfold State.bstAbort
  split
  · split
    · simp only [State.setBit, State.bumpSat]
      split <;> split <;> rfl
    · rfl
  · rfl

theorem active_bstAbortAll (s : State) : s.bstAbortAll.flt.active = s.flt.active := by
  unfold State.bstAbortAll
  generalize List.range 17 = l
  induction l generalizing s with
  | nil => rfl
  | cons k l ih => exact (ih _).trans (active_bstAbort s k)

theorem active_raiseStops (s : State) (c : FaultClass) : (s.raiseStops c).flt.active = s.flt.active := by
  unfold State.raiseStops
  split
  · exact (active_bstAbortAll _).trans (active_endWindrel s)
  · rfl

theorem active_buntingAbort (s : State) : s.buntingAbort.flt.active = s.flt.active := by
  unfold State.buntingAbort
  split <;> rfl

theorem keepsActive_reactSteps (s : State) (x : Reaction) : KeepsActive s (s.reactSteps x) := by
  have hb : KeepsActive s (((s.enterSafe).stopAxes).buntingAbort).bstAbortAll := by
    refine (keepsActive_enterSafe s false).trans (.of ?_)
    rw [active_bstAbortAll, active_buntingAbort]; rfl
  unfold State.reactSteps
  split
  · exact .refl s
  · split
    · exact (hb.trans (.of (active_raiseRecord _ _))).trans (keepsActive_disRequest _)
    · exact hb.trans (.of (active_raiseRecord _ _))
    · exact .of (active_raiseRecord _ _)

theorem keepsActive_startReaction (s : State) (x : Reaction) : KeepsActive s (s.startReaction x) :=
  (keepsActive_reactSteps s x).trans (.of rfl)

theorem keepsActive_pumpReactions (n : Nat) (s : State) : KeepsActive s (s.pumpReactions n) := by
  induction n generalizing s with
  | zero => exact .refl s
  | succ n ih =>
    unfold State.pumpReactions
    split
    · exact .refl s
    · split
      · exact .refl s
      · refine KeepsActive.trans (.of ?_) ((keepsActive_startReaction _ _).trans (ih _))
        rfl

theorem keepsActive_submit (s : State) (x : Reaction) : KeepsActive s (s.submit x).1 := by
  unfold State.submit
  split
  · exact (keepsActive_startReaction s x).trans (keepsActive_pumpReactions _ _)
  · next y _ =>
    split
    · have h := keepsActive_flt s { s.flt with preempted := y :: s.flt.preempted, current := none } rfl
      exact (h.trans (keepsActive_startReaction _ _)).trans (keepsActive_pumpReactions _ _)
    · split
      · exact keepsActive_flt s { s.flt with queue := s.flt.queue ++ [x] } rfl
      · exact .refl s

theorem active_noteRaise (s : State) (id d : Nat) (c : FaultClass) : (s.noteRaise id d c).flt.active = s.flt.active := by
  unfold State.noteRaise; rw [active_fltEvent]; rfl

/-- The part of a raise that may not overflow: it makes its fault active and keeps the others. -/
theorem keepsActive_raiseCore (s : State) (id d : Nat) (c : FaultClass) :
    KeepsActive s (s.raiseCore id d c).1 ∧ (id ∉ disClears → (s.raiseCore id d c).1.hasFault id = true) := by
  have ha : (((s.noteRaise id d c).countOcc id).raiseStops c).flt.active = s.flt.active :=
    (active_raiseStops _ c).trans (active_noteRaise s id d c)
  unfold State.raiseCore
  simp only
  split
  · refine ⟨?_, ?_⟩
    · refine KeepsActive.trans (u := _) ?_ (keepsActive_submit _ _)
      intro i _ h
      unfold State.hasFault at *
      simp only [ha, List.any_append, h, Bool.true_or]
    · intro hn
      apply keepsActive_submit _ _ id hn
      unfold State.hasFault
      simp
  · next a hf =>
    have hmap : ∀ (a' : ActiveFault) i, a'.id = id → (s.flt.active.any (fun x => x.id == i) = true) →
        (s.flt.active.map (fun x => if x.id == id then a' else x)).any (fun x => x.id == i) = true := by
      intro a' i hi h
      rw [List.any_eq_true] at *
      obtain ⟨x, hx, hxi⟩ := h
      refine ⟨_, List.mem_map.mpr ⟨x, hx, rfl⟩, ?_⟩
      by_cases he : x.id = id
      · simp only [he, beq_self_eq_true, if_true]
        simp only [beq_iff_eq] at hxi
        simp [hi, ← hxi, he]
      · rw [if_neg (by simpa using he)]; exact hxi
    have haid : a.id = id := by
      have := List.find?_some hf
      simpa using this
    have hid : s.flt.active.any (fun x => x.id == id) = true := by
      rw [List.any_eq_true]
      refine ⟨a, ?_, by simp [haid]⟩
      rw [ha] at hf
      exact List.mem_of_find?_eq_some hf
    refine ⟨?_, ?_⟩
    · intro i _ h
      split <;> (unfold State.hasFault; (try rw [active_raiseRecord]); simp only [ha]; exact hmap _ i haid h)
    · intro _
      split <;> (unfold State.hasFault; (try rw [active_raiseRecord]); simp only [ha]; exact hmap _ id haid hid)

/-- An overflow's own raise, with its steps when no entry is free, keeps every other active fault (R408). -/
theorem keepsActive_overflow (s : State) (x : Reaction) (id d : Nat) :
    KeepsActive s (if (s.raiseCore id d x.cls).2 = true then (s.raiseCore id d x.cls).1
      else (s.raiseCore id d x.cls).1.reactSteps x) := by
  have h := (keepsActive_raiseCore s id d x.cls).1
  split
  · exact h
  · exact h.trans (keepsActive_reactSteps _ x)

/-- A raise keeps every other active fault. -/
theorem keepsActive_raise (s : State) (id d : Nat) : KeepsActive s (s.raise id d) := by
  unfold State.raise
  have h0 := (KeepsActive.of (active_bstAbort s 1)).trans (keepsActive_raiseCore (s.bstAbort 1) id d ((s.bstAbort 1).classOf id)).1
  simp only
  split
  · exact h0
  · refine h0.trans (KeepsActive.trans (.of ?_) (keepsActive_overflow _ _ _ _))
    rw [active_fltEvent]; rfl

/-- A raise makes its fault active (R404). -/
theorem hasFault_raise (s : State) (id d : Nat) (hn : id ∉ disClears) : (s.raise id d).hasFault id = true := by
  unfold State.raise
  have h0 := (keepsActive_raiseCore (s.bstAbort 1) id d ((s.bstAbort 1).classOf id)).2 hn
  simp only
  split
  · exact h0
  · refine KeepsActive.trans (.of ?_) (keepsActive_overflow _ _ _ _) id hn h0
    rw [active_fltEvent]; rfl

end Sys2Proof.Machine
end

