-- ==== Sys2Proof/Tests/Slice0.lean ====
section
/-!
SUPPORT. Tests: terms that each check of WellFormed refuses, states and operands that meet the hypotheses of every statement,
clause by clause, and some results of single commands worked out by hand from the rules.
-/
namespace Sys2Proof.Tests

open Sys2Proof.Machine Sys2Proof.Reg

set_option maxRecDepth 100000
set_option Elab.async false

/-- What a meaning answers. -/
def afterF (c : State → Host.Outcome State Fault Refusal) (s : State) : State := match c s with | .next u => u | _ => s

/-- What a command answers. -/
def after (c : Instr) (s : State) : State := match exec c s with | .next u => u | _ => s

/-- A running device: every supply and domain up, nothing in reset, the drive in SAFE with FREEWHEEL. -/
def up : State :=
  (({ cpm := { vio := true, vdda := true, vddc := true, vdds := true, held := [.vio, .vdda, .vddc, .vdds], phase := .running, inReset := 0, arcStarted := true, onArc := true } } : State).w CPM_STATE_DOMON 0x1FF)

/-- The same with the drive in OFF, in ARMED and in RUN. -/
def off : State := up.w SSS_STS_DSTATE 0

def armed : State := ((up.w SSS_STS_DSTATE 1).w SSS_STS_OVR 0).w SSS_STS_SAFEST 0

def running : State := ((up.w SSS_STS_DSTATE 2).w SSS_STS_OVR 0).w SSS_STS_SAFEST 0

def tripped : State := ((armed.w PWM_TRIPPAT_PAT 0b10).w PWM_DTMAX_DTMAX 100).w PWM_TRIPSTS_LATCH 1

def heldL : State := { up.w SSS_STS_SAFEST 2 with sss := { up.sss with ascOn := true } }

def heldH : State := { up.w SSS_STS_SAFEST 3 with sss := { up.sss with ascOn := true } }

def upM := (up.writeLE 0x20010000 5 4).writeLE 0x30000100 7 4

def inRom : State := { up with cpm := { up.cpm with phase := .rom } }

def onTrial : State := { up with cpm := { up.cpm with trialRun := true } }

def hlyOff : State := up.w CPM_STATE_DOMON (0x1FF - 2 ^ domBit .hly)

def parkedNow : State := { up with cpm := { up.cpm with dev := .parked } }

def tapDark : State := { up with cpm := { up.cpm with vio := false }, pwm := { up.pwm with extest := true } }

def hlyUp : State := (up.w HLY_CTRL_PORTEN 1).w HLY_STS_RSTATE 1

def cleOff : State := up.domainAsk .cle false

def cleAsked : State := cleOff.domainAsk .cle true

def napper : State := (up.w CPM_SLEEPCFG_IMPLNAP 1).w CPM_SLEEPCFG_HLYNAP 1

def reloading : State := { up with cpm := { up.cpm with codeReload := true, cleReload := true, stopFrom := some 5, coasting := true, msTick := 10005 } }

def sleepy : State := up.w CPM_SLEEPCFG_SLPCAP 4

def timed : State := ((up.w CPM_SLEEPCFG_SLPCAP 2).w CPM_TIMEREV_TIMEREV 1).w CPM_SLEEPCFG_MARGIN 31

def napping : State := settle (((up.w CPM_SLEEPCFG_SLPCAP 2).w HLY_STS_RSTATE 2).enterSleep .nap)

def napT : State := (napping.w CPM_TIMEREV_TIMEREV 9).w CPM_HDLN_HDLN 9

def dormant : State := settle ((up.w CPM_SLEEPCFG_SLPCAP 3).enterSleep .dormant)

def noVio : State := (after (.supplyLow .vio) dormant).w CPM_TIMEREV_TIMEREV 9

def wakeWaits : State := after (.timerCompare) ((after (.supplyLow .vddc) noVio) |> fun s => { s with cpm := { s.cpm with dev := .dormant, held := [.vio] } } |>.w CPM_TIMEREV_TIMEREV 9)

def cold : State := after .nrst up

/-- A field alone in a word that a writer reaches. -/
def plain (f : Fld) : Bool :=
  decide (fieldsAt f.addr = [f] ∧ f.addr < 2 ^ 32 ∧ f.addr % 4 = 0 ∧ kindOf f.addr = .window) && (up.answers f.addr && !staged f && !up.canReserved f)
    && !(winNo f.addr == 0x12 && within (f.addr % 0x800) 0x100 1728)

def cutH : State := { up with hoi := { up.hoi with cut := [.H] } }

def waiting : State := (up.ws PWM_TRIPPAT_PAT 5).ws (PWM_CMP_CMP 0) 9

def napTick : State := (up.w HLY_STS_RSTATE 2).modCpm fun c => { c with dev := .nap }

def dark : State := { up with cpm := { up.cpm with inReset := 0x1FF } }

def woken : State := { up with hoi := { up.hoi with wakeH := true, base := 7 } }

def held : State := { up with hoi := { up.hoi with cut := [.L], withheld := [.L], opened := [(.cle, .L)] } }

def freed : State := { waiting with hoi := { waiting.hoi with cut := [.H] } }

def atBoot : State := up.modCpm fun c => { c with phase := .rom }

def lateSet : State := { up with hoi := { up.hoi with cut := [.T], opened := [(.cle, .T)] } }

def openT : State := { up with hoi := { up.hoi with opened := [(.cle, .T)] } }

def dueT : State := { up.w HOI_OPENMAX_TMAX 0 with hoi := { up.hoi with opened := [(.cle, .T), (.host, .T)], forced := [(.cle, .T)], cut := [.T], count := ⟨1, 0, 0, 0, 0⟩ } }

def holding : State := { (up.w HOI_STS_LOCK 3).w HOI_DISC_HOLDN 4 with hoi := { up.hoi with missing := 4 } }

def deadT : State := (((((up.w PWM_DTMIN_DTMIN 10).w PWM_DTMAX_DTMAX 200).w (PWM_DTA_HLP 0) 10).w (PWM_DTA_LHN 0) 200).w PWM_CTRL_ADAPT 1).w PWM_SNCFG_SNEN 1

def deadBack : State := up.w PWM_DTMIN_DTMIN 500 |>.w PWM_DTMAX_DTMAX 200

def aWatch : SnWatch := ⟨true, -1, 0, 100⟩

def starting : State := { armed.w PWM_STS_STATE 1 with pwm := { armed.pwm with precharge := some 40, legA := { on := .low } } }

def edging : State := { running.w PWM_STS_STATE 2 with pwm := { running.pwm with legA := { on := .low, plan := [(1000, true)] } } }

def turning : State := { running.w PWM_STS_STATE 2 with pwm := { running.pwm with legB := { turnOn := some (true, 70) } } }

def watching : State := { deadT with pwm := { deadT.pwm with legA := { watch := some aWatch, miss := 1 } } }

def sensed : State := { ((((deadT.w (SDX_RES_VALID 3) 1).w (SDX_RES_VALUE 3) 50000).w PWM_SNCFG_CHKDLY 2).w SSS_STS_OVR 0) with pins := { deadT.pins with padA := { hi := true, onHi := 5 } }, pwm := { deadT.pwm with legA := { on := .high, rbHi := 1 } } }

def maskedTrips : State := (running.w PWM_TRIPPAT_PAT 0).w PWM_TRIPFILT_F0_F3 0x03000000

def tripHeld : State := (((off.w PWM_TRIPSTS_LATCH 3).w PWM_STS_STATE 3).w PWM_TRIPSTS_FIRST 0)

def charged : State := (off.w (SDX_RES_VALID 3) 1).w (SDX_RES_VALUE 3) 400000

def asked : State := { charged.w DIS_STS_STATE 1 with dis := { reqAt := 0 } }

def probing : State := { charged.w DIS_STS_STATE 2 with dis := { probeAt := some 0, v0 := some 400000 } }

def disch : State := { charged.w DIS_STS_STATE 3 with dis := { startAt := some 0, v0 := some 400000, halfFrom := some 0 } }

def sdxUp : State := (((((((((up.w SDX_CTRL_EN 63).w SDX_CTRL_CKEN0 1).w SDX_CTRL_CKEN1 1).w (SDX_IN_CAPDLY 2) 3).w (SDX_GAIN_GAIN 0) 8388608).w (SDX_GAIN_GAIN 2) 8388608).w SDX_WIN_KMAX 8).w SDX_WIN_SETTLE 0).w SDX_OC_OCTH 20).w SDX_OC_OVTH 20

/-- Thirty edges that read 1 and ten that read 0 on the chosen cycle. -/
def someBits : Stream := { ck0 := List.replicate 30 0xF ++ List.replicate 10 0xFFFFFFF0 }

def withDue (n : Nat) (w : Window) : State := sdxUp.setLegWin n { due := some w }

def ones15 : Stream := ⟨0, List.replicate 15 0xFFFFFFFF, 0, List.replicate 15 0xFFFFFFFF⟩

def zeros64 : Stream := { ck1 := List.replicate 64 0 }

def inWindow : State := ({ sdxUp with hoi := { sdxUp.hoi with base := 8000 } } : State).setLegWin 2 { since := some 0 }

def fallen : State := { ((up.w SDX_STS_FBACT 1).w SDX_FB_RETN 8).w SDX_FB_FBTMAX 255 with sense := { cause := { predict := true }, goodRun := 8, singleMs := 2550 } }

def calRun : State := ((off.w SDX_STS_CALBUSY 1).w SDX_CTRL_EN 7).w SDX_CTRL_CKEN0 1

/-- Slots 0 to 2 convert inputs 0, 1 and 0; the samples within 100 ns of the boundary count. -/
def hallUp : State := (((((up.w PCV_CTRL_EN 1).w PCV_CTRL_SEQLEN 2).w PCV_SEQ0_SLOT0_7 0x010).w PCV_HALL_HA 0).w PCV_HALL_HB 1).w PCV_HALL_HWIN 4

def hallCodes : List (BitVec 12) := [5, 4095, 77, 9, 10, 11]

def fcvUp : State := { (up.w FCV_CTRL_EN 3).w (scanField 1) 1 with sense := { fcv1 := { sinceScan := 1 } } }

def fcvBusy : State := (fcvUp.w FCV_STS_BUSY 2).setFcv 1 { sinceScan := 1, waiting := true }

def fcvConv : State := (fcvBusy.w (FCV_ENT_AVG 15) 1).setFcv 1 { entry := some 15 }

def fcvMoved : State := fcvConv.setFcv 1 { entry := some 15, discard := true }

def hallModeE : State := (up.w POS_CTRL_EN 63).w POS_ECFG_HALL 1

def posUp : State := ((up.w POS_CTRL_EN 63).w POS_RLIM_AMIN 1000).w POS_RLIM_AMAX 2000

/-- Sixteen samples of one excitation period in phase with it, of amplitude 600 and 800. -/
def sin16 : Vector (BitVec 12) 16 := #v[BitVec.ofInt 12 (0), BitVec.ofInt 12 (230), BitVec.ofInt 12 (424), BitVec.ofInt 12 (554), BitVec.ofInt 12 (600), BitVec.ofInt 12 (554), BitVec.ofInt 12 (424), BitVec.ofInt 12 (230), BitVec.ofInt 12 (0), BitVec.ofInt 12 (-230), BitVec.ofInt 12 (-424), BitVec.ofInt 12 (-554), BitVec.ofInt 12 (-600), BitVec.ofInt 12 (-554), BitVec.ofInt 12 (-424), BitVec.ofInt 12 (-230)]

def cos16 : Vector (BitVec 12) 16 := #v[BitVec.ofInt 12 (0), BitVec.ofInt 12 (306), BitVec.ofInt 12 (566), BitVec.ofInt 12 (739), BitVec.ofInt 12 (800), BitVec.ofInt 12 (739), BitVec.ofInt 12 (566), BitVec.ofInt 12 (306), BitVec.ofInt 12 (0), BitVec.ofInt 12 (-306), BitVec.ofInt 12 (-566), BitVec.ofInt 12 (-739), BitVec.ofInt 12 (-800), BitVec.ofInt 12 (-739), BitVec.ofInt 12 (-566), BitVec.ofInt 12 (-306)]

def demod (v : Vector (BitVec 12) 16) : Int := demodulate 0 (v.toList.map BitVec.toInt)

def resUp : State := ((posUp.w POS_RCFG_RPAUTO 0).w POS_RCFG_RPHASE 0).w POS_RLIM_RLOSN 0

def resFar : State := resUp.w POS_RLIM_AMAX 1001

def noVdda : State := { resUp with cpm := { resUp.cpm with vdda := false } }

def illUp : State := (posUp.w POS_ECFG_ILLN 0).w POS_ECFG_FILT 1

def samplesAB : List (Bool × Bool) := [(true, false), (false, false), (false, true), (false, true), (false, true)]

def samplesIll : List (Bool × Bool) := [(true, true), (true, true)]

def idxUp : State := { (((posUp.w POS_ECPR_CPR 4096).w POS_EIDX_IDXPOS 4095).w POS_ECFG_ZQUAL 1).w POS_ECFG_FILT 1 with pos := { posUp.pos with enc := 5000, encAB := (true, false) } }

def zUp : List Bool := [false, true, true]

def idxOff : State := { (idxUp.w POS_EIDXERR_MISSRUN 2).w POS_ECFG_IDX_WIN 3 with pos := { posUp.pos with enc := 5000, encAB := (true, false), idxFirst := false } }

def hallMode : State := { posUp.w POS_ECFG_HALL 1 with pos := { posUp.pos with sector := some 5 } }

def ssiUp : State := { ((posUp.w POS_SWCFG_SENT 0).w POS_SWTIM_RETRY 2).w POS_SWTIM_SWDLY 2 with pos := { posUp.pos with req := some ⟨0, 3, 0, false⟩ } }

/-- Each rise's sample at SWDLY reads the bit. -/
def risesOf (l : List Bool) : List (BitVec 256) := l.map (fun b => if b then 4 else 0)

def ssiRises : List (BitVec 256) := risesOf (List.replicate (ssiUp.r POS_SWCFG_SKIP) true ++ true :: List.replicate (ssiUp.dataBits + (if ssiUp.b POS_SWCFG_ERRB then 1 else 0) - 1) false)

def ssiLate : State := { ssiUp with pos := { ssiUp.pos with epoch := 1 } }

def ssiBad : State := { ssiUp with pos := { ssiUp.pos with req := some ⟨0, 3, 1, true⟩ } }

def ssiSoon : State := { ssiUp with pos := { ssiUp.pos with req := some ⟨0, 3, 1, true⟩, swBusy := 4000 } }

def ssiLast : State := { ssiUp with pos := { ssiUp.pos with req := some ⟨0, 3, 2, false⟩ } }

def sentUp : State := { ((((posUp.w POS_SWCFG_SENT 1).w POS_SENT_NIB 2).w POS_SENT_TICK 3).w POS_SENT_CRCV 1).w POS_SENT_PAUSE 1 with hoi := { posUp.hoi with base := 100000 } }

def sentFull : State := { sentUp with pos := { sentUp.pos with slow := List.replicate 32 (1, 1) } }

/-- A tick of 60 u: a nibble's pulse takes 12 ticks more than its value. -/
def pulsesOf (l : List Nat) : List Nat := l.map (fun n => 60 * (12 + n))

def ppsUp : State := { posUp with pos := { posUp.pos with ppsAt := some 0 } }

def resGood : State := { posUp with pos := { posUp.pos with resValid := true } }

def exacts : List Exact := [⟨8388608, 0, 1, -23⟩, ⟨-5, 0, 1, 0⟩, {}, {}, {}, {}, {}, ⟨1, 0, 1, -60⟩]

def inst : Instance := ⟨1, 5, 100, true, [(0, {}), (1, {}), (8, {})], [(0, {})], false⟩

def cleUp : State := { (((up.w CLE_CTRL_RUN 1).w (CLE_PCFG_PRIO 1) 1).w CLE_CTRL_PEN 2) with cle := { up.cle with started := [inst], slots := up.cle.slots.set 1 { enabled := true } } }

def cleSoft : State := { cleUp with cle := { cleUp.cle with softWords := [cleProgAddr 5, cleDataAddr 8] } }

def cleOdd : State := cleUp.setBank (cleUp.prio 1) ((cleUp.bankOf inst).setPtr 1 1)

def cleBadD : State := { cleUp with cle := { cleUp.cle with badWords := [cleDataAddr 15] } }

def cleBadT : State := { cleUp with cle := { cleUp.cle with badWords := [cleDataAddr 0] } }

def cleBadP : State := { cleUp with cle := { cleUp.cle with badWords := [cleProgAddr 5] } }

def cleEnd : State := { cleUp with cle := { cleUp.cle with started := [{ inst with pc := 4096 }] } }

def cleIdle : State := { cleUp.w CLE_STS_FIRST 2 with cle := { cleUp.cle with started := [], slots := up.cle.slots.set 1 { enabled := true, divCount := 1, due := some 5 } } }

def reloadingCle : State := { off with cpm := { off.cpm with cleReload := true } }

def enab : State := { up.w CLE_CTRL_PEN 2 with cle := { up.cle with slots := up.cle.slots.set 1 { enabling := true } } }

def enabGood : State := enab.w (CLE_PCRC_CRC 1) (crc32 (enab.bytes (cleProgAddr (enab.r (CLE_PCFG_ENTRY 1))) (4 * (enab.r (CLE_PCFG_LENM1 1) + 1))))

def aged : State := { up.w CLE_CTRL_CHKEN 0 with cle := { up.cle with sinceArith := 9, slots := up.cle.slots.set 1 { enabled := true, sincePass := 3 } } }

def spUp : State := ((up.w CLE_SPSEL_SP 6).w CLE_SPSEL_LANE 7)

def passing : State := { (enabGood.w CLE_CTRL_CHKEN 1) with cle := { up.cle with slots := up.cle.slots.set 1 { enabled := true, sincePass := 3 } } }

def starved : State := { passing with cle := { passing.cle with sinceArith := 64 } }

def bunt : State := ((cleIdle.w CLE_BCTRL_PACE 1).w CLE_BCTRL_ARM 1).w CLE_BBUF_BASE 0x20010000

/-- A device whose settings let the drive be armed: IMAX 500 A, the motor constants of the safety block set. -/
def ready : State :=
  { ((off.w (spFld 7 2) 8192000).w (spFld 7 8) 9).w SSS_CFG_ASCDLY 255 with
    cpm := { off.cpm with ready := true }
    sss := { off.sss with goodOuter := 2 }
    kern := { blockOk := true, params := [(0x307, 14), (0x309, 4), (0x30A, 0x3F800000), (0x30B, 0x3F800000), (0x30C, 0x3F800000), (0x30D, 0x3F800000)] } }

/-- The same in ARMED with the three programs of the drive's field control enabled. -/
def readyA : State :=
  (((((((((((((((ready.w SSS_STS_DSTATE 1).w SSS_STS_OVR 0).w SSS_STS_SAFEST 0).w CLE_CTRL_PEN 7).w
    (CLE_PCFG_CURLOOP 0) 1).w (CLE_PCFG_TSRC 0) 1).w (CLE_PCFG_TLEV 0) 0).w (CLE_PCFG_PRIO 0) 0).w
    (CLE_PCFG_TLEV 1) 2).w (CLE_PCFG_PRIO 1) 1).w (CLE_PCFG_TLEV 2) 3).w (CLE_PCFG_PRIO 2) 2).w (CLE_PTIM_DIV 1) 0).w (CLE_PTIM_DIV 2) 0).w PWM_DTMAX_DTMAX 9600)

/-- The drive service in a state since instant 0, MBOX1 holding a speed of m Hz. -/
def svc (x : DriveSvc) (m : Nat) : State :=
  { ((((((readyA.w (SDX_RES_VALID 4) 1).w (SDX_RES_VALID 5) 1).w (SDX_RES_VALUE 4) 1000).w (SDX_RES_VALUE 5) 1000).w (CLE_MBOX_M 1 1) m).w (CLE_MBOX_M 1 3) 100).w (CLE_MBOX8_E 1) 23 with
    drive := { svc := x, since := some 0, bad := 3, holdFrom := some 0 } }

def late : Nat := 3000000000

def lastTry : State := { svc .ramp 0 with drive := { (svc .ramp 0).drive with tries := 2 } }

def recatch : State := { svc .catch 0 with drive := { (svc .catch 0).drive with fromLost := true } }

def readyS : State := { (ready.w SSS_STS_DSTATE 4) with sss := { ready.sss with motorStill := true } }

def readyIdle : State := { ready with cpm := { ready.cpm with dev := .idle } }

def notReady : State := { ready with cpm := { ready.cpm with ready := false } }

def readyC : State := { ready with kern := { ready.kern with blockOk := false } }

def stopping : State := { (running.w SSS_STS_DSTATE 3).w SSS_STS_SS1RUN 1 with sss := { running.sss with ss1Wait := true } }

def tested4 : State := { off with sss := { off.sss with passed := 15, overdue := true, runPeriods := 9 } }

def testDone : State := { (off.w SAF_TP_TEST 1).w (SAF_PAIR_TYPE 4) 1 with saf := { off.saf with discSeen := 16 }, cpm := { off.cpm with msTick := 102 } }

def testMissed : State := { testDone with saf := { off.saf with discSeen := 15 } }

def pairUp : State := ((running.w (SAF_PAIR_TYPE 4) 2).w (SAF_PAIR_REACT 4) 1).w (SAF_PAIR_AUTORST 4) 1

def pairIn : State := { pairUp.w SAF_STS_DEMAND 16 with saf := { pairUp.saf with tpo := true, p4 := { a := { level := false }, b := { level := true } } } }

def pairHi : State := { pairUp with saf := { pairUp.saf with tpo := true, pulseFrom := some 0, p4 := { a := { level := true }, b := { level := true } } } }

def outs : State := let s := (up.w SAF_OUT_LEVEL 3).w SAF_OPT_SFBN 1; { s with saf := { s.saf with out1 := { highAt := some 0 } } }

def rst : State := (pairHi.w SAF_STS_RSTREQ 31)

/-- Axis 1 in a state, at position 100. -/
def axis (st : Nat) : State := { up.w (AXS_STS_STATE 1) st with ax1 := { po := 100, pc := Frac.ofInt 100, vel := ⟨7, 1⟩ } }

def axisStopping : State := { axis 2 with ax1 := { (axis 2).ax1 with stopReq := true } }

def segs : State := (((axis 1).w (AXS_SEGSEL_IDX 1) 255).w (AXS_SEGW0_T1 1) 9).w (AXS_SEGW1_P1 1) 0xFFFFFFFF

def still : State := { (axis 1).w (AXS_CUR_STDLY 1) 1 with ax1 := { (axis 1).ax1 with stillUs := 1000 } }

def chop : State := { (axis 1).w (AXS_CTRL_MODE 1) 0 with ax1 := { (axis 1).ax1 with phA := { bridge := .pos, driving := true, code := 3, sense := 1000, longOn := 2 } } }

def chopOff : State := { (axis 1).w (AXS_CTRL_MODE 1) 0 with ax1 := { (axis 1).ax1 with phA := { bridge := .neg, driving := false, code := 300, fast := true, ofs := 9 } } }

def stepDir : State := { ((axis 1).w (AXS_CTRL_MODE 1) 1).w (AXS_CTRL_FLTEN 1) 1 with ax1 := { (axis 1).ax1 with drvLow := some 0 }, hoi := { up.hoi with base := 2000 } }

def hotAxis : State := { axis 2 with ax1 := { (axis 2).ax1 with phB := { overAt := some 0, longOn := 8 } }, hoi := { up.hoi with base := 2000 } }

def ev (sec : Nat) (on : Bool) (inst : Nat) : GdnEvent := ⟨sec, on, inst, 0, 0⟩

def fullOn : State := { up with gdn := { up.gdn with queue := List.replicate 960 (ev 1 true 5) } }

def fullAll : State := { up with gdn := { up.gdn with queue := List.replicate 960 (ev 1 true 5) ++ List.replicate 64 (ev 2 false 7) } }

def gnss : State := (up.w GDN_CTRL_GNSSEN 1).w GDN_FIXD_FIXD 0xFFFFFFFF

def gnssLater (s : State) : State := { s with hoi := { s.hoi with base := 5 * 200000000 } }

def secs : State := (((((up.w GDN_SECSEL_IDX 255).w GDN_SECW0_ALONG 3).w GDN_SECW0_LAT 65535).w GDN_SECW1_WIDTH 4095).w GDN_SECW1_LATON 7).w GDN_EPSEL_IDX 255

def iso : State := { up.w GDN_CTRL_TCGATE 1 with cpm := { up.cpm with msTick := 3000 }, gdn := { up.gdn with iso := .running, actual := [3, 300] } }

/-- Controller 1 on the bus; buffers 0 and 23 transmit. -/
def canUp : State := (((up.w (CAN_CTRL_EN 1) 1).w (CAN_CTRL_FDEN 1) 1).w (CAN_BUFCFG_TX 1) 0x800001).w (CAN_STS_STATE 1) 0

def canReq : State := after (.transmissionRequest 1 .kernel 0xFFFFFF) canUp

def canSend : State := { canReq.w (CAN_STS_TEC 1) 5 with can1 := { canReq.can1 with sending := some 23 } }

def canFlt : State := (((canUp.w (CAN_FLTID_EN 1 15) 1).w (CAN_FLTID_ID 1 15) 5).w (CAN_FLTM_MASK 1 15) 0x1FFFFFFF).w (CAN_RXNEW_NEW 1) 2

def canFull : State := canFlt.w (CAN_RXNEW_NEW 1) 0x7FFFFE

def hly (st0 st1 : Nat) : State := ((up.w (HLY_PORT_LSTATE 0) st0).w (HLY_PORT_LSTATE 1) st1).w HLY_CTRL_PORTEN 3

def training (n : Nat) : State := (hly 0 1).setPort 1 { exchanges := n, delaySum := 90 }

def tenMs : State := { training 16 with hoi := { (training 16).hoi with base := 2000000 } }

def member : State := { ((hly 2 2).w HLY_STS_RSTATE 2).w HLY_CFG_MISSN 0 with hly := { (hly 2 2).hly with missed := 1, late := 4, producers := [⟨3, 0, 4⟩] } }

/-- A cycle frame of an instance with a hop count, for a table of one entry of four bytes. -/
def frame (inst hops : Nat) : List Byte :=
  let f := leBytes 0 2 ++ leBytes inst 2 ++ leBytes 7 4 ++ leBytes 100 4 ++ leBytes hops 2 ++ leBytes 3 2 ++ leBytes 9 4 ++ leBytes 40 4 ++ leBytes 0 4 ++ leBytes 0 4 ++ leBytes 0 4
  f ++ leBytes (crc32 f) 4

def aTable : SlotTable := ⟨3, 9, false, 0, 0, [⟨5, 0, 0, 0, false⟩]⟩

def onRing (st : Nat) : State := { (((hly 2 2).w HLY_STS_RSTATE st).w HLY_RXBUF_BASE 0x20020000).w HLY_NODE_ADDR 5 with hly := { (hly 2 2).hly with table := some aTable, cycle := 7 } }

def lagging : State := { onRing 1 with cores := { (onRing 1).cores with chk := { (onRing 1).cores.chk with view := some ⟨[], true⟩ } } }

def heldEv : State := { onRing 2 with hly := { (onRing 2).hly with held := [⟨3, 0, true, 50⟩] } }

def acx (dst : BitVec 12) (resp : Bool) (seq : BitVec 8) : AcyclicFrame := ⟨resp, seq, dst, false, 8, 4, 1, 2, 0, [1, 2]⟩

def acf (dst : Nat) (resp : Bool) (seq : Nat) : AcFrame := ⟨resp, seq, dst, false, 8, 4, 1, 2, 0, [1, 2]⟩

def ring2 : State := onRing 2

/-- Port 1's buffer of requests that came by port 0 holds n frames. -/
def buffered (n : Nat) : State := ring2.setPort 1 { out := List.replicate n { frame := acf 9 false 77, origin := 0, sent := true } }

def toSend : State := ring2.setPort 0 { txSeq := 255, out := [{ frame := acf 9 false 0, origin := 1 }] }

def sentOnce (src tries : Nat) (resp : Bool) : State := ring2.setPort 0 { txSeq := 1, out := [{ frame := { acf 9 resp 0 with src := src }, origin := 1, sent := true, tries := tries }] }

/-- A core at 0x20010000 with a status word: g5 holds a data address, g6 7, g7 the most negative word, f1 to f4 1.0, −2.0, a NaN and the least subnormal. -/
def coreAt (st : Word) : Core :=
  { pc := 0x20010000, status := st, tbase := 0x20010400, tstatus := 0x51, tpc := 0x20010803
    g := (((Vector.replicate 32 0).set 5 0x20010010).set 6 7).set 7 0x80000000
    f := ((((Vector.replicate 32 0).set 1 0x3F800000).set 2 0xC0000000).set 3 0x7FC00001).set 4 1
    mpu := (Vector.replicate 16 {}).set 3 ⟨0x20010000, 0x20020000, 15⟩ }

def prog (st : Word) : State := { up.writeLE 0x20010010 0xFEDC8899 4 with cores := { main := coreAt st, chk := coreAt st } }

/-- In K, S and U, with traps enabled. -/
def inK : State := prog 0xF4

def inS : State := prog 0xF5

def inU : State := prog 0xF6

/-- The word at the pc has a turned bit. -/
def turnedS : State := { inS with cores := { inS.cores with softWords := [0x20010000] } }

def broken : State := (inS.w DBG_CTRL_OPEN 1).w DBG_STS_STATE 1

def outside (st : Word) (pc : Word) : State := { prog st with cores := { main := { coreAt st with pc := pc }, chk := { coreAt st with pc := pc } } }

def unit' (st a : Word) : State := { prog st with cores := { main := { coreAt st with g := (coreAt st).g.set 5 a }, chk := coreAt st } }

def ckFull : State := { inS with cores := { main := { coreAt 0xF5 with pennants := List.replicate 16 ⟨1, 2, 3⟩ }, chk := coreAt 0xF5 } }

def trapped : State := prog 0xFD

def lockedO : State := { trapped with cores := { main := coreAt 0xFD, chk := { coreAt 0xFD with tcause := 0x41 } } }

def stalled : State := { trapped with cpm := { trapped.cpm with codeReload := true } }

/-- g5 at SSS_CMD, with posts waiting at the two cores. -/
def posts (gm gc : List Post) : State :=
  { prog 0xF4 with cores := { main := { coreAt 0xF4 with g := (coreAt 0xF4).g.set 5 0x40003000, gsw := gm }, chk := { coreAt 0xF4 with gsw := gc } } }

def sevens (n : Nat) : List Post := List.replicate n ⟨0x40003000, 7, 9⟩

def ckOther : State := { inS with cores := { main := coreAt 0xF5, chk := { coreAt 0xF5 with pennants := [⟨4, 2, 9⟩] } } }

/-- Both cores in U with every line enabled; a frame entry of L and O due at both. -/
def coreF : Core := { coreAt 0xF6 with ien := 0xFFFFFFFF, ipri := Vector.replicate 4 0x33333333 }

def framed : State := { up with cores := { main := { coreF with frameDue := some [.L, .O] }, chk := { coreF with frameDue := some [.L, .O] } } }

/-- Software lines 24 and 25 at the main core. -/
def lined : State := { up with cores := { main := { coreF with lines := 0x03000000 }, chk := coreF } }

def idling : State := { framed with cpm := { framed.cpm with dev := .idle } }

def region : State := up.w CMP_DUPBASE_BASE 0x20020000

def badWord : State := { up with cores := { up.cores with badWords := [0x20010004] } }

def copying : State := ((region.w CMP_DUPSIZE_SIZE 0x1000).w CMP_STS_DUPSET 1).w CMP_STS_COPYBUSY 1

def copyingM : State := (((copying.writeLE 0x20020FFC 0x11223344 4).writeLE 0x20021000 5 4).writeLE 0x20021FFC 6 4).writeLE 0x20022000 7 4

def makerP : State := { off with kern := { off.kern with sessions := [⟨2, .maker, .program, 0⟩] } }

def debug1 : State := ((makerP.w DBG_CTRL_OPEN 1).w DBG_STS_STATE 1).w (DBG_BP_EN 2) 1

def haltedS : State := { (makerP.w DBG_CTRL_OPEN 1).w DBG_STS_STATE 3 with cores := { main := coreF, chk := coreF }, hoi := { makerP.hoi with base := makerP.hoi.base + 50 } }

def sel (n a : Nat) : State := (((haltedS.w DBG_REGSEL_SEL n).w DBG_MEMADDR_ADDR a).writeLE 0x20020010 9 4).w CMP_DUPBASE_BASE 0x20020000

def selDup : State := ((sel 0 0x20020013).w CMP_DUPSIZE_SIZE 0x1000).w CMP_STS_DUPSET 1

def withKern (f : Kernel → Kernel) : State := { up with kern := f up.kern }

/-- A Maker session of the program, number 2, and an installer's key. -/
def maker2 : State := withKern fun k => { k with sessions := [⟨2, .maker, .program, 9⟩], keyI := (List.range 16).map (BitVec.ofNat 8) }

def ticketS (d : Option (Nat × Word × Word)) : State := withKern fun k => { k with tickets := [⟨3, .program, d⟩] }

def recS : JRecord := ⟨7, 1, 2, 5, 0, [], []⟩

def staged1 : State := withKern fun k => { k with staged := [⟨0x0100, 8, 0, .installer⟩, ⟨0x0301, 20, 0, .maker⟩] }

def staged3 : State := { staged1 with kern := { staged1.kern with sessions := [⟨2, .maker, .program, 9⟩] } }

def pend3 : State := { maker2 with kern := { maker2.kern with block := some ⟨[(0x301, 40)], 77, 2, 5⟩ }, cpm := { maker2.cpm with msTick := 600005 } }

def twice : State := withKern fun k => { k with staged := [⟨0x0100, 8, 0, .installer⟩, ⟨0x0100, 9, 0, .installer⟩] }

def recsS : State := withKern fun k => { k with journal := [recS] }

def nonceS (f : Nat) : State := { maker2 with kern := { maker2.kern with nonces := [⟨.program, .installer, List.replicate 16 3, 5⟩], failI := f }, cpm := { maker2.cpm with msTick := 10005 } }

def theNonce : Nonce := ⟨.program, .installer, List.replicate 16 3, 5⟩

def misS : State := up.w CMP_STS_MIS 1

def dbgS : State := up.w DBG_CTRL_OPEN 1

def aTable2 : SlotTable := ⟨3, 9, false, 0, 0, [⟨5, 0, 0, 0, false⟩, ⟨9, 0, 0, 0, false⟩]⟩

def ringS : State := { ring2 with hly := { ring2.hly with table := some aTable2 } }

def fullOut : State := { ringS with hly := { ringS.hly with trans := (List.range 64).map (fun k => ⟨k, 0, 0, none⟩) } }

def owner : State := { ringS.w HLY_STS_RSTATE 3 with hly := { ringS.hly with pending := some aTable2 } }

def imgMem : List Host.Cell :=
  [(0x8001000, 226), (0x8001001, 244), (0x8001002, 175), (0x8001003, 244), (0x8001004, 84), (0x8001005, 167), (0x8001006, 252), (0x8001007, 210), (0x8001008, 111), (0x8001009, 32), (0x800100A, 148), (0x800100B, 159)]
  ++ [(0x800100C, 123), (0x800100D, 152), (0x800100E, 66), (0x800100F, 52), (0x8001010, 182), (0x8001011, 13), (0x8001012, 203), (0x8001013, 107), (0x8001014, 177), (0x8001015, 193), (0x8001016, 200), (0x8001017, 189)]
  ++ [(0x8001018, 68), (0x8001019, 229), (0x800101A, 106), (0x800101B, 152), (0x800101C, 209), (0x800101D, 202), (0x800101E, 53), (0x800101F, 150), (0x101C0000, 84), (0x101C0001, 68), (0x101C0002, 73), (0x101C0003, 77)]
  ++ [(0x101C0004, 1), (0x101C0006, 68), (0x101C0007, 113), (0x101C000C, 16), (0x101C000D, 1), (0x101C0012, 1), (0x101C0013, 32), (0x101C0014, 16), (0x101C0026, 1), (0x101C0027, 32), (0x101C0028, 7), (0x101C002C, 60)]
  ++ [(0x101C0040, 104), (0x101C0041, 128), (0x101C0042, 157), (0x101C0043, 106), (0x101C0044, 69), (0x101C0045, 234), (0x101C0046, 131), (0x101C0047, 242), (0x101C0048, 214), (0x101C0049, 200), (0x101C004A, 119), (0x101C004B, 166)]
  ++ [(0x101C004C, 179), (0x101C004D, 252), (0x101C004E, 23), (0x101C004F, 178), (0x101C0050, 90), (0x101C0051, 64), (0x101C0052, 253), (0x101C0053, 66), (0x101C0054, 64), (0x101C0055, 6), (0x101C0056, 118), (0x101C0057, 110)]
  ++ [(0x101C0058, 134), (0x101C0059, 255), (0x101C005A, 160), (0x101C005B, 163), (0x101C005C, 158), (0x101C005D, 199), (0x101C005E, 84), (0x101C005F, 246), (0x101C0060, 120), (0x101C0061, 153), (0x101C0062, 102), (0x101C0063, 71)]
  ++ [(0x101C0064, 252), (0x101C0065, 72), (0x101C0066, 11), (0x101C0067, 166), (0x101C0068, 53), (0x101C0069, 27), (0x101C006A, 242), (0x101C006B, 119), (0x101C006C, 226), (0x101C006D, 105), (0x101C006E, 137), (0x101C006F, 192)]
  ++ [(0x101C0070, 195), (0x101C0071, 26), (0x101C0072, 181), (0x101C0073, 4), (0x101C0074, 3), (0x101C0075, 56), (0x101C0076, 82), (0x101C0077, 138), (0x101C0078, 126), (0x101C0079, 79), (0x101C007A, 3), (0x101C007B, 141)]
  ++ [(0x101C007C, 24), (0x101C007D, 123), (0x101C007E, 242), (0x101C007F, 124), (0x101C0080, 209), (0x101C0081, 115), (0x101C0082, 120), (0x101C0083, 34), (0x101C0084, 157), (0x101C0085, 183), (0x101C0086, 4), (0x101C0087, 158)]
  ++ [(0x101C0088, 41), (0x101C0089, 130), (0x101C008A, 233), (0x101C008B, 60), (0x101C008C, 230), (0x101C008D, 173), (0x101C008E, 125), (0x101C008F, 186), (0x101C0090, 219), (0x101C0091, 48), (0x101C0092, 116), (0x101C0093, 159)]
  ++ [(0x101C0094, 198), (0x101C0095, 154), (0x101C0096, 61), (0x101C0097, 41), (0x101C0098, 64), (0x101C0099, 208), (0x101C009A, 142), (0x101C009B, 219), (0x101C009C, 16), (0x101C009D, 85), (0x101C009E, 119), (0x101C009F, 7)]
  ++ [(0x101C00A0, 150), (0x101C00A1, 194), (0x101C00A2, 152), (0x101C00A3, 216), (0x101C00A4, 69), (0x101C00A5, 57), (0x101C00A6, 161), (0x101C00A7, 244), (0x101C00A8, 160), (0x101C00A9, 51), (0x101C00AA, 235), (0x101C00AB, 45)]
  ++ [(0x101C00AC, 129), (0x101C00AD, 125), (0x101C00AE, 3), (0x101C00AF, 119), (0x101C00B0, 242), (0x101C00B1, 64), (0x101C00B2, 164), (0x101C00B3, 99), (0x101C00B4, 229), (0x101C00B5, 230), (0x101C00B6, 188), (0x101C00B7, 248)]
  ++ [(0x101C00B8, 71), (0x101C00B9, 66), (0x101C00BA, 44), (0x101C00BB, 225), (0x101C00BC, 242), (0x101C00BD, 209), (0x101C00BE, 23), (0x101C00BF, 107), (0x101C00C0, 79), (0x101C00C1, 29), (0x101C00C2, 88), (0x101C00C3, 171)]
  ++ [(0x101C00C4, 49), (0x101C00C5, 4), (0x101C00C6, 160), (0x101C00C7, 167), (0x101C00C8, 161), (0x101C00C9, 166), (0x101C00CA, 200), (0x101C00CB, 174), (0x101C00CC, 145), (0x101C00CD, 221), (0x101C00CE, 187), (0x101C00CF, 68)]
  ++ [(0x101C00D0, 142), (0x101C00D1, 144), (0x101C00D2, 108), (0x101C00D3, 93), (0x101C00D4, 195), (0x101C00D5, 123), (0x101C00D6, 121), (0x101C00D7, 102), (0x101C00D8, 93), (0x101C00D9, 212), (0x101C00DA, 118), (0x101C00DB, 31)]
  ++ [(0x101C00DC, 245), (0x101C00DD, 205), (0x101C00DE, 24), (0x101C00DF, 185), (0x101C0100, 1), (0x101C010F, 2)]

/-- A memory that holds a signed image in slot B and its key's hash in OTP; its signature was computed for this test. -/
def imaged : State := { maker2 with mem := imgMem }

def blockS : State := maker2.writeLE 0x20020000 0x0102030405060708 8

def trialS : State := { maker2.w CPM_BOOTSTAT_TRIAL 1 with cpm := { (maker2.w CPM_BOOTSTAT_TRIAL 1).cpm with trialRun := true } }

def doneW : State := { up with kern := { up.kern with queue := [⟨0x10, 7, 0, .program, 0, 8, 9⟩, ⟨0x10, 6, 0, .program, 0, 8, 9⟩], tickets := [⟨7, .program, none⟩] } }

def workS (m : List Host.Cell) (num : Nat) (f : List FlashWork) : State :=
  { up with mem := m, kern := { up.kern with queue := [⟨num, 7, 0, .program, 0, 0, 0⟩], tickets := [⟨7, .program, none⟩], flash := f, newB := true } }

def progS : State := workS [(0x10002000, 1), (0x10003FFF, 1), (0x10004000, 1)] 0x70 [.program 0x10001FF0 ((List.range 32).map (BitVec.ofNat 8))]

def finS : State := workS imgMem 0x71 [.finalise true 3]

def finBad : State := workS [] 0x71 [.finalise true 3]

def reacting (st : Nat) (c : FaultClass) (q : List Reaction) : State := { up.w SSS_STS_DSTATE st with flt := { up.flt with current := some { id := 5, cls := c, derate := false, detail := 0, started := true, tick := 0, ensign := 0 }, queue := q } }

def rD : Reaction := { id := 8, cls := .D, derate := false, detail := 0, started := false, tick := 0, ensign := 0 }

def rC : Reaction := { id := 9, cls := .C, derate := true, detail := 0, started := false, tick := 0, ensign := 0 }

def oneFault (id : Nat) (c : FaultClass) (s : State) : State := { s with flt := { s.flt with active := [{ id := id, cls := c, insts := [0], detail := 0, tick := 0 }] } }

def recF : FaultRecord := ⟨false, .none, 5, 0, .C, 1, 0, 0⟩

def fifoS : State := { up with flt := { up.flt with fifo := [recF] } }

def fullJ : State := { oneFault Fid.journalFull .D fifoS with regs := (up.w ROL_JSTS_NOOVW 1).regs, kern := { up.kern with journal := List.replicate 4096 recS } }

def staleS : State := { ((running.w THM_CTRL_PTEN 1).w THM_OSTOP_STALEN 4).w SSS_STS_DSTATE 3 with thm := { running.thm with stale := 4, pStop := { wait := true, at0 := 7 }, dStop := { wait := true, at0 := 7 } } }

def hotP : State := { (((up.w THM_STS_PLEVEL 3).w THM_CTRL_PTEN 1).w THM_CTRL_DTEN 1) with thm := { up.thm with pOfs := 1000 * 4294967296 } }

def coolP : State := { hotP with thm := { hotP.thm with pOfs := -(100 * 4294967296) } }

def oldS : State := { ((up.w (THM_LIFE_HOURS 3) 1).w (THM_LIFE_HOURS 0) 77).w THM_KEYS_KEYS 9 with thm := { up.thm with unsaved := hourU } }

def bstS (ph : BstPhase) (al : Bool) (k : Nat) : State := up.setBst k { phase := ph, allowed := al }

def hostS (r : Role) : State := { (up.w HSP_CFG_DUMMY 4).writeLE 0x20010000 0x01020304 4 with kern := { up.kern with sessions := [⟨3, r, .host, 0⟩] } }

def hostRec : State := { hostS .installer with cpm := { (hostS .installer).cpm with phase := .recovery } }

def rdCrc (k : Fin 8) (a : Word) (n : Byte) : Byte := BitVec.ofNat 8 (headCrc 1 ⟨a, ⟨k, n, 0⟩⟩)

def wrCrc (k : Fin 8) (a : Word) : Byte := BitVec.ofNat 8 (headCrc 2 ⟨a, ⟨k, 0, 0⟩⟩)

def hd (op : Nat) (k : Fin 8) (a : Word) : FrameHead := ⟨a, ⟨k, 0, BitVec.ofNat 8 (headCrc op ⟨a, ⟨k, 0, 0⟩⟩)⟩⟩

def dcrc (l : List Word) : Byte := BitVec.ofNat 8 (crc8 (wordBytes l))

def lateS : State := { hostS .installer with hsp := { late := some (0x20010000, [7]) } }

def fifteen : State := { up with hsp := { up.hsp with fails := List.replicate 15 0 } }

def statusS : State := up.w HSP_IRQ_EVT 5

def fullQ : State := { up with kern := { up.kern with queue := List.replicate 16 ⟨0, 0, 0, .program, 0, 0, 0⟩ } }

def hostT (d : Option (Nat × Word × Word)) : State := { up with kern := { up.kern with tickets := [⟨5, .host, d⟩] } }

def idleS : State := { up with kern := { up.kern with sessions := [⟨3, .maker, .host, 300000⟩, ⟨1, .maker, .program, 300000⟩] } }

theorem test_StepRunsTheFrontCommand_met :
    (({ up with pending := [.nrst, .vaonPor] } : State).pending = .nrst :: [.vaonPor]) ∧
    (up.pending = []) := by
  decide +kernel

theorem test_LegsNeverShootThroughAndPinsFollow_met :
    ((settle { up with pending := [.nrst] }).safe) := by
  unfold State.safe State.pinsFollow
  decide +kernel

theorem test_ForcedSwitchWaitsItsDeadTime_met :
    ((afterF (execTripAscTurnOn 100) tripped).cpm.vio = true ∧ (afterF (execTripAscTurnOn 100) tripped).extestActive = false ∧
    (afterF (execTripAscTurnOn 100) tripped).b SSS_STS_OVR = false ∧ (afterF (execTripAscTurnOn 100) tripped).latched ≠ [] ∧
    tripped.pins.padA.lo = false ∧ (afterF (execTripAscTurnOn 100) tripped).pins.padA.lo = true) := by
  decide +kernel

theorem test_OverridePatternOfTheSafeState_met :
    ((after .arcStarted up).cpm.vio = true ∧ (after .arcStarted up).extestActive = false ∧ (after .arcStarted up).b SSS_STS_OVR = true ∧ (after .arcStarted up).safest = .freewheel) ∧
    ((after .arcStarted heldL).cpm.vio = true ∧ (after .arcStarted heldL).extestActive = false ∧ (after .arcStarted heldL).b SSS_STS_OVR = true ∧ (after .arcStarted heldL).safest = .ascL ∧ (after .arcStarted heldL).sss.ascOn = true) ∧
    ((after .arcStarted heldH).cpm.vio = true ∧ (after .arcStarted heldH).extestActive = false ∧ (after .arcStarted heldH).b SSS_STS_OVR = true ∧ (after .arcStarted heldH).safest = .ascH ∧ (after .arcStarted heldH).sss.ascOn = true) := by
  decide +kernel

theorem test_EnablesFollowTheSafeState_met :
    ((after .arcStarted heldL).cpm.vio = true ∧ (after .arcStarted heldL).drv = .safe ∧ (after .arcStarted heldL).b SSS_STS_WINDREL = false) := by
  decide +kernel

theorem test_ResetSourcesHoldTheSwitchedDomains_met :
    (heldL.cpm.vio = true ∧ heldL.drv = .safe ∧ heldL.b SSS_STS_WINDREL = false) ∧
    (({ up with cpm := { up.cpm with vio := false } } : State).cpm.vio = false) ∧
    (up.live .sys ∧ upM.mayWrite .kernel CPM_RSTREQ_KEY ∧ up.b CMP_STS_MIS = false) ∧
    ((0x5B : BitVec 8) ≠ 0x5A) ∧
    (inRom.cpm.phase = .inReset ∨ inRom.cpm.phase = .rom) ∧
    (onTrial.cpm.trialRun = true ∧ onTrial.cpm.trialEnd ≤ onTrial.cpm.msTick) := by
  refine ⟨?_, ?_, ?_, ?_, ?_, ?_⟩
  all_goals decide +kernel

theorem test_SuppliesAndPowerOn_met :
    (Supply.vdds = Supply.vdds ∧ up.cpm.phase ≠ .inReset) ∧
    (up.on .hly = true ∧ hlyOff.on .hly = false ∧ bit hlyOff.cpm.rising (domBit .hly) = false) ∧
    (up.live .sys) ∧
    (parkedNow.cpm.dev = .dormant ∨ parkedNow.cpm.dev = .parked) ∧
    (running.cpm.dev ≠ .dormant ∧ running.cpm.dev ≠ .parked) ∧
    (up.on .sys ∧ up.cpm.vio) ∧
    (tapDark.on .sys = false ∨ tapDark.cpm.vio = false) := by
  refine ⟨?_, ?_, ?_, ?_, ?_, ?_, ?_⟩
  all_goals decide +kernel

theorem test_ClockEventsAndTheTick_met :
    (up.live .sys) ∧
    (up.live .sys ∧ up.cpm.onArc = true) ∧
    ((after (.clockOutOfRange true) up).cpm.arcBad = true) := by
  decide +kernel

theorem test_DomainsAndNaps_met :
    (up.live .sys ∧ up.mayWrite .program CPM_DOMREQ_REQ) ∧
    (hlyUp.on .hly = true ∧ hlyUp.mayOff .hly = false) ∧
    (up.on .cle = true ∧ up.mayOff .cle = true) ∧
    (cleOff.on .cle = false) ∧
    (bit cleAsked.cpm.rising (domBit .cle) = true ∧ cleAsked.live .sys ∧ Supply.vio ∈ cleAsked.cpm.held ∧ Supply.vddc ∈ cleAsked.cpm.held) ∧
    (napper.cpm.dev = .run ∧ napper.live .impl ∧ napper.b CPM_SLEEPCFG_IMPLNAP ∧ napper.axesRest ∧ (napper.at 3).eventSoon = false) ∧
    (napper.cpm.dev = .run ∧ napper.live .hly ∧ napper.b CPM_SLEEPCFG_HLYNAP) ∧
    (reloading.cpm.codeReload = true ∧ reloading.cpm.cleReload = true ∧ reloading.live .cle) ∧
    ((reloading.w CPM_SLEEPCFG_STOPMAX 0).cpm.stopFrom = some 5 ∧ reloading.cpm.coasting = true ∧ 5 + 10000 * max 1 ((reloading.w CPM_SLEEPCFG_STOPMAX 0).r CPM_SLEEPCFG_STOPMAX) ≤ reloading.cpm.msTick) := by
  refine ⟨?_, ?_, ?_, ?_, ?_, ?_, ?_, ?_, ?_⟩
  all_goals decide +kernel

theorem test_SleepDepthIsTheDeepestThatFits_met :
    (sleepy.sleepDepth none ≠ .run) ∧
    (devCode (timed.sleepDepth none) < devCode .idle ∧ devCode .idle ≤ timed.sleepCap ∧ timed.maySleep .idle = true) := by
  decide +kernel

theorem test_SleepAndWake_met :
    (sleepy.coresRun ∧ sleepy.cpm.phase = .running ∧ sleepy.inCall = false ∧ sleepy.kernelPasses ∧ sleepy.cpm.dev = .run) ∧
    (napping.asleep ∧ napping.cpm.vio = true ∧ napping.cpm.dev = .nap) ∧
    (napT.asleep ∧ napT.r CPM_TIMEREV_TIMEREV ≠ 0 ∧ napT.r CPM_HDLN_HDLN ≠ 0 ∧ napT.cpm.dev = .nap) ∧
    (napping.cpm.dev = .nap ∧ napping.ringMember) ∧
    ((dormant.cpm.dev = .dormant ∨ dormant.cpm.dev = .parked) ∧ Supply.vddc ∈ dormant.cpm.held ∧ (dormant.deep → dormant.bootPower)) ∧
    (noVio.deep ∧ noVio.bootPower = false ∧ noVio.r CPM_TIMEREV_TIMEREV ≠ 0) ∧
    (wakeWaits.deep ∧ wakeWaits.cpm.wakeDue = true ∧ Supply.vio ∈ wakeWaits.cpm.held) := by
  refine ⟨?_, ?_, ?_, ?_, ?_, ?_, ?_⟩
  all_goals decide +kernel

theorem test_BootHandsOverOrRecovers_met :
    (cold.cpm.phase = .inReset ∧ Supply.vio ∈ cold.cpm.held ∧ Supply.vddc ∈ cold.cpm.held ∧ cold.cpm.dev = .run) := by
  decide +kernel

theorem test_RegisterWriteFollowsTheAccessCode_met :
    (isHost .kernel = false ∧ plain PWM_TRIPPAT_PAT ∧ PWM_TRIPPAT_PAT ∉ [CLE_SPDATA_DATA, GDN_EPW2_OFFPOS] ∧ PWM_TRIPPAT_PAT ∉ limFields 0 ++ limFields 1 ∧ PWM_TRIPPAT_PAT.acc = .rws ∧
    up.mayWrite .kernel PWM_TRIPPAT_PAT ∧ up.levelOf PWM_TRIPPAT_PAT = some .H ∧ Level.H ∉ up.hoi.cut ∧ (∀ e ∈ up.hoi.late, e.key ≠ PWM_TRIPPAT_PAT.key)) ∧
    (PWM_TRIPPAT_PAT.acc = .rws ∧ cutH.mayWrite .kernel PWM_TRIPPAT_PAT ∧ cutH.levelOf PWM_TRIPPAT_PAT = some .H ∧ Level.H ∈ cutH.hoi.cut) ∧
    (plain (CAN_TXDONE_DONE 0) ∧ (CAN_TXDONE_DONE 0).acc = .w1c ∧ (up.w (CAN_TXDONE_DONE 0) 7).mayWrite .kernel (CAN_TXDONE_DONE 0)) ∧
    (plain CPM_BOOTOK_OK ∧ up.mayWrite .program CPM_BOOTOK_OK = false) := by
  decide +kernel

theorem test_SwapMovesTheLevelsShadowsAlone_met :
    (fieldOf PWM_TRIPPAT_PAT.key = some PWM_TRIPPAT_PAT ∧ PWM_TRIPPAT_PAT.width ≤ 32 ∧ PWM_TRIPPAT_PAT.reset < 2 ^ 32 ∧ waiting.levelOf PWM_TRIPPAT_PAT = some .H) ∧
    (fieldOf (PWM_CMP_CMP 0).key = some (PWM_CMP_CMP 0) ∧ waiting.levelOf (PWM_CMP_CMP 0) ≠ some .H) := by
  decide +kernel

theorem test_BoundaryCountsAndSwaps_met :
    (up.live .sys ∧ (up.cpm.dev = .run ∨ up.cpm.dev = .idle)) ∧
    (napTick.cpm.dev = .nap ∧ napTick.ringMember) ∧
    (dark.live .sys = false ∧ dark.cpm.dev ≠ .nap) ∧
    (woken.hoi.wakeH = true ∧ up.hoi.wakeH = false) ∧
    (Level.L ∈ held.hoi.cut ∧ Level.L ∈ held.hoi.withheld) ∧
    (Level.H ∈ freed.hoi.cut ∧ Level.H ∉ freed.hoi.withheld ∧ freed.forceDue .H = false) := by
  refine ⟨?_, ?_, ?_, ?_, ?_, ?_⟩
  all_goals decide +kernel

theorem test_OpenCommitCutOffAndForcedCommit_met :
    (atBoot.live .sys ∧ atBoot.cpm.phase ≠ .running) ∧
    (up.live .sys ∧ up.mayOpen .cle) ∧
    ((1 : BitVec 5).getLsbD (levelBit .T) = true ∧ (Initiator.cle, Level.T) ∈ lateSet.hoi.opened ∧ Level.T ∈ lateSet.hoi.cut) ∧
    (Level.T ∈ openT.comingLevels ∧ Level.T ∉ openT.hoi.cut ∧ Level.T ≠ .H ∧ Level.T ∉ openT.hoi.withheld) ∧
    (Level.T ∈ dueT.comingLevels ∧ Level.T ∈ dueT.hoi.cut ∧ dueT.forceDue .T = true) ∧
    (up.mayWrite .kernel HOI_FRAME_CARP ∧ frameOk 1998 = false) ∧
    (up.mayWrite .kernel HOI_FRAME_CARP ∧ frameOk (2000 + 262144 * 1) = true ∧ Level.H ∉ up.hoi.cut) ∧
    (holding.lock = .holdover ∧ holding.r HOI_DISC_HOLDN ≤ holding.hoi.missing) := by
  refine ⟨?_, ?_, ?_, ?_, ?_, ?_, ?_, ?_⟩
  all_goals decide +kernel

theorem test_DeadTimeStaysWithinItsSettings_met :
    (deadT.r PWM_DTMIN_DTMIN ≤ deadT.r PWM_DTMAX_DTMAX ∧ deadT.r PWM_DTMIN_DTMIN ≤ deadT.r (PWM_DTA_HLP 0) ∧ deadT.r (PWM_DTA_HLP 0) ≤ deadT.r PWM_DTMAX_DTMAX ∧ deadT.r PWM_DTMIN_DTMIN ≤ deadT.r (PWM_DTA_LHN 0) ∧ deadT.r (PWM_DTA_LHN 0) ≤ deadT.r PWM_DTMAX_DTMAX) ∧
    (deadBack.r PWM_DTMAX_DTMAX < deadBack.r PWM_DTMIN_DTMIN) ∧
    (deadT.r PWM_DTMIN_DTMIN ≤ deadT.r PWM_DTMAX_DTMAX ∧ ((deadT.w PWM_CTRL_ADAPT 0).b PWM_CTRL_ADAPT = false ∨ (0 : Int) = 0)) ∧
    (deadT.b PWM_CTRL_ADAPT = true ∧ deadT.b PWM_SNCFG_SNEN = true ∧ (1 : Int) ≠ 0 ∧ selfCommutated true 1 = false) ∧
    ((0 < 3 ∧ deadT.r PWM_DTMAX_DTMAX < 65536 ∧ selfCommutated aWatch.high aWatch.sign = true ∧ aWatch.high = true)) := by
  refine ⟨?_, ?_, ?_, ?_, ?_⟩
  all_goals decide +kernel

theorem test_StageEdgesTurnOffBeforeTheyTurnOn_met :
    (up.pwmLive ∧ up.mayWrite .kernel PWM_CTRL_RUN) ∧
    (starting.pwmLive ∧ starting.stageState = .start ∧ starting.pwm.precharge = some 40 ∧ 40 ≤ (starting.atF 40).nowF) ∧
    (edging.pwmLive ∧ edging.stageState = .run ∧ (edging.leg 0).refresh = [] ∧ (edging.leg 0).plan = (1000, true) :: [] ∧ (edging.leg 0).actual ≠ some true ∧
    max 1000 ((edging.leg 0).openAt + (edging.leg 0).openDead + edging.r PWM_MINP_MINP) ≤ (edging.atF 2000).nowF) ∧
    ((let centre := if (edging.r HOI_POS_HALF == 0) == true then edging.tickStartF + edging.tickF else edging.tickStartF
    let w := if 1000 < centre then 2 * (centre - 1000) else 0
    decide (edging.deadUse 0 true (edging.isign 0) + edging.r PWM_MINP_MINP ≤ w)) = true) ∧
    ((let centre := if (edging.r HOI_POS_HALF == 0) == true then edging.tickStartF + edging.tickF else edging.tickStartF
    let w := if edging.tickF < centre then 2 * (centre - edging.tickF) else 0
    decide (w < edging.deadUse 0 true (edging.isign 0) + edging.r PWM_MINP_MINP)) = true) ∧
    (turning.pwmLive ∧ turning.stageState = .run ∧ (turning.leg 1).turnOn = some (true, 70) ∧ 70 ≤ (turning.atF 70).nowF) := by
  refine ⟨?_, ?_, ?_, ?_, ?_, ?_⟩
  all_goals decide +kernel

theorem test_SwitchNodeWatchAndReadback_met :
    (watching.pwmLive ∧ watching.b PWM_SNCFG_SNEN ∧ (watching.leg 0).watch = some aWatch ∧ aWatch.tOff ≤ (watching.atF 9).nowF ∧ (watching.atF 9).nowF ≤ aWatch.tOff + aWatch.dead + 32 * watching.r PWM_SNCFG_SNTO) ∧
    ((watching.leg 0).watch = some aWatch ∧ aWatch.tOff + aWatch.dead + 32 * watching.r PWM_SNCFG_SNTO ≤ (watching.atF 100000).nowF ∧ watching.r PWM_DTMAX_DTMAX < 65536 ∧
    ((watching.w PWM_SNCFG_MISSN 2).leg 0).miss + 1 = max 1 ((watching.w PWM_SNCFG_MISSN 2).r PWM_SNCFG_MISSN)) ∧
    (sensed.pwmLive ∧ sensed.b PWM_SNCFG_SNEN ∧ (sensed.padLeg 0).hi = true ∧ (sensed.padLeg 0).onHi + 32 * sensed.r PWM_SNCFG_CHKDLY = (sensed.atF 69).nowF ∧ (sensed.leg 0).chkHi ≠ some (sensed.padLeg 0).onHi ∧ sensed.vdc = some 50000 ∧ 1000 * (sensed.r PWM_SNCFG_VMIN : Int) ≤ 50000 ∧ 1 ≤ (sensed.leg 0).rbHi) := by
  decide +kernel

theorem test_TripsLatchAndClear_met :
    (running.pwmLive ∧ running.sourceSeen 0 255 = true ∧ bit (running.r PWM_TRIPSTS_FILT) 0 = false ∧ running.tripPat 0 ≠ 0 ∧ running.latched = []) ∧
    (maskedTrips.tripPat 3 = 0 ∧ maskedTrips.sourceSeen 3 4 = true ∧ maskedTrips.sourceSeen 3 2 = false ∧ maskedTrips.sourceSeen 4 0 = false) ∧
    (tripHeld.mayWrite .kernel PWM_TRIPCLR_CLR ∧ tripHeld.r PWM_TRIPSTS_FILT = 0 ∧ tripHeld.r PWM_TRIPSTS_LATCH < 64 ∧ (∀ n ∈ List.range 6, bit (tripHeld.r PWM_TRIPSTS_LATCH) n = true → (3 : BitVec 6).getLsbD n = true) ∧ tripHeld.stageState = .tripped ∧ tripHeld.pwmLive) ∧
    ((tripHeld.w PWM_TRIPSTS_FILT 1).mayWrite .kernel PWM_TRIPCLR_CLR ∧ (3 : BitVec 6).getLsbD 0 = true ∧ bit ((tripHeld.w PWM_TRIPSTS_FILT 1).r PWM_TRIPSTS_LATCH) 0 = true ∧ bit ((tripHeld.w PWM_TRIPSTS_FILT 1).r PWM_TRIPSTS_FILT) 0 = true) := by
  decide +kernel

theorem test_DischargeStatesAndTimes_met :
    (charged.live .pwm ∧ charged.disLive ∧ charged.tested 5 = false ∧ charged.tested 6 = false ∧ charged.mayWrite .kernel DIS_CTRL_REQ ∧ charged.offOrSafe = true ∧ charged.r DIS_STS_STATE = 0) ∧
    (running.live .pwm ∧ running.disLive ∧ running.offOrSafe = false) ∧
    (asked.vdc = some 400000 ∧ asked.r DIS_STS_STATE = 1 ∧ (asked.w DIS_CFG_INFER 1).b DIS_CFG_INFER = true ∧ asked.dis.probeAt = none) ∧
    (probing.dis.probeAt = some 0 ∧ 0 + 200000 * probing.r DIS_CFG_PROBET ≤ (probing.at (200000 * 65535)).nowU ∧ probing.r DIS_STS_STATE = 2) ∧
    (probing.mayWrite .kernel DIS_CTRL_OPENCONF ∧ (probing.r DIS_STS_STATE = 1 ∨ probing.r DIS_STS_STATE = 2)) ∧
    (asked.r DIS_STS_STATE = 1 ∧ asked.dis.reqAt + 200000000 * asked.r DIS_CFG_CONFT ≤ (asked.at (200000000 * 65535)).nowU) ∧
    (disch.vdc = some 400000 ∧ disch.dis.v0 = some 400000 ∧ disch.dis.halfFrom = some 0 ∧ disch.r DIS_STS_STATE = 3 ∧ disch.disChecking 400000 = true ∧ 200000 * disch.r DIS_THALF_THALF ≤ disch.dis.halfAcc + ((disch.at (200000 * 65535)).nowU - 0) - disch.dis.halfMark) ∧
    (disch.dis.startAt = some 0 ∧ 0 + 200000 * disch.r DIS_LIM_TMAX ≤ (disch.at (200000 * 65535)).nowU ∧ disch.r DIS_STS_STATE = 3 ∧ disch.vdc = some 400000 ∧ ¬ (400000 : Int) ≤ 1000 * (disch.r DIS_LIM_VTGT : Int)) ∧
    ((disch.w (SDX_RES_VALUE 3) 9).vdc = some 9 ∧ (9 : Int) ≤ 1000 * (disch.r DIS_LIM_VTGT : Int)) := by
  refine ⟨?_, ?_, ?_, ?_, ?_, ?_, ?_, ?_, ?_⟩
  all_goals decide +kernel

theorem test_WindowsGiveCorrectedValidResults_met :
    (sdxUp.sdxLive ∧ ((withDue 0 ⟨0, 5119, 5, true, true⟩).legWin 0).due = some ⟨0, 5119, 5, true, true⟩ ∧ sdxUp.b SDX_STS_FBACT = false ∧ 5119 < (withDue 0 ⟨0, 5119, 5, true, true⟩).wminF) ∧
    (let s := withDue 2 ⟨0, 12800, 9, true, false⟩
    s.wminF ≤ 12800 ∧ (windowRaw (usableBits (s.captureAt 2 someBits) s.settleF 12800 (s.capture 2 someBits) 0) s.kmaxUse).isSome = true) ∧
    (bit (inWindow.r SDX_CTRL_EN) 2 = true ∧ bit (inWindow.r SDX_CTRL_EN) 3 = true ∧ 15 ≤ (inWindow.capture 2 ones15).length ∧ 15 ≤ (inWindow.capture 3 ones15).length ∧
    (inWindow.at 3).sinc2Counts 2 = true ∧ sinc2Sum ((inWindow.capture 2 ones15).drop ((inWindow.capture 2 ones15).length - 15)) 0 = 64) ∧
    (bit (sdxUp.r SDX_CTRL_EN) 0 = true ∧ bit (sdxUp.r SDX_CTRL_EN) 5 = true ∧ 4 * 320 ≤ 1280 ∧ sdxUp.stuck 5 zeros64 = true ∧ sdxUp.stuck 5 ones15 = false) := by
  decide +kernel

theorem test_FallbackCalibrationAndHall_met :
    (fallen.sdxLive ∧ fallen.b SDX_STS_FBACT = true ∧ fallen.sense.cause = { predict := true } ∧ fallen.r SDX_FB_RETN ≤ fallen.sense.goodRun) ∧
    ((fallen.b SDX_STS_FBACT = true ∨ fallen.hallFailed = true) ∧ 10 * fallen.r SDX_FB_FBTMAX ≤ fallen.sense.singleMs) ∧
    (up.sdxLive ∧ off.mayWrite .kernel SDX_CTRL_CAL ∧ off.drv = .off ∧ up.drv ≠ .off) ∧
    (calRun.sdxLive ∧ calRun.b SDX_STS_CALBUSY = true ∧ calRun.b PCV_CTRL_EN = false ∧ calRun.hoi.cut = [] ∧ bit (calRun.r SDX_CTRL_EN) 0 = true ∧ bit (calRun.r SDX_CTRL_EN) 1 = true ∧ bit (calRun.r SDX_CTRL_EN) 2 = true ∧ calRun.hoi.late = [] ∧ calRun.clockOn 0 = true ∧ calRun.clockOn 1 = true ∧ calRun.clockOn 2 = true) ∧
    (hallUp.pcvLive ∧ hallUp.b PCV_CTRL_EN = true ∧ hallUp.b SDX_STS_FBACT = false ∧
    ((hallUp.conversions 2 25 hallCodes).filter (fun e => decide (e.2.2 ≤ 25 * hallUp.r PCV_HALL_HWIN) && e.1 == 0)).map (fun e => e.2.1) = [5, 4095, 9]) ∧
    (hallUp.pcvLive ∧ hallUp.b PCV_CTRL_EN = true ∧ (hallUp.w PCV_RANGE_RANGEN 2).atRail [7, 0, 4095] = true) := by
  refine ⟨?_, ?_, ?_, ?_, ?_, ?_⟩
  all_goals decide +kernel

theorem test_FineConversionsScanTheirEntries_met :
    (fcvUp.fcvLive ∧ bit (fcvBusy.r FCV_CTRL_EN) 1 = true ∧ bit (fcvBusy.r FCV_CTRL_CONT) 1 = false ∧ fcvBusy.r (scanField 1) ≠ 0 ∧ fcvBusy.r (scanField 1) ≤ (fcvBusy.fcvMod 1).sinceScan ∧ bit (fcvBusy.r FCV_STS_BUSY) 1 = true) ∧
    (bit (fcvUp.r FCV_CTRL_EN) 1 = true ∧ bit (fcvUp.r FCV_CTRL_CONT) 1 = false ∧ fcvUp.r (scanField 1) ≠ 0 ∧ fcvUp.r (scanField 1) ≤ (fcvUp.fcvMod 1).sinceScan ∧ bit (fcvUp.r FCV_STS_BUSY) 1 = false) ∧
    (fcvUp.mayWrite .kernel FCV_CTRL_START ∧ bit (fcvUp.r FCV_CTRL_EN) 0 = true ∧ bit (fcvUp.r FCV_STS_BUSY) 0 = false ∧ bit (fcvUp.r FCV_CTRL_CONT) 0 = false) ∧
    (fcvBusy.mayWrite .kernel FCV_CTRL_START ∧ bit (fcvBusy.r FCV_STS_BUSY) 1 = true) ∧
    (fcvBusy.fcvLive ∧ (fcvBusy.fcvMod 1).waiting = true) ∧
    ((fcvConv.fcvMod ((15 : Fin 16).val / 8)).entry = some (15 : Fin 16).val ∧ [(0x812344 : BitVec 24), 0x812346].length = 2 ^ fcvConv.r (FCV_ENT_AVG 15) ∧
    (fcvConv.fcvMod 1).discard = false ∧ (fcvMoved.fcvMod 1).discard = true) := by
  refine ⟨?_, ?_, ?_, ?_, ?_, ?_⟩
  all_goals decide +kernel

theorem test_CountsIndexAndHallSectors_met :
    (resUp.posLive ∧ resUp.posEn 0 = true ∧ resUp.cpm.vdda = true ∧ resUp.demodDelay (sin16.toList.map BitVec.toInt) (cos16.toList.map BitVec.toInt) = 0 ∧
    resUp.r POS_RLIM_AMIN ^ 2 ≤ ampSq (demod sin16) (demod cos16) ∧ ampSq (demod sin16) (demod cos16) ≤ resUp.r POS_RLIM_AMAX ^ 2) ∧
    (¬ (resFar.r POS_RLIM_AMIN ^ 2 ≤ ampSq (demod sin16) (demod cos16) ∧ ampSq (demod sin16) (demod cos16) ≤ resFar.r POS_RLIM_AMAX ^ 2) ∧ max 1 (resFar.r POS_RLIM_RLOSN) ≤ resFar.pos.resAmpBad + 1 ∧ resFar.pos.resLost = false) ∧
    (noVdda.cpm.vdda = false) ∧
    (posUp.posEn 1 = true ∧ posUp.b POS_ECFG_HALL = false ∧ (posUp.posEn 1 = false ∨ hallModeE.b POS_ECFG_HALL = true) ∧ posUp.r POS_EIDXERR_ILLCNT ≤ 255 ∧
    pairEdges (illUp.r POS_ECFG_FILT + 1) illUp.pos.encAB samplesAB = [⟨false, true, false, true, 2⟩] ∧ pairEdges (illUp.r POS_ECFG_FILT + 1) illUp.pos.encAB samplesIll = [⟨true, true, true, true, 1⟩] ∧
    illUp.pos.illInOuter + 1 = max 1 (illUp.r POS_ECFG_ILLN)) ∧
    ((illUp.w POS_EIDXERR_ILLCNT 255).r POS_EIDXERR_ILLCNT ≤ 255) ∧
    (idxUp.posEn 1 = true ∧ idxUp.b POS_ECFG_HALL = false ∧ idxUp.zQualified idxUp.pos.encAB.1 idxUp.pos.encAB.2 = true ∧ idxUp.zEvent false zUp = true ∧ bit (idxUp.r POS_STS_WIREFLT) 2 = false ∧ idxUp.pos.idxFirst = true ∧ idxUp.cpr ≤ 1048575 ∧ idxUp.pos.enc.toInt.natAbs ≤ 2 ^ 31 - 2 ^ 21) ∧
    (idxOff.pos.idxFirst = false ∧ idxOff.r POS_ECFG_IDX_WIN < idxOff.idxErr.natAbs ∧ idxOff.r POS_EIDXERR_MISSRUN = 2 ∧ idxOff.zQualified idxOff.pos.encAB.1 idxOff.pos.encAB.2 = true ∧ idxOff.zEvent false zUp = true) ∧
    (idxUp.mayWrite .kernel POS_EPRE_PRE ∧ idxUp.cpr ≤ 1048575 ∧ idxUp.pos.enc.toInt.natAbs ≤ 2 ^ 31 - 2 ^ 21) ∧
    (posUp.posEn 1 = true ∧ posUp.b POS_ECFG_HALL = false ∧ 4 * max 1 (posUp.r POS_ECFG_WIRE_T) < 1025) ∧
    ((posUp.w POS_STS_WIREFLT 3).mayWrite .kernel POS_STS_WIREFLT ∧ (1 : BitVec 3).getLsbD 0 = true ∧ bit posUp.pos.wireNow 0 = false ∧ (1 : BitVec 3).getLsbD 1 = false) ∧
    (hallMode.posEn 1 = true ∧ hallMode.b POS_ECFG_HALL = true ∧ hallMode.hallSector (hallMode.r POS_HALLSEQ_SEQ % 8) = some 0 ∧ hallMode.pos.sector = some 5 ∧ 5 < 6 ∧ 0 < 6) ∧
    (hallMode.hallSector 7 = none) ∧
    ((after (.hallStateChange 9 7) hallMode).pos.hallIllNow = true ∧ (after (.hallStateChange 9 7) hallMode).pos.hallInvalid = false) := by
  refine ⟨?_, ?_, ?_, ?_, ?_, ?_, ?_, ?_, ?_, ?_, ?_, ?_, ?_⟩
  all_goals decide +kernel

theorem test_SerialWordsWheelsAndPps_met :
    (ssiUp.posEn 2 = true ∧ ssiUp.b POS_SWCFG_SENT = false ∧ ssiUp.pos.req = some ⟨0, 3, 0, false⟩ ∧ (ssiUp.ssiCheck (ssiUp.ssiBits ssiRises)).isSome = true ∧ 0 = ssiUp.pos.epoch) ∧
    ((ssiLate.ssiCheck (ssiLate.ssiBits ssiRises)).isSome = true ∧ 0 ≠ ssiLate.pos.epoch) ∧
    (0 < ssiUp.swRetry ∧ 1 < ssiBad.swRetry ∧ ssiBad.pos.req = some ⟨0, 3, 1, true⟩ ∧ ssiBad.pos.swBusy ≤ (ssiBad.at 9).nowU ∧ (ssiSoon.at 9).nowU < ssiSoon.pos.swBusy ∧ ssiUp.ssiCheck (ssiUp.ssiBits []) = none) ∧
    (ssiLast.swRetry ≤ 2 ∧ ssiLast.pos.req = some ⟨0, 3, 2, false⟩) ∧
    ((posUp.w POS_SWTO_POSTO 0).posEn 2 = true ∧ posUp.pos.timedOut = false ∧ max 1 ((posUp.w POS_SWTO_POSTO 0).r POS_SWTO_POSTO) ≤ ({ posUp.pos with sinceWord := 1 } : Pos).sinceWord) ∧
    (sentUp.posEn 2 = true ∧ sentUp.b POS_SWCFG_SENT = true ∧ sentUp.syncOk 1 = false) ∧
    (let c := sentCrc (sentUp.b POS_SENT_CRCV) [2, 3]
    sentUp.syncOk 3360 = true ∧ nibblesOf 3360 (pulsesOf [1, 2, 3, c]) = some [1, 2, 3, c] ∧ [2, 3, c].length = sentUp.sentNib + 1 ∧ sentUp.pauseOk 3360 (some 1200) = true ∧ sentUp.pos.slow.length < 32 ∧ 32 ≤ sentFull.pos.slow.length) ∧
    (posUp.posEn 4 = true ∧ posUp.pos.wheel.length = 2 ∧ pairEdges (posUp.r POS_WCFG_WFILT1 + 1) (posUp.pos.wheelAB.getD 1 (false, false)) (List.replicate 70 (true, false)) = [⟨true, false, true, false, 69⟩] ∧
    pairEdges (posUp.r POS_WCFG_WFILT1 + 1) (posUp.pos.wheelAB.getD 1 (false, false)) (List.replicate 70 (true, true)) = [⟨true, true, true, true, 69⟩] ∧
    posUp.wheelCounts 1 ⟨true, false, true, false, 69⟩ = some true ∧ posUp.wheelMode 1 = 0 ∧ posUp.r POS_EIDXERR_ILLCNT ≤ 255) ∧
    (ppsUp.posEn 5 = true ∧ (!ppsUp.b POS_PPSCFG_EDGE) ≠ ppsUp.b POS_PPSCFG_EDGE ∧ ppsUp.r HOI_TICKCNT_TICKCNT < 2 ^ 32) ∧
    (posUp.posEn 5 = true ∧ (∀ e ∈ posUp.pos.pps, e.2.2 = true → e.2.1 + 300000000 ≤ (posUp.at 9).nowU)) ∧
    (posUp.speedTimeout 2 ≤ (posUp.at 13107000000).nowU - (posUp.timer 2).last) ∧
    (resGood.mayWrite .kernel POS_CTRL_RETPRI ∧ (resGood.primary resGood.nowU).1 = true) := by
  refine ⟨?_, ?_, ?_, ?_, ?_, ?_, ?_, ?_, ?_, ?_, ?_, ?_⟩
  all_goals decide +kernel

theorem test_PlacedResultsFitTheirExponent_met :
    (exacts.length = 8 ∧ (∃ v ∈ exacts, v.isZero = false)) ∧
    ((List.replicate 8 ({} : Exact)).length = 8 ∧ (∀ v ∈ List.replicate 8 ({} : Exact), v.isZero = true)) ∧
    ((List.replicate 8 (⟨1, 0, 1, 40⟩ : Exact)).length = 8) := by
  decide +kernel

theorem test_AnInstructionChangesItsOwnBankAlone_met :
    (cleUp.bRun = false ∧ cleUp.prio inst.prog < 4 ∧ inst.prog < 8) := by
  decide +kernel

theorem test_EngineInstructionsHaveTheirResults_met :
    (cleUp.cleRuns inst []) ∧
    (branchTaken 5 0 (cleUp.bankOf inst).c inst.first = some true ∧ inst.pc < (6 : BitVec 12).toNat) ∧
    (branchTaken 1 7 (cleUp.bankOf inst).c inst.first = some false ∧ inst.pc < (4095 : BitVec 12).toNat) ∧
    (stageAddrOk ((cleUp.bankOf inst).ptr 0 + (12280 : BitVec 14).toNat) = true ∧ cleUp.badData ((cleUp.bankOf inst).ptr 0 + (12280 : BitVec 14).toNat) = false) ∧
    (inputDefined 8 = true ∧ inst.inputs.find? (fun e => e.1 == 8) = some (8, {}) ∧ outputDefined 20 = true) ∧
    (let w := (cleUp.bankOf inst).ptr 0
    let nn := max 1 (cleUp.readLE (cleDataAddr w) 4 % 512)
    let ends := tluSpan (((cleUp.bankOf inst).reg 3).val 7) nn
    stageAddrOk w = true ∧ cleUp.badData w = false ∧ stageAddrOk (w + 8 * (ends.2 + 1)) = true ∧ cleUp.badData (w + 8 * (ends.1 + 1)) = false ∧ cleUp.badData (w + 8 * (ends.2 + 1)) = false ∧ w = 0 ∧ nn = 1) ∧
    (cleSoft.cleRuns inst [] ∧ cleSoft.badData 8 = false) := by
  unfold State.cleRuns
  refine ⟨?_, ?_, ?_, ?_, ?_, ?_, ?_⟩
  all_goals decide +kernel

theorem test_ProgramFaultsAbortAndDisable_met :
    (cleUp.cleLive = true ∧ cleUp.cle.started = [inst] ∧ cleUp.cle.waiting = [] ∧ inst.prog < 8 ∧ inst.pc < 4096 ∧ cleUp.badFetch inst.pc = false ∧
    (63 : BitVec 6).toNat ∉ cleOpcodes ∧ (6 : Fin 8).val < 7 ∧ (5 : BitVec 12).toNat ≤ inst.pc ∧ stageAddrOk ((cleUp.bankOf inst).ptr 0 + (12288 : BitVec 14).toNat) = false ∧ inputDefined 7 = false ∧ outputDefined 2 = false ∧ stageAddrOk ((cleOdd.bankOf inst).ptr 1) = false) ∧
    (cleBadD.badFetch inst.pc = false ∧ cleBadT.badData ((cleBadT.bankOf inst).ptr 0) = true ∧ stageAddrOk ((cleBadD.bankOf inst).ptr 0 + (8 : BitVec 14).toNat) = true ∧ cleBadD.badData ((cleBadD.bankOf inst).ptr 0 + (8 : BitVec 14).toNat) = true) ∧
    (inst.pc < 4096 ∧ cleBadP.badFetch inst.pc = true) ∧
    (cleEnd.cleLive = true ∧ cleEnd.cle.started = [{ inst with pc := 4096 }] ∧ 4096 ≤ ({ inst with pc := 4096 } : Instance).pc) := by
  decide +kernel

theorem test_InstancesTriggerReleaseAndMiss_met :
    (cleIdle.cleLive = true ∧ cleIdle.cle.waiting = [] ∧ cleIdle.cle.started = [] ∧ cleIdle.cleEnabled 1 = true ∧ cleIdle.prio 1 < 4 ∧ 1 ≠ cleIdle.r CLE_BCTRL_PACE ∧ (cleIdle.at 9).trigDue 1 = true) ∧
    (cleUp.cle.started = [inst] ∧ inst.prog < 8 ∧ inst.pc < 4096 ∧ cleUp.badFetch inst.pc = false ∧ inst.prog ≠ cleUp.r CLE_BCTRL_PACE ∧ inst.outputs = [(0, {})] ∧ (cleUp.at 108).nowU ≤ cleUp.outPoint inst ∧ cleUp.hoi.cut = [] ∧ cleUp.hoi.late = []) ∧
    (cleUp.outPoint inst < (cleUp.at (cleUp.outPoint inst + 1)).nowU) ∧
    (inst.prog = (1 : Fin 8).val ∧ (1 : Fin 8).val ≠ cleUp.r CLE_BCTRL_PACE ∧ cleUp.outPoint inst ≤ (cleUp.at (cleUp.outPoint inst)).nowU) := by
  decide +kernel

theorem test_EnablesChecksSetPointsAndBunting_met :
    (cleIdle.cleLive = true ∧ cleIdle.mayWrite .kernel CLE_CTRL_RUN ∧ cleIdle.mayWrite .kernel CLE_CTRL_PEN ∧ up.r CLE_CTRL_PEN = 0 ∧ cleIdle.cpm.cleReload = false ∧ reloadingCle.cpm.cleReload = true) ∧
    ((enabGood.slot 1).enabling = true ∧ enabGood.codeGood 1 = true) ∧
    ((enab.slot 1).enabling = true ∧ enab.codeGood 1 = false) ∧
    (aged.mayWrite .kernel CLE_CTRL_CHKEN ∧ off.drv = .off ∧ up.drv ≠ .off ∧ aged.b CLE_CTRL_CHKEN = false ∧ (aged.wb CLE_CTRL_CHKEN true).b CLE_CTRL_CHKEN = true) ∧
    (spUp.mayWrite .kernel CLE_SPDATA_DATA ∧ spUp.hoi.cut = [] ∧ spUp.hoi.late = [] ∧ spUp.r CLE_SPSEL_SP < 7 ∧ spUp.r CLE_SPSEL_LANE < 8 ∧ (spUp.w CLE_SPSEL_SP 7).r CLE_SPSEL_SP = 7) ∧
    (up.mayWrite .kernel CLE_SPDATAG_DATA ∧ up.hoi.cut = []) ∧
    (passing.b CLE_CTRL_CHKEN = true ∧ (passing.slot 1).enabled = true ∧ passing.codeGood 1 = true ∧ (passing.w (CLE_PCRC_CRC 1) 5).codeGood 1 = false) ∧
    (starved.b CLE_CTRL_CHKEN = true ∧ starved.checksFresh = false) ∧
    (bunt.mayWrite .kernel CLE_BCTRL_START ∧ bunt.r CLE_BSTS_STATE = 0 ∧ bunt.b CLE_BCTRL_ARM = true ∧ bunt.bBufferOk = true ∧ bunt.holdsClass .A = false ∧ bunt.holdsClass .B = false ∧ (bunt.slot (bunt.r CLE_BCTRL_PACE)).enabled = true) ∧
    (up.mayWrite .kernel CLE_BCTRL_STOP ∧ (bunt.w CLE_BSTS_STATE 2).r CLE_BSTS_STATE = 2) := by
  refine ⟨?_, ?_, ?_, ?_, ?_, ?_, ?_, ?_, ?_, ?_⟩
  all_goals decide +kernel

theorem test_DriveServiceMovesByItsTimers_met :
    (((svc .meas 30).at (msU 2)).lasted .meas (msU 2) = true ∧ (svc .meas 30).measValid = true ∧ (svc .meas 30).drive.fromLost = false ∧ (Frac.ofInt (svc .meas 30).fcCatchThr).le (svc .meas 30).measSpeed.abs = true) ∧
    ((Frac.ofInt (svc .meas 3).fcCatchThr).le (svc .meas 3).measSpeed.abs = false ∧ (Frac.ofInt (svc .meas 3).fcStopThr).le (svc .meas 3).measSpeed.abs = true) ∧
    ((Frac.ofInt (svc .meas 2).fcCatchThr).le (svc .meas 2).measSpeed.abs = false ∧ (Frac.ofInt (svc .meas 2).fcStopThr).le (svc .meas 2).measSpeed.abs = false) ∧
    (((svc .meas 2).w (SDX_RES_VALID 4) 0).measValid = false) ∧
    (((svc .align 0).at late).lasted .align (msU (svc .align 0).fcAlignT) = true) ∧
    (((svc .short 0).at late).lasted .short (msU (svc .short 0).fcShortTmax) = true ∧ ((svc .ramp 0).at late).lasted .ramp (msU (svc .ramp 0).fcStartT) = true ∧ ((svc .catch 0).at late).lasted .catch (msU (svc .catch 0).fcCatchT) = true ∧ (svc .catch 0).drive.fromLost = false ∧ (svc .short 0).drive.tries + 1 < (svc .short 0).fcStartN) ∧
    ((lastTry.at late).lasted .ramp (msU lastTry.fcStartT) = true ∧ lastTry.fcStartN ≤ lastTry.drive.tries + 1) ∧
    (((svc .retry 0).at late).lasted .retry (msU (svc .retry 0).fcRetryWait) = true) ∧
    ((svc .obs 0).drive.svc = .obs ∧ 3 ≤ (svc .obs 0).drive.bad ∧ (svc .obs 0).angleValid = false ∧ ((svc .obs 0).w POS_ELANG_VALID 1).angleValid = true) ∧
    ((svc .lost 0).drive.svc = .lost ∧ (svc .lost 0).drive.lostAt + msU (svc .lost 0).fcRecatchDelay ≤ ((svc .lost 0).at late).nowU ∧ (svc .lost 0).drive.attempts < (svc .lost 0).fcRecatchN) ∧
    ((recatch.at late).lasted .catch (msU recatch.fcCatchT) = true ∧ recatch.drive.fromLost = true ∧ recatch.drive.attempts + 1 < recatch.fcRecatchN) ∧
    ((svc .obs 0).drive.holdFrom = some 0 ∧ 0 + secU (svc .obs 0).fcRecatchHold ≤ ((svc .obs 0).at late).nowU) := by
  refine ⟨?_, ?_, ?_, ?_, ?_, ?_, ?_, ?_, ?_, ?_, ?_, ?_⟩
  all_goals decide +kernel

theorem test_CommandsOfTheDriveMeetTheirConditions_met :
    (up.mayWrite .kernel SSS_CMD_CODE ∧ ready.drv = .off ∧ ready.armHeld = false ∧ ready.pwmReady = true ∧ readyIdle.cpm.dev = .idle ∧ readyIdle.releaseRef true = 0 ∧ readyIdle.hallZeroOk = true ∧ ready.releaseRef true = 0 ∧ ready.hallZeroOk = true) ∧
    ((readyS.drv ≠ .off ∨ notReady.pwmReady = false) ∧ notReady.drv = .off ∧ notReady.pwmReady = false ∧ readyC.drv = .off ∧ readyC.armHeld = false ∧ readyC.releaseRef true ≠ 0) ∧
    ((ready.w (PCV_HALLR_VALUE 0) 8388607).releaseRef true = 0 ∧ (ready.w (PCV_HALLR_VALUE 0) 8388607).hallZeroOk = false) ∧
    (readyA.drv = .armed ∧ ready.drv ≠ .armed) ∧
    (readyA.drv = .armed ∧ readyA.drive.svc = .idle ∧ (svc .align 0).drive.svc ≠ .idle ∧ readyA.fieldParamsOk = true ∧ readyA.programsOk = true ∧ (readyA.w POS_ELANG_VALID 1).angleValid = true ∧ readyA.angleValid = false ∧ (readyA.w POS_CTRL_SENSLESS 1).b POS_CTRL_SENSLESS = true ∧ readyA.b POS_CTRL_SENSLESS = false) ∧
    (readyA.drv = .armed ∨ readyA.drv = .run) ∧
    (ready.offOrSafe = true) ∧
    (readyS.drv = .safe ∧ readyS.underTest 9 = false ∧ readyS.releaseRef false = 0 ∧ (readyS.w SSS_STS_SAFEST 2).releaseRef false ≠ 0) ∧
    (readyS.relarmRef = 0 ∧ readyS.safest = .freewheel ∧ (readyS.w SSS_STS_SAFEST 3).relarmRef = 0 ∧ (readyS.w SSS_STS_SAFEST 3).safest = .ascH) ∧
    (ready.relarmRef ≠ 0) ∧
    ((readyS.w DIS_STS_STATE 4).windrelRef = 0 ∧ readyS.windrelRef ≠ 0) := by
  refine ⟨?_, ?_, ?_, ?_, ?_, ?_, ?_, ?_, ?_, ?_, ?_⟩
  all_goals decide +kernel

theorem test_SafeStateSequencerActsOnItsOwn_met :
    ((running.sss.stopped = false ∨ (2 : Fin 3) = 2) ∧ running.sss.beatAt.get 2 + running.beatLimit 2 ≤ (running.at (msU 3)).nowU) ∧
    (heldL.safest = .ascL ∧ heldL.b SSS_STS_OVR = true ∧ heldL.sss.ascAt + 400 * heldL.r SSS_CFG_ASCDLY ≤ (heldL.atF 102000).nowF) ∧
    ((up.w SSS_STS_NOTBL 0).b SSS_STS_NOTBL = false ∧ (up.w SSS_STS_NOTBL 0).sss.portAt + (up.w SSS_STS_NOTBL 0).hbtoU ≤ ((up.w SSS_STS_NOTBL 0).at 30000000).nowU) ∧
    (stopping.b SSS_STS_SS1RUN = true ∧ stopping.ss1.timerAt + msU (stopping.r SSS_SS1_SS1TMAX) ≤ (stopping.at (msU 65535)).nowU ∧ stopping.sss.ss1Wait = true ∧ stopping.sss.ss1WaitAt + msU (max 1 (stopping.r SSS_SS1_SS1START)) ≤ (stopping.at (msU 65535)).nowU) ∧
    (tested4.mayTest = true ∧ bitSet tested4.sss.passed 3 ≠ 31 ∧ bitSet ({ tested4.sss with passed := 23 } : Sss).passed 3 = 31) ∧
    (off.mayTest = true ∧ testDone.b SAF_TP_TEST = true ∧ testDone.kernelPasses = true ∧ testDone.saf.testAt + testDone.swallowtailMs ≤ testDone.cpm.msTick ∧ (∀ p ∈ List.range 5, testDone.safInUse p = true → bit testDone.saf.discSeen p = true) ∧ bitSet testDone.sss.passed 4 ≠ 31 ∧ testMissed.safInUse 4 = true ∧ bit testMissed.saf.discSeen 4 = false) ∧
    (testDone.b SAF_TP_TEST = true) ∧
    (({ up with sss := { up.sss with runPeriods := up.pLftInt * 117964800 } } : State).pLftInt * 117964800 ≤ ({ up with sss := { up.sss with runPeriods := up.pLftInt * 117964800 } } : State).sss.runPeriods) := by
  refine ⟨?_, ?_, ?_, ?_, ?_, ?_, ?_, ?_⟩
  all_goals decide +kernel

theorem test_SafetyPairsDemandAndReset_met :
    ((pairHi.at 5).inputStable 8 1000 = true ∧ (pairHi.at 5).inputStable 8 999 = false ∧ (pairIn.at 5).inputStable 8 1000 = true ∧ pairHi.cpm.vio = true ∧ pairHi.asleep = false ∧ (8 : Fin 10).val = 2 * (4 : Fin 5).val ∧ pairHi.safKind 4 ≠ 0 ∧ pairHi.safKind 4 ≠ 4 ∧ bit (pairHi.r SAF_STS_DEMAND) 4 = false ∧ bit (pairHi.safReact 4) 0 = true) ∧
    (pairIn.cpm.vio = true ∧ pairIn.asleep = false ∧ pairIn.safKind 4 = 2 ∧ pairIn.b (SAF_PAIR_AUTORST 4) = true ∧ pairIn.safeB 4 = false ∧ (pairIn.chan 8).missed = false ∧ bit (pairIn.r SAF_STS_LOCK) 4 = false ∧ bit (pairIn.r SAF_STS_RSTREQ) 4 = false ∧ (pairIn.pair 4).force = false) ∧
    ((pairHi.at (20010000 - pairHi.hoi.base)).pulseToCheck 8 = some 20000000 ∧ (pairHi.at (20009999 - pairHi.hoi.base)).pulseToCheck 8 = none ∧ (pairHi.at (30010000 - pairHi.hoi.base)).pulseToCheck 9 = some 30000000 ∧ pairHi.safKind (8 / 2) ≠ 4 ∧ (pairHi.chan 8).missed = false) ∧
    ((outs.at (20058000 - outs.hoi.base)).offToCheck 1 = some 20000000 ∧ (outs.at (20057999 - outs.hoi.base)).offToCheck 1 = none ∧ (outs.at (20060000 - outs.hoi.base)).offToCheck 1 = none ∧ bit (outs.r SAF_OUT_LATCHOFF) 1 = false ∧ max 1 (outs.r SAF_OPT_SFBN) ≤ (outs.safOut 1).fails + 1) ∧
    (up.mayWrite .kernel SAF_RESET_RST ∧ rst.safKind 4 ≠ 4 ∧ bit (rst.r SAF_STS_RSTREQ) 4 = true ∧ (16 : BitVec 5).getLsbD 4 = true ∧ (rst.pair 4).cause = false ∧ (1 : BitVec 5).getLsbD 4 = false) ∧
    (up.cpm.vio = true ∧ up.asleep = false ∧ up.mayWrite .kernel SAF_OUT_ON) := by
  refine ⟨?_, ?_, ?_, ?_, ?_, ?_⟩
  all_goals decide +kernel

theorem test_AxesStepStopAndFault_met :
    ((axis 2).axsLive = true ∧ ((axis 2).axis 1).sinceStep = 4 ∧ ({ ((axis 2).axis 1) with sinceStep := 2 } : Axis).sinceStep < 3) ∧
    ((axisStopping.axis 1).stopReq = true ∧ axisStopping.r (AXS_STS_STATE 1) ≠ 0 ∧ axisStopping.r (AXS_STS_STATE 1) ≠ 6) ∧
    ((axis 5).mayWrite .kernel (AXS_CTRL_GO 1) ∧ (axis 5).mayWrite .kernel (AXS_CTRL_STOP 1) ∧ (axis 5).mayWrite .kernel (AXS_TGT_TGT 1) ∧ (axis 5).mayWrite .kernel (AXS_POSSET_PRESET 1) ∧ (axis 5).r (AXS_STS_STATE 1) = 5 ∧ (axis 2).r (AXS_STS_STATE 1) = 2) ∧
    ((axis 1).r (AXS_STS_STATE 1) = 1) ∧
    (segs.mayWrite .kernel (AXS_SEGW2_V1 1) ∧ segs.r (AXS_SEGSEL_IDX 1) < 256 ∧ segs.r (AXS_STS_STATE 1) ≠ 2) ∧
    (((segs.w (AXS_STS_STATE 1) 2).w (AXS_STS_RD 1) 255).r (AXS_STS_STATE 1) = 2 ∧ ((segs.w (AXS_STS_STATE 1) 2).w (AXS_STS_RD 1) 255).r (AXS_SEGSEL_IDX 1) = ((segs.w (AXS_STS_STATE 1) 2).w (AXS_STS_RD 1) 255).r (AXS_STS_RD 1)) ∧
    (1000 * still.r (AXS_CUR_STDLY 1) ≤ (still.axis 1).stillUs ∧ 1 ≤ still.r (AXS_STS_STATE 1) ∧ still.r (AXS_STS_STATE 1) ≤ 6 ∧ (still.w (AXS_STS_STATE 1) 6).r (AXS_STS_STATE 1) = 6) ∧
    (chop.b (AXS_CTRL_MODE 1) = false ∧ (chop.phase 1 true).bridge ≠ .off ∧ (chop.phase 1 true).driving = true ∧ (chop.phase 1 true).since + chop.blankU 1 ≤ (chop.at 1000000).nowU ∧ chop.chopUpper 1 (chop.phase 1 true) < ((1023 : BitVec 10).toNat : Int)) ∧
    (((axis 1).w (AXS_CTRL_MODE 1) 1).b (AXS_CTRL_MODE 1) = true) ∧
    (chop.chopAbove 1 (chop.phase 1 true) = true ∧ (chopOff.phase 1 true).bridge ≠ .off ∧ (chopOff.phase 1 true).driving = false ∧ chopOff.chopBelow 1 (chopOff.phase 1 true) = true ∧ max (chop.tonmaxU 1) (max (chopOff.blankU 1) (max (chopOff.toffU 1) (chopOff.fasttU 1))) ≤ 1000000 ∧ (chopOff.phase 1 true).fast = true) ∧
    (hotAxis.axBridge 1 = true ∧ hotAxis.chopOver 1 (hotAxis.phase 1 false) = true ∧ hotAxis.chopOpen 1 (hotAxis.phase 1 false) = true ∧ stepDir.axDriver 1 = true ∧ (stepDir.axis 1).drvLow = some 0 ∧ 0 + 2000 ≤ stepDir.nowU) := by
  refine ⟨?_, ?_, ?_, ?_, ?_, ?_, ?_, ?_, ?_, ?_, ?_⟩
  all_goals decide +kernel

theorem test_GuidonQueuesDispatchesAndGates_met :
    (fullOn.gdn.queue.length ≤ 1024 ∧ fullOn.gdn.queue.countP (·.on) ≤ 960 ∧ (ev 3 true 9).on = true ∧ fullOn.gdn.queue.countP (·.on) = 960 ∧ (ev 3 false 9).on = false ∧ fullOn.gdn.queue.length < 1024) ∧
    (fullAll.gdn.queue.length = 1024 ∧ latestOn fullAll.gdn.queue = some (ev 1 true 5)) ∧
    ((gnssLater gnss).gdn.fixedAt + 200000000 * (gnssLater gnss).r GDN_FIXCFG_FIXTO ≤ (gnssLater gnss).nowU ∧ up.gdnLive = true ∧ gnss.mayWrite .kernel GDN_FIXT_PPSSEQ ∧ gnss.b GDN_CTRL_GNSSEN = true ∧ up.b GDN_CTRL_GNSSEN = false) ∧
    (secs.mayWrite .kernel GDN_SECW2_SEN ∧ secs.mayWrite .kernel GDN_EPW2_OFFPOS ∧ secs.hoi.cut = [] ∧ secs.hoi.late = []) ∧
    (up.gdnLive = true) ∧
    (up.live .impl ∧ up.mayWrite .kernel GDN_CTRL_MASTER ∧ up.tested 8 = false ∧ up.tested 12 = false) ∧
    (iso.gdn.iso = .running ∧ iso.cpm.phase = .running ∧ iso.b GDN_CTRL_TCGATE = true ∧ iso.gdn.isoHeard + 3000 ≤ iso.cpm.msTick) := by
  refine ⟨?_, ?_, ?_, ?_, ?_, ?_, ?_⟩
  all_goals decide +kernel

theorem test_CanFramesBuffersAndErrorStates_met :
    (canUp.isoOwns 1 = false ∧ canUp.canLive = true ∧ up.mayWrite .kernel (CAN_TXREQ_REQ 1) ∧ canUp.canOnBus 1 = true ∧ (canUp.can 1).sending = none ∧ (∃ k ∈ List.range 24, bit (canReq.can 1).req k = true)) ∧
    (canSend.canOnBus 1 = true ∧ canSend.b (CAN_CTRL_MON 1) = false ∧ bit (canSend.can 1).req 23 = true ∧ (canSend.can 1).sending = some 23) ∧
    (canUp.canFilter 1 (5 : BitVec 29).toNat false = none) ∧
    (canFlt.canFilter 1 (5 : BitVec 29).toNat false = some 15 ∧ canFlt.b (CAN_CTRL_FDEN 1) = true ∧ (true && false) = false ∧ [(1 : Byte), 2, 3].length ≤ 64 ∧ bit (canFlt.r (CAN_BUFCFG_TX 1)) 2 = false ∧ bit (canFlt.r (CAN_RXNEW_NEW 1)) 2 = false ∧
    (∀ j ∈ List.range 2, bit (canFlt.r (CAN_BUFCFG_TX 1)) j = true ∨ bit (canFlt.r (CAN_RXNEW_NEW 1)) j = true)) ∧
    ((∀ j ∈ List.range 24, bit (canFull.r (CAN_BUFCFG_TX 1)) j = true ∨ bit (canFull.r (CAN_RXNEW_NEW 1)) j = true) ∧ canFull.canFilter 1 (5 : BitVec 29).toNat false = some 15) ∧
    ((canUp.w (CAN_STS_TEC 1) 248).canOnBus 1 = true ∧ 256 ≤ (canUp.w (CAN_STS_TEC 1) 248).r (CAN_STS_TEC 1) + 8) ∧
    ((canUp.w (CAN_STS_STATE 1) 2).canLive = true ∧ (canUp.w (CAN_STS_STATE 1) 2).b (CAN_CTRL_EN 1) = true ∧ (canUp.w (CAN_STS_STATE 1) 2).r (CAN_STS_STATE 1) = 2 ∧ (canUp.w (CAN_STS_STATE 1) 2).b (CAN_CTRL_AUTOREC 1) = true) := by
  refine ⟨?_, ?_, ?_, ?_, ?_, ?_, ?_⟩
  all_goals decide +kernel

theorem test_LinksTrainMeasureAndFall_met :
    ((hly 0 0).hlyLive = true ∧ (hly 0 0).r (HLY_PORT_LSTATE 1) = 0 ∧ bit ((hly 0 0).r HLY_CTRL_PORTEN) 1 = true ∧ (hly 0 0).hasFault Fid.spllUnlock = false) ∧
    ((training 15).r (HLY_PORT_LSTATE 1) = 1 ∧ ((training 15).port 1).exchanges < 16 ∧ ((training 15).port 1).exchanges = 15) ∧
    ((training 16).r (HLY_PORT_LSTATE 1) = 1 ∧ ((training 16).port 1).exchanges = 16 ∧ (tenMs.port 1).trainAt + 2000000 ≤ tenMs.nowU ∧ tenMs.r (HLY_PORT_LSTATE 1) = 1) ∧
    (max 1 ((hly 2 2).r HLY_CFG_ERRN) = 4 ∧ (hly 2 2).r (HLY_PORT_LSTATE 0) = 2 ∧ bit ((hly 2 2).r HLY_CTRL_PORTEN) 0 = true) ∧
    (member.r HLY_STS_RSTATE = 2 ∧ max 1 (member.r HLY_CFG_MISSN) ≤ member.hly.missed ∧ max 1 (member.r HLY_CFG_RLATEN) ≤ member.hly.late ∧ (∃ p ∈ member.hly.producers, max 1 (member.r HLY_SAFE_SWD) ≤ p.age) ∧ member.param 0x314 1 ≠ 2) := by
  refine ⟨?_, ?_, ?_, ?_, ?_⟩
  all_goals decide +kernel

theorem test_AForwardedFrameChangesOnlyItsOwnFields_met :
    (36 ≤ (frame 0 3).length ∧ (onRing 1).hly.table = some aTable ∧ (aTable.area 5).isSome = true) := by
  decide +kernel

theorem test_CycleFramesAreTakenOrForwardedBad_met :
    ((onRing 1).hlyLive = true ∧ (onRing 1).portUp 1 = true ∧ (frame 0 3).length ≤ 131072 ∧ (onRing 1).r HLY_STS_RSTATE = 1 ∧ frameGood (frame 0 3) true false = true ∧ leAt (frame 0 3) 2 2 = (onRing 1).r HLY_NODE_INST ∧
    leAt (frame 0 3) 12 2 ≤ 8190 ∧ (onRing 1).hly.pending = none ∧ (onRing 1).hly.table = some aTable ∧ aTable.carried (frame 0 3) = true ∧ (onRing 1).hly.firstCopy (leAt (frame 0 3) 4 4) = true ∧ (onRing 1).r HLY_NODE_ADDR ≠ 0 ∧ (∀ e ∈ aTable.entries, e.evn = 0 ∧ e.safe = false) ∧ (leAt (frame 0 3) 0x18 4).testBit 12 = false) ∧
    ((onRing 1).backShown = false ∧ lagging.backShown = true) ∧
    (frameGood (frame 0 3) false false = false ∧ leAt (frame 0 8190) 12 2 ≤ 8190) ∧
    (((onRing 1).w HLY_NODE_ADDR 0).r HLY_NODE_ADDR = 0) ∧
    (frameGood (frame 1 3) true false = true ∧ leAt (frame 1 3) 2 2 ≠ (onRing 1).r HLY_NODE_INST) ∧
    ((onRing 3).hly.got = false ∧ (onRing 3).backShown = false ∧ leAt (frame 0 3) 12 2 ≤ 8190 ∧ (onRing 3).hly.cycle = leAt (frame 0 3) 4 4 ∧ (onRing 3).hly.cycle < 2 ^ 32 ∧ (onRing 3).r HLY_STS_RSTATE = 3 ∧ ((onRing 3).at 9).nowU + 2000 ≤ (onRing 3).hoi.cycleAt + (onRing 3).ringU ∧ frameGood (frame 0 3) true false = true ∧ (onRing 3).hly.table = some aTable ∧ aTable.carried (frame 0 3) = true) ∧
    ((onRing 3).hoi.cycleAt + (onRing 3).ringU < ((onRing 3).at (onRing 3).ringU).nowU + 2000) ∧
    ((∀ e ∈ heldEv.hly.held, (heldEv.at 49).nowU < e.inst) ∧ (∀ e ∈ heldEv.hly.held, ∀ k ∈ List.range 256, heldEv.r (epFld (e.ep + k) 0) % 4 = 0)) := by
  refine ⟨?_, ?_, ?_, ?_, ?_, ?_, ?_, ?_⟩
  all_goals decide +kernel

theorem test_AcyclicHopsBufferAcknowledgeAndGiveUp_met :
    (ring2.hlyLive = true ∧ ring2.portUp 0 = true ∧ (acx 9 false 6).payload.length ≤ 256) ∧
    (((ring2.setPort 0 { rxSeq := some 6 }).port 0).rxSeq = some (acf 9 false 6).lseq) ∧
    ((buffered 4).hlyLive = true ∧ ((buffered 4).port 0).rxSeq ≠ some 6 ∧ (9 : Nat) ≠ (buffered 4).r HLY_NODE_ADDR ∧ 4 ≤ (buffered 4).buffered 0 false ∧ (buffered 3).buffered 0 false < 4) ∧
    ((5 : Nat) = ring2.r HLY_NODE_ADDR ∧ ring2.hly.requests.length < 16 ∧ (∀ tr ∈ ring2.hly.trans, tr.tid ≠ 4)) ∧
    (toSend.sendable 0 = some { frame := acf 9 false 0, origin := 1 } ∧ (toSend.at 500).gapFits 0 2 = true) ∧
    (((sentOnce 8 0 false).port 0).out = [{ frame := acf 9 false 0, origin := 1, sent := true }]) ∧
    ((0 : Nat) < (sentOnce 8 0 false).r HLY_ACFG_HRETRY ∧ (sentOnce 8 3 false).r HLY_ACFG_HRETRY ≤ 3 ∧ 0 + 200 * max 1 ((sentOnce 8 3 false).r HLY_ACFG_ACKTO) ≤ ((sentOnce 8 3 false).at 4000).nowU ∧ ((sentOnce 8 3 false).at 4000).gapFits 0 2 = true ∧ (sentOnce 8 3 false).b HLY_STS_RETRYCFG = false ∧ 8 ≠ (sentOnce 8 3 false).r HLY_NODE_ADDR) ∧
    (({ ring2 with hly := { ring2.hly with trans := [⟨4, 0, 1, none⟩] } } : State).hly.trans = [⟨4, 0, 1, none⟩] ∧ 0 + 200000 * max 1 (ring2.r HLY_ACFG_TXTO) ≤ (ring2.at 20000000000).nowU) := by
  refine ⟨?_, ?_, ?_, ?_, ?_, ?_, ?_, ?_⟩
  all_goals decide +kernel

theorem test_IntegerInstructionsWriteTheirResults_met :
    (inK.fetches true) ∧
    (turnedS.fetches true) ∧
    (inS.fetches true ∧ inS.fetches false ∧ inU.fetches true ∧ inU.fetches false) := by
  unfold State.fetches
  decide +kernel

theorem test_LoadsStoresAndBranches_met :
    ((let ea := ((inU.core true).gr 5 + (3 : BitVec 16).signExtend 32).toNat
    ea % 1 = 0 ∧ inU.waits ea = false ∧ isSram (inU.redirect true ea) = true ∧ inU.secded (inU.redirect true ea) = none ∧ (inU.core true).denied .load ea 1 = none ∧ inU.cores.inReplay = false ∧ (inU.core true).denied .store ea 1 = none ∧ isSram ea = true)) ∧
    ((((inU.core true).gr 5 + (8 : BitVec 16).signExtend 32).toNat % 4 = 0 ∧ ((inU.core true).gr 5 + (9 : BitVec 16).signExtend 32).toNat % 4 ≠ 0)) := by
  decide +kernel

theorem test_FloatingPointInstructionsWriteOrTrap_met :
    (inU.fetches true ∧ (false = false ∨ (f32Add 0 (F32.ofBits 0x3F800000) (F32.ofBits 0xC0000000)).flags = 0) ∧ (f32Div 0 (F32.ofBits 0x3F800000) (F32.ofBits 0)).flags ≠ 0) ∧
    ((F32.ofBits 0x3F800000).isNan = false ∧ (F32.ofBits 0xC0000000).isNan = false ∧ (F32.ofBits 0x3F800000).isZero = false ∧ (F32.ofBits 0x7FC00001).isNan = true) := by
  unfold State.fetches
  decide +kernel

theorem test_RoundingAnExactValueGivesItsWord_met :
    (1 < 2 ^ 32 ∧ F32.ofBits 1 = .fin false 1 (-149)) := by
  decide +kernel

theorem test_SystemInstructionsFollowTheirModes_met :
    ((inS.core true).mode = .s) ∧
    (inK.fetches true ∧ inS.fetches true ∧ inU.fetches true ∧ inS.dbgOpen = false ∧ (inK.core true).mode = .k ∧ (inU.core true).mode = .u ∧ (inS.core true).inTrap = false) ∧
    (broken.dbgOpen = true ∧ broken.r DBG_STS_STATE = 1 ∧ broken.fetches true) ∧
    (srValid (6 : BitVec 11).toNat = false ∧ srValid (0x7E : BitVec 11).toNat = true ∧ srValid (4 : BitVec 11).toNat = true ∧ (inU.core true).mode = .u ∧ (inS.core true).mode ≠ .u) := by
  unfold State.fetches
  decide +kernel

theorem test_AccessesRaiseTheirCauses_met :
    ((outside 0xF6 0x20030000).issues true = true ∧ (outside 0xF6 0x20030000).waits 0x20030000 = false ∧ ((outside 0xF6 0x20030000).core true).denied .fetch 0x20030000 4 = some false ∧
    (outside 0xF4 0x60000000).issues true = true ∧ ((outside 0xF4 0x60000000).core true).denied .fetch 0x60000000 4 = none ∧ (outside 0xF4 0x60000000).answers ((outside 0xF4 0x60000000).redirect true 0x60000000) = false ∧ ((outside 0xF4 0x60000000).core true).inTrap = false) ∧
    (inU.fetches true ∧ ((inU.core true).gr 5 + (2 : BitVec 16).signExtend 32).toNat % 4 ≠ 0) ∧
    ((unit' 0xF6 0x20030000).fetches true ∧ (0x20030000 : Nat) % 4 = 0 ∧ (unit' 0xF6 0x20030000).waits 0x20030000 = false ∧ ((unit' 0xF6 0x20030000).core true).denied .load 0x20030000 4 = some false ∧ ((unit' 0xF6 0x20030000).core true).denied .store 0x20030000 4 = some false ∧
    ((unit' 0xF5 0x20000000).core true).denied .store 0x20000000 4 = some true) ∧
    ((unit' 0xF4 0x4000D000).fetches true ∧ (unit' 0xF4 0x40003000).waits 0x40003000 = false ∧ ((unit' 0xF4 0x40003000).core true).denied .store 0x40003000 4 = none ∧ kindOf 0x40003000 = .window ∧ guardedAt 0x40003000 = true ∧ guardedAt 0x40001008 = false ∧ kindOf 0x60000000 = .none) ∧
    ((unit' 0xF4 0x60000000).fetches true ∧ ((unit' 0xF4 0x60000000).core true).denied .load 0x60000000 4 = none ∧ (unit' 0xF4 0x60000000).cores.inReplay = false ∧ (unit' 0xF4 0x60000000).answers ((unit' 0xF4 0x60000000).redirect true 0x60000000) = false) := by
  unfold State.fetches
  refine ⟨?_, ?_, ?_, ?_, ?_⟩
  all_goals decide +kernel

theorem test_PutsrInSKeepsTheKernelsRights_met :
    (inS.fetches true ∧ (inS.core true).mode = .s ∧ srValid (0xF : BitVec 11).toNat = true ∧ srValid (8 : BitVec 11).toNat = true ∧ (0xF : BitVec 11).toNat = 0xC + 3) ∧
    (9 < 128 ∧ 0x7E < 128) := by
  unfold State.fetches
  decide +kernel

theorem test_KernelCheckpointsNeedTheirMode_met :
    (inU.fetches true ∧ inS.fetches true ∧ inK.fetches true ∧ 0x7F0 ≤ (0x7F0 : BitVec 11).toNat ∧ (0x7EF : BitVec 11).toNat < 0x7F0) ∧
    (ckFull.fetches true ∧ 16 ≤ (ckFull.core true).pennants.length) := by
  unfold State.fetches
  decide +kernel

theorem test_LockupStopsACoreAndResetsThePair_met :
    (1 ≤ 0xF ∧ 0xF ≤ 0xF ∧ (inS.core true).inTrap = false ∧ (trapped.core true).inTrap = true ∧ (trapped.core false).locked = false ∧ (lockedO.core false).locked = true ∧ (lockedO.core true).inTrap = true) ∧
    (stalled.issues true = true ∧ stalled.waits (stalled.core true).pc.toNat = true ∧ (stalled.core true).inTrap = true) := by
  decide +kernel

theorem test_PostsPairPassAndFail_met :
    ((posts (sevens 7) []).fetches true ∧ (((posts (sevens 7) []).core true).gr 5 + (0 : BitVec 16).signExtend 32).toNat = 0x40003000 ∧ 0x40003000 % 4 = 0 ∧ (posts (sevens 7) []).waits 0x40003000 = false ∧ ((posts (sevens 7) []).core true).denied .store 0x40003000 4 = none ∧
    kindOf 0x40003000 = .window ∧ guardedAt 0x40003000 = true ∧ (posts (sevens 7) []).answers 0x40003000 = true ∧ ((posts (sevens 7) []).core true).gsw.length < 8 ∧ ((posts (sevens 7) []).core false).gsw = [] ∧ 8 ≤ ((posts (sevens 8) []).core true).gsw.length) ∧
    ((posts [] (sevens 1)).fetches true ∧ gap ⟨0x40003000, 7, 9⟩ ⟨0x40003000, 7, (posts [] (sevens 1)).cycAt 2009⟩ ≤ 2000 ∧ ((posts [] (sevens 1)).w CMP_STS_MIS 1).b CMP_STS_MIS = true ∧ (posts [] (sevens 1)).b CMP_STS_MIS = false) ∧
    (((posts (sevens 7) []).core true).gsw.length < 8 ∧ 0 < 1) ∧
    ((7 : Word) ≠ (posts [] (sevens 1)).cores.main.gr 0) ∧
    (inS.fetches true ∧ (inS.core true).mode = .s ∧ (inS.core true).pennants.length < 16 ∧ (inS.core false).pennants = []) ∧
    (ckOther.fetches true ∧ (ckOther.core false).pennants = [⟨4, 2, 9⟩] ∧ gap ⟨4, 2, 9⟩ ⟨5, 0, ckOther.cycAt 9⟩ ≤ 2000 ∧ (4 : Nat) ≠ (5 : BitVec 11).toNat) ∧
    ((posts (sevens 1) []).live .sys = true ∧ (posts (sevens 1) []).halted = false ∧ (posts (sevens 1) []).cores.main.gsw = ⟨0x40003000, 7, 9⟩ :: [] ∧ (posts (sevens 1) []).cores.chk.gsw = [] ∧ 9 + 2000 ≤ (posts (sevens 1) []).cycAt 2009 ∧ ckOther.cores.chk.pennants = ⟨4, 2, 9⟩ :: [] ∧ ckOther.cores.main.gsw = [] ∧ (posts [] (sevens 1)).cores.chk.gsw = ⟨0x40003000, 7, 9⟩ :: [] ∧ (broken.w DBG_STS_STATE 3).halted = true) ∧
    (ckFull.cores.main.pennants = ⟨1, 2, 3⟩ :: List.replicate 15 ⟨1, 2, 3⟩ ∧ ckFull.cores.chk.pennants = [] ∧ ckFull.cores.main.gsw = [] ∧ ckFull.cores.chk.gsw = [] ∧ 3 + 2000 ≤ ckFull.cycAt 2003) := by
  unfold State.fetches
  refine ⟨?_, ?_, ?_, ?_, ?_, ?_, ?_, ?_⟩
  all_goals decide +kernel

theorem test_FrameEntryInterruptsRegionAndDebug_met :
    (framed.frameReady true = true ∧ idling.frameReady true = true ∧ framed.cores.inReplay = false ∧ (framed.core false).frameDue.isSome = true ∧ (framed.core false).pennants = [] ∧ (framed.core true).pennants.length + (frameIds [.L, .O]).length ≤ 16 ∧ (framed.core true).taken.length = 32 ∧ (framed.core true).dropPennants = 0) ∧
    (lined.coresRun = true ∧ (lined.core true).locked = false ∧ lined.dbgHolds true = false ∧ lined.cores.inReplay = false ∧ lined.takeable true 24 = true ∧ (lined.core true).frameDue = none ∧ (∀ j ∈ List.range 32, lined.takeable true j = true → lined.linePri true 24 < lined.linePri true j ∨ (lined.linePri true 24 = lined.linePri true j ∧ 24 ≤ j))) ∧
    (badWord.live .sys = true ∧ isSram 0x20010004 = true ∧ 0x20010004 ∈ badWord.cores.badWords ∧ 0x20010000 ∉ badWord.cores.badWords ∧ ([0x2002FFFF] : List Word).all (fun w => w.toNat / 4 * 4 != 0x20010000) = true) ∧
    (region.live .sys = true ∧ region.mayWrite .program CMP_DUPSIZE_SIZE ∧ region.dupSet = false ∧ dupPlaced region.dupBase (0x1FFF / 4096 * 4096) = true ∧ dupPlaced region.dupBase (0xFFFFF / 4096 * 4096) = false) ∧
    (copyingM.b CMP_STS_COPYBUSY = true ∧ copyingM.memWf = true ∧ dupPlaced copyingM.dupBase copyingM.dupSize = true) ∧
    (makerP.live .sys = true ∧ makerP.mayWrite .program DBG_CTRL_OPEN ∧ makerP.dbgOpen = false ∧ makerP.dbgLocked = false ∧ makerP.isMaker .program = true ∧ makerP.drv = .off ∧ makerP.journalRefuses = false ∧ armed.isMaker .program = false ∧ armed.dbgOpen = false ∧ makerP.mayWrite .kernel DBG_CTRL_OPEN) ∧
    (debug1.mayWrite .program DBG_CTRL_HALT ∧ debug1.mayWrite .program DBG_CTRL_RESUME ∧ debug1.mayWrite .program DBG_CTRL_STEP ∧ debug1.dbgOpen = true ∧ debug1.r DBG_STS_STATE = 1 ∧ debug1.b (DBG_BP_EN 2) = true ∧ debug1.cores.main.pc.toNat = 4 * debug1.r (DBG_BP_ADDR 2) ∧ haltedS.halted = true) ∧
    ((sel 0x1F 0).mayWrite .program DBG_REGDATA_DATA ∧ (sel 0x1F 0).mayWrite .program DBG_MEMDATA_DATA ∧ (sel 0x1F 0).halted = true ∧ (sel 0x1F 0).r DBG_REGSEL_SEL < 0x20 ∧ (sel 0x40 0).r DBG_REGSEL_SEL = 0x40 ∧ isSram (selDup.r DBG_MEMADDR_ADDR / 4 * 4) = true ∧ selDup.secded 0x20020010 = none ∧ selDup.inDup 0x20020010 = true ∧ selDup.halted = true) := by
  refine ⟨?_, ?_, ?_, ?_, ?_, ?_, ?_, ?_⟩
  all_goals decide +kernel

theorem test_ParametersJournalAndSessionsAreServed_met :
    (up.serves ∧ up.sessRole .program (0 : Fin 5).val = some .installer ∧ 1 ≤ roleRank .installer ∧ maker2.serves ∧ maker2.sessRole .program (2 : Fin 5).val = some .maker ∧ (ticketS none).serves ∧ itemNamed 0x0100 = true ∧ itemNamed 0x0A00 = false ∧ itemNamed 0 = false ∧ itemNamed 0x09FF = true ∧ (ticketS none).kern.tickets = [⟨3, .program, none⟩]) ∧
    (up.kern.staged = [] ∧ up.room 0 ∧ itemRole 0x0100 = some .installer ∧ itemRole 0x0108 = some .maker ∧ (up.touch 0).itemOk 0x0100 8 = true ∧ (up.touch 0).inEnvelope 0x0100 8 = true ∧ up.journalRefuses = false ∧ ¬ roleRank .maker ≤ roleRank .installer) ∧
    (staged1.room 0 ∧ staged1.serves ∧ staged3.serves ∧ staged3.room 0 ∧ pend3.serves ∧ pend3.room 0 ∧ staged1.journalRefuses = false ∧ natWithin 1 1 8 = true ∧ roleRank (staged1.groupRole 1) ≤ roleRank .installer ∧ staged1.kern.stagedOf 1 = [(0x0100, 8)] ∧ roleRank (staged3.groupRole 3) ≤ roleRank .maker ∧ staged3.kern.stagedOf 3 ≠ [] ∧ staged3.sessRole .program 2 = some .maker ∧
    pend3.kern.stagedOf 3 = [] ∧ pend3.cpm.msTick ≤ 5 + 600000 ∧ pend3.offOrSafe = true ∧ (77 : Word).toNat = 77 ∧ pend3.sessRole .program 2 = some .maker) ∧
    (twice.serves ∧ twice.room 0 ∧ twice.journalRefuses = false ∧ twice.kern.stagedOf 1 = [(0x0100, 9)]) ∧
    (roleRank .installer ≤ roleRank .installer ∧ (0x7EFF : Nat) < 0x7F00 ∧ recsS.serves ∧ recsS.kern.journal = [recS] ∧ (∀ x ∈ recsS.kern.journal, x.seq ≠ 6)) ∧
    (roleOfCode 2 = some .installer ∧ roleOfCode 3 = some .maker ∧ maker2.lockOf .installer = 0 ∧ maker2.keyOf .installer ≠ [] ∧ maker2.keyOf .maker = []) ∧
    ((∀ y ∈ maker2.kern.sessions, y.n = 2 ∧ y.chan = .program) ∧ (∀ y ∈ maker2.kern.sessions, y.n ≠ 3 ∨ y.chan ≠ .program)) := by
  unfold State.serves State.room
  refine ⟨?_, ?_, ?_, ?_, ?_, ?_, ?_⟩
  all_goals decide +kernel

theorem test_TestsHalyardImagesAndTicketsAreServed_met :
    (up.r CMP_STS_MIS = 0 ∧ misS.r CMP_STS_MIS ≠ 0 ∧ misS.serves ∧ up.b CMP_STS_MIS = false ∧ misS.b CMP_STS_MIS = true ∧ misS.sessRole .program 0 = some .installer) ∧
    (charged.serves ∧ charged.sessRole .program 0 = some .installer ∧ charged.r CMP_STS_MIS = 0 ∧ charged.live .pwm ∧ charged.disLive ∧ charged.tested 5 = false ∧ charged.tested 6 = false ∧ charged.offOrSafe = true ∧ charged.r DIS_STS_STATE = 0 ∧ running.serves ∧ running.offOrSafe = false ∧ charged.vdc = some 400000) ∧
    (up.bst.blocks.length = 17 ∧ up.dbgOpen = false ∧ up.r THM_STS_DLEVEL < 2 ∧ up.b SSS_STS_TBUSY = false ∧ dbgS.dbgOpen = true ∧ dbgS.serves ∧ bit 0x10001 16 = true ∧ (up.bstBlock 16).phase = .none) ∧
    (ringS.serves ∧ ringS.room 0 ∧ (256 : Word).toNat ≤ 256 ∧ natWithin ((0x10009 : Word).toNat / 65536 % 256) 1 3 = true ∧ ringS.hly.table = some aTable2 ∧ ringS.outstanding < 64 ∧ (0x10009 : Word).getLsbD 12 = false ∧ (aTable2.index ((0x10009 : Word).toNat % 4096)).isSome = true ∧ (0x10009 : Word).toNat % 4096 ≠ ringS.r HLY_NODE_ADDR ∧ ringS.nextTid = some 0 ∧
    (0x11009 : Word).getLsbD 12 = true ∧ (aTable2.index ((0x1000A : Word).toNat % 4096)).isSome = false ∧ 64 ≤ fullOut.outstanding ∧ fullOut.serves ∧ fullOut.room 0 ∧ ringS.sessRole .program 0 = some .installer) ∧
    (maker2.serves ∧ owner.serves ∧ owner.room 0 ∧ owner.r HLY_STS_RSTATE = 3 ∧ owner.hly.pending.isSome = true ∧ ringS.r HLY_STS_RSTATE ≠ 3 ∧ roleRank .maker ≤ roleRank .maker ∧ maker2.sessRole .program 2 = some .maker ∧ owner.sessRole .program 0 = some .installer) ∧
    (up.hoi.cut = [] ∧ up.hoi.late = [] ∧ up.gdn.iso ≠ .claiming ∧ up.gdn.iso ≠ .running) ∧
    (blockS.serves ∧ blockS.room 0 ∧ blockS.journalRefuses = false ∧ blockS.sessRole .program 2 = some .maker ∧ (0x1BFFF0 : Word).toNat + (16 : Word).toNat ≤ slotSize ∧ (0x1BFFF0 : Word).toNat % 16 = 0 ∧ (16 : Word).toNat % 16 = 0 ∧ 0x20002000 ≤ (0x20020000 : Word).toNat ∧ (0x20020000 : Word).toNat + (16 : Word).toNat ≤ 0x20100000 ∧ trialS.b CPM_BOOTSTAT_TRIAL = true ∧ trialS.cpm.imgAdvance = false ∧ trialS.serves) ∧
    (doneW.driveAwake = true ∧ progS.driveAwake = true ∧ finS.driveAwake = true ∧ doneW.kern.queue = ⟨0x10, 7, 0, .program, 0, 8, 9⟩ :: [⟨0x10, 6, 0, .program, 0, 8, 9⟩] ∧ (0 : Nat) ≠ 1 ∧ (0 ≠ 0 ∨ flashService 0x10 = false)) ∧
    (flashService 0x70 = true ∧ progS.kern.flash = [.program 0x10001FF0 ((List.range 32).map (BitVec.ofNat 8))]) ∧
    (flashService 0x71 = true ∧ finBad.kern.flash = [.finalise true 3] ∧ finBad.imageOk true = false) := by
  unfold State.serves State.room
  refine ⟨?_, ?_, ?_, ?_, ?_, ?_, ?_, ?_, ?_, ?_⟩
  all_goals decide +kernel

theorem test_FaultsTemperaturesAndSelfTestsFollowTheirRules_met :
    ((reacting 2 .B []).flt.current = some { id := 5, cls := .B, derate := false, detail := 0, started := true, tick := 0, ensign := 0 } ∧ (reacting 2 .B []).reactionDone { id := 5, cls := .B, derate := false, detail := 0, started := true, tick := 0, ensign := 0 } false = false ∧ (reacting 0 .B []).reactionDone { id := 5, cls := .B, derate := false, detail := 0, started := true, tick := 0, ensign := 0 } false = true ∧ (reacting 0 .B [rD, rC]).flt.preempted = [] ∧ rD.cls = .D ∧ rC.cls = .C ∧ rC.derate = true ∧ rC.started = false ∧ (reacting 0 .B [rD, rC]).flt.queue = [rD, rC]) ∧
    ((oneFault Fid.codeCheck .B up).mayWrite .program FLT_CLR_ID ∧ (oneFault Fid.codeCheck .B up).mayWrite .program FLT_CLR_ALL ∧ (oneFault Fid.codeCheck .B up).mayWrite (.host .operator) FLT_CLR_ID ∧ (oneFault Fid.codeCheck .B up).mayWrite (.host .operator) FLT_CLR_ALL ∧ mayClear (clearRole .program) .B = true ∧ mayClear (clearRole (.host .operator)) .B = false ∧ (oneFault Fid.codeCheck .B up).clearable { id := Fid.codeCheck, cls := .B, insts := [0], detail := 0, tick := 0 } = true ∧ (oneFault Fid.kirchhoff .B up).clearable { id := Fid.kirchhoff, cls := .B, insts := [0], detail := 0, tick := 0 } = false) ∧
    (fifoS.cpm.phase = .running ∧ fifoS.driveAwake = true ∧ fifoS.kern.flash = [] ∧ fifoS.flt.buffer ++ fifoS.flt.fifo.take 1 = recF :: [] ∧ fifoS.journalRefuses = false ∧ fullJ.cpm.phase = .running ∧ fullJ.driveAwake = true ∧ fullJ.kern.flash = [] ∧ fullJ.flt.buffer ++ fullJ.flt.fifo.take 1 = recF :: [] ∧ fullJ.journalRefuses = true ∧ fullJ.hasFault Fid.journalFull = true) ∧
    (staleS.energised = true ∧ staleS.b THM_CTRL_PTEN = true ∧ max 1 (staleS.r THM_OSTOP_STALEN) ≤ staleS.thm.stale ∧ staleS.drv = .stopping ∧ (staleS.at 400000007).stopOver staleS.thm.pStop = true ∧ (staleS.at (400000006 - staleS.hoi.base)).stopOver staleS.thm.dStop = false ∧ hotP.live .sys = true ∧ staleS.mayWrite .program THM_REEN_REEN ∧ hotP.r THM_STS_PLEVEL = 3 ∧ hotP.r THM_STS_DLEVEL ≠ 3 ∧ hotP.thmCool false = false ∧ coolP.thmCool false = true ∧ coolP.r THM_STS_PLEVEL = 3 ∧ coolP.r THM_STS_DLEVEL ≠ 3) ∧
    (oldS.cpm.dev = .run ∧ hourU ≤ oldS.thm.unsaved ∧ oldS.cpm.phase = .running ∧ oldS.lifeBeyond = true ∧ oldS.b THM_STS_LIFEX = false) ∧
    (up.live .sys = true ∧ up.bst.blocks.length = 17 ∧ up.mayWrite .program BST_REQ_MASK ∧ (0x10002 : BitVec 17).getLsbD 16 = true ∧ (up.bstBlock 16).phase = .none ∧ (0x10002 : BitVec 17).getLsbD 0 = false) ∧
    ((bstS .pending false 16).bst.blocks.length = 17 ∧ (∀ k ∈ List.range 17, ((bstS .pending false 16).bstBlock k).phase ≠ .running) ∧ ((bstS .pending false 16).bstBlock 16).phase = .pending ∧ (bstS .pending false 16).bstAllowed 16 = true ∧ (100 : BitVec 12).toNat + bstIncrement 16 ≤ (bstS .pending false 16).plim ∧ (∀ j ∈ List.range 16, ((bstS .pending false 16).bstBlock j).phase ≠ .pending) ∧
    (∀ k ∈ List.range 17, (up.bstBlock k).phase ≠ .pending ∧ (up.bstBlock k).phase ≠ .running)) ∧
    (((bstS .pending true 16).bstBlock 16).phase = .pending ∧ ((bstS .pending true 16).bstBlock 16).since + msU (max 1 ((bstS .pending true 16).r BST_CFG_TWAIT)) ≤ ((bstS .pending true 16).at 3000000000).nowU ∧ (bstS .pending false 16).live .sys = true) ∧
    (((bstS .running true 16).bstBlock 16).phase = .running ∧ (bstS .running true 16).bstAllowed 16 = true ∧ (bstS .running true 16).on (bstDomain 16) = true ∧ ((bstS .running true 0).bstBlock 0).phase = .running ∧ (bstS .running true 0).bstAllowed 0 = true ∧ (bstS .running true 0).on (bstDomain 0) = true ∧ (bstS .running true 0).live .sys = true ∧ (bstS .running true 0).bst.blocks.length = 17) := by
  refine ⟨?_, ?_, ?_, ?_, ?_, ?_, ?_, ?_, ?_⟩
  all_goals decide +kernel

theorem test_HostFramesAreAnsweredWithinTheirRole_met :
    ((hostS .installer).hostLive = true ∧ (hostS .installer).sessRole .host (3 : Fin 8).val = some .installer ∧ (hostS .installer).sessRole .host (0 : Fin 8).val = some .operator ∧ (0x20010000 : Word).toNat % 4 = 0 ∧ (hostS .installer).hsp.late = none ∧ (hostS .installer).cpm.phase ≠ .recovery ∧ hostRec.cpm.phase = .recovery ∧ hostRec.hostLive = true ∧ (∀ i ∈ List.range 2, isSram (0x20010000 + 4 * i) = true ∧ hostHidden (0x20010000 + 4 * i) = false ∧ (hostS .installer).secded (0x20010000 + 4 * i) = none) ∧ lateS.hsp.late = some ((0x20010000 : Word).toNat, [7]) ∧ lateS.hostLive = true ∧ hostHidden 0x20000000 = true ∧ (0x20010001 : Word).toNat % 4 ≠ 0 ∧ (hostS .installer).mayLate 0x20010000 = true ∧ headOk ⟨0x20010000, ⟨3, 1, rdCrc 3 0x20010000 1⟩⟩ 1 = true ∧ headOk ⟨0x20010000, ⟨3, 1, rdCrc 3 0x20010000 1 + 1⟩⟩ 1 = false ∧ (64 : Byte).toNat = 64) ∧
    (headOk ⟨0x20010000, ⟨3, 0, wrCrc 3 0x20010000⟩⟩ 2 = true ∧ dcrcOk [9] (dcrc [9]) = true ∧ dcrcOk [9] (dcrc [9] + 1) = false ∧ isSram 0x20010000 = true ∧ hostHidden 0x20010000 = false ∧ 0x20010000 ≤ (0x20010000 : Word).toNat ∧ 2 ≤ roleRank .installer ∧ (hostS .installer).journalRefuses = false ∧ roleRank .operator < 2 ∧ isSram 0x2000FFFC = true ∧ hostHidden 0x2000FFFC = false ∧ (0x2000FFFC : Word).toNat < 0x20010000) ∧
    (fifteen.hostLive = true ∧ headOk (hd 3 0 0) 3 = true ∧ headOk (hd 3 4 0) 3 = true ∧ statusS.sessRole .host (0 : Fin 8).val = some .operator ∧ statusS.sessRole .host (4 : Fin 8).val = none ∧ statusS.hostLive = true ∧ (∀ t ∈ ({ fifteen with cpm := { fifteen.cpm with msTick := 1000 } } : State).hsp.fails, t + 1000 ≤ 1000)) ∧
    (headOk (hd 4 0 0) 4 = true ∧ dcrcOk [0, 0, 0, 0, 0, 0] (dcrc [0, 0, 0, 0, 0, 0]) = true ∧ headOk ⟨5, (hd 5 0 5).tail⟩ 5 = true ∧ up.room 0 ∧ up.hostLive = true ∧ 1 ≤ roleRank .operator ∧ up.sessRole .host (0 : Fin 8).val = some .operator ∧ 16 ≤ fullQ.kern.queue.length ∧ fullQ.hostLive = true ∧ (hostT none).kern.tickets = [⟨(5 : Word).toNat, .host, none⟩] ∧ (hostT (some (0, 1, 2))).kern.tickets = [⟨(5 : Word).toNat, .host, some (0, 1, 2)⟩] ∧ (hostT none).hostLive = true ∧ (∀ t ∈ (hostT none).kern.tickets, t.n ≠ (4 : Word).toNat ∨ t.chan ≠ .host)) ∧
    ((⟨3, .maker, .host, 300000⟩ : Session) ∈ idleS.kern.sessions ∧ idleS.sestoMs ≤ 300000 ∧ idleS.hostLive = true) := by
  unfold State.room
  refine ⟨?_, ?_, ?_, ?_, ?_⟩
  all_goals decide +kernel

theorem imaged_signature : imaged.signatureOk true = true := by decide +kernel

theorem imaged_signer : imaged.signerOk true = true := by decide +kernel

theorem imaged_header : imaged.headerOk true = true := by
  unfold State.headerOk
  have h : (imaged.header true).minStep = 0 := by decide +kernel
  simp only [h, Nat.zero_le, decide_true, Bool.true_and]
  decide +kernel

theorem imaged_ok : imaged.imageOk true = true := by
  unfold State.imageOk
  rw [imaged_header, imaged_signer, imaged_signature]
  rfl

/-- A boot record beside the image leaves its checks as they were. -/
theorem imagedB_ok : (imaged.putRec ⟨0, true, .empty, .confirmed, 0, 0⟩).imageOk true = true := by
  unfold State.imageOk State.headerOk
  have h : ((imaged.putRec ⟨0, true, .empty, .confirmed, 0, 0⟩).header true).minStep = 0 := by decide +kernel
  simp only [h, Nat.zero_le, decide_true, Bool.true_and]
  decide +kernel

/-- The image of slot B may be finalised (TestsHalyardImagesAndTicketsAreServed). -/
theorem test_GoodImage_met :
    (finS.kern.queue = ⟨0x71, (7 : Fin 8).val, 0, .program, 0, 0, 0⟩ :: [] ∧ flashService 0x71 = true ∧
      finS.kern.flash = FlashWork.finalise true 3 :: [] ∧ finS.kern.newIn true = true ∧ finS.journalRefuses = false) ∧
    finS.imageOk true = true := by
  constructor
  · decide +kernel
  · rw [State.imageOk_of_mem finS imaged (by decide +kernel) (by decide +kernel)]
    exact imaged_ok

/-- The same device held in reset, with slot B preferred and confirmed. -/
def coldImaged : State := afterF execNrst (imaged.putRec ⟨0, true, .empty, .confirmed, 0, 0⟩)

/-- A boot finds the image of slot B (BootHandsOverOrRecovers). -/
theorem test_BootFindsAnImage_met :
    (coldImaged.cpm.phase = .inReset ∧ Supply.vio ∈ coldImaged.cpm.held ∧ Supply.vddc ∈ coldImaged.cpm.held ∧
      coldImaged.cpm.dev = .run) ∧ coldImaged.otpUnread = false ∧
    ∃ s1, (coldImaged.bootReady false).chooseSlot 0 = (s1, some true) := by
  refine ⟨by decide +kernel, by decide +kernel, _, State.chooseSlot_confirmed _ true 0 (by decide +kernel) (by decide +kernel) ?_ (by decide +kernel) rfl⟩
  rw [State.imageOk_of_mem _ (imaged.putRec ⟨0, true, .empty, .confirmed, 0, 0⟩) (by decide +kernel) (by decide +kernel)]
  exact imagedB_ok

theorem nonce_tag : ((nonceS 2).touch 0).tagFor theNonce =
    [0xa6, 0xb7, 0xa7, 0xad, 0x77, 0xe2, 0xfd, 0x5e, 0x88, 0xac, 0x44, 0x68, 0xe0, 0x06, 0x9d, 0x6e] := by decide +kernel

/-- A response with its tag, and one without, to a nonce at the last instant of its ten seconds (ParametersJournalAndSessionsAreServed). -/
theorem test_Response_met :
    ((nonceS 2).serves ∧ (nonceS 2).room 0 ∧ (nonceS 2).kern.nonces = [theNonce] ∧ theNonce.chan = .program ∧
      (nonceS 2).cpm.msTick ≤ theNonce.atMs + 10000 ∧ (nonceS 2).journalRefuses = false ∧ (∀ y ∈ (nonceS 2).kern.sessions, 1 ≤ y.n) ∧
      [1, 2, 3, 4].find? (fun j => !(nonceS 2).kern.sessions.any (fun y => y.n == j)) = some 1 ∧ 2 ≤ (nonceS 2).failsOf .installer) ∧
    leBytes (0xada7b7a6 : Word).toNat 4 ++ leBytes (0x5efde277 : Word).toNat 4 ++ leBytes (0x6844ac88 : Word).toNat 4 ++
      leBytes (0x6e9d06e0 : Word).toNat 4 = ((nonceS 2).touch 0).tagFor theNonce ∧
    leBytes (0 : Word).toNat 4 ++ leBytes (0 : Word).toNat 4 ++ leBytes (0 : Word).toNat 4 ++ leBytes (0 : Word).toNat 4 ≠
      ((nonceS 2).touch 0).tagFor theNonce := by
  rw [nonce_tag]
  unfold State.serves State.room
  decide +kernel

/-! An ill-formed term for each check of WellFormed. -/

theorem test_registerWrite_unaligned : (Instr.registerWrite .program 0x40003002 0).wellFormed = false := by decide
theorem test_patrolScrub_unaligned : (Instr.patrolScrub 0x20010001 true {}).wellFormed = false := by decide
theorem test_can_remote_fd : (Instr.canFrameReceived 0 0 false true false true false 0 []).wellFormed = false := by decide
theorem test_can_long : (Instr.canFrameReceived 0 0 false false false true false 0 (List.replicate 65 0)).wellFormed = false := by
  decide +kernel
theorem test_acyclic_long : (Instr.acyclicFrame 0 0 ⟨false, 0, 5, false, 8, 4, 1, 2, 0, List.replicate 257 0⟩ 0).wellFormed = false := by
  decide +kernel
theorem test_scan_twice : (Instr.boundaryScan true 0 ⟨[3, 7, 3], []⟩).wellFormed = false := by decide
theorem test_scan_high_twice : (Instr.boundaryScan true 0 ⟨[], [47, 47]⟩).wellFormed = false := by decide
theorem test_cycle_long (l : List Byte) (h : l.length = 131073) : (Instr.cycleFrame 0 0 0 l true true true).wellFormed = false := by
  simp only [Instr.wellFormed, h]
  decide
theorem test_copy_long (l : List Byte) (h : l.length = 131073) : (Instr.returningCopy 0 0 l true true).wellFormed = false := by
  simp only [Instr.wellFormed, h]
  decide

/-! Results of single commands, by the rules. -/

/-- FIPS 197, appendix C.1. -/
theorem test_aes128 : aes128 ((List.range 16).map (BitVec.ofNat 8)) ((List.range 16).map (fun k => BitVec.ofNat 8 (17 * k))) =
    [0x69, 0xc4, 0xe0, 0xd8, 0x6a, 0x7b, 0x04, 0x30, 0xd8, 0xcd, 0xb7, 0x80, 0x70, 0xb4, 0xc5, 0x5a] := by decide +kernel

/-- FIPS 180-4's example "abc". -/
theorem test_sha256 : (sha256 [0x61, 0x62, 0x63]).take 8 = [0xba, 0x78, 0x16, 0xbf, 0x8f, 0x01, 0xcf, 0xea] := by decide +kernel

/-- R333: a sum wraps. R337: a branch counts words from its own address. -/
theorem test_add_wraps : ((afterF (execPaAdd true 9 7 7) inK).core true).gr 9 = 0 := by decide +kernel
theorem test_beq_back : ((afterF (execPaBeq true 6 6 0xFFFF) inK).core true).pc = 0x2000FFFC := by decide +kernel
/-- R333, R334, R329, R341, R338. -/
theorem test_mulh_signs : ((afterF (execPaMulh true 9 7 6) inK).core true).gr 9 = 0xFFFFFFFC := by decide +kernel
theorem test_div_truncates : ((afterF (execPaRem true 9 7 6) inK).core true).gr 9 = 0xFFFFFFFE := by decide +kernel
theorem test_lh_extends : ((afterF (execPaLh true 9 5 2) inU).core true).gr 9 = 0xFFFFFEDC := by decide +kernel
theorem test_sb_one_byte : (afterF (execPaSb true 6 5 3) inU).readLE 0x20010010 4 = 0x07DC8899 := by decide +kernel
theorem test_g0_reads_zero : ((afterF (execPaAddi true 0 6 1) inK).core true).gr 0 = 0 := by decide +kernel
theorem test_fadd : ((afterF (execPaFadd true 9 1 2 0 false) inU).core true).fr 9 = 0xBF800000 := by decide +kernel
theorem test_fdiv_by_zero_traps : ((afterF (execPaFdiv true 9 1 0 0 true) inU).core true).tcause = 0xC := by decide +kernel
theorem test_wait_privileged : ((afterF (execPaWait true) inS).core true).tcause = 2 := by decide +kernel

/-- R69: a software reset needs its key. -/
theorem test_reset_key : (afterF (execSoftwareReset .kernel 0x5A) up).cpm.phase = .inReset ∧
    (afterF (execSoftwareReset .kernel 0x5B) up).cpm.phase = .running := by decide +kernel

/-- R351: the region and its copy lie within SRAM. -/
theorem test_region_set : (afterF (execDuplicatedRegionSet .program 0x1FFF) region).dupSet = true ∧
    (afterF (execDuplicatedRegionSet .program 0xFFFFF) region).dupSet = false := by decide +kernel

/-- R438: a waiting block is admitted under the limit. -/
theorem test_admission : ((afterF (execAdmissionScan 30 100) (bstS .pending false 16)).bstBlock 16).phase = .running := by
  decide +kernel

/-- R447: late data answers the next READ of its address. -/
theorem test_late_read : (afterF (execHostRead (rdCrc 3 0x20010000 1) 3 0x20010000 1 false) lateS).hsp.words = [7] := by decide +kernel

/-- R466: the sixteenth failure within a second is a fault. -/
theorem test_crc_failures : (afterF (execHostRead (rdCrc 3 0x20010000 1 + 1) 3 0x20010000 1 false) fifteen).hasFault Fid.hostFrameErrors = true := by
  decide +kernel

end Sys2Proof.Tests
end

section
/-!
The statements about the safe state's pads under the override of the SSS and about a register write.
-/
namespace Sys2Proof.Machine

open Reg

/-! The pads under the override of the SSS (R29, R30, R375, R392). -/

@[simp] theorem State.after_padA (s x : State) : (s.after x).pins.padA = x.padOf 0 x.pwm.legA x.pins.padA := rfl
@[simp] theorem State.after_padB (s x : State) : (s.after x).pins.padB = x.padOf 1 x.pwm.legB x.pins.padB := rfl
@[simp] theorem State.after_padC (s x : State) : (s.after x).pins.padC = x.padOf 2 x.pwm.legC x.pins.padC := rfl
@[simp] theorem State.after_extestActive (s x : State) : (s.after x).extestActive = x.extestActive := rfl
@[simp] theorem State.after_patternOn (s x : State) : (s.after x).patternOn = x.patternOn := rfl

/-- A latent test drives its pattern in FREEWHEEL alone (R392). -/
theorem State.safest_of_patternOn (x : State) (h : x.patternOn = true) : x.safest = .freewheel := by
  simp only [State.patternOn, Bool.and_eq_true, beq_iff_eq] at h
  exact h.1.2

/-- An ASC state holds no pattern of a latent test. -/
theorem State.patternOn_of_safest_ne (x : State) (h : x.safest ≠ .freewheel) : x.patternOn = false :=
  Bool.eq_false_iff.mpr (fun hp => h (x.safest_of_patternOn hp))

section
variable {x : State} (hvio : x.cpm.vio = true) (hext : x.extestActive = false)
include hvio hext

/-- Under a latent test's pattern a pad is on exactly where the pattern turns it on (R392). -/
theorem State.padOf_pattern (hpat : x.patternOn = true) (n : Nat) (l : Leg) (p : PadLeg) :
    ((x.padOf n l p).hi = true ↔ x.sss.pattern = .ascH) ∧ ((x.padOf n l p).lo = true ↔ x.sss.pattern = .ascL) := by
  simp only [State.padOf, State.legLevels, hvio, hext, hpat]
  cases x.sss.pattern <;> simp [safeForce]

variable (hovr : x.b SSS_STS_OVR = true)
include hovr

/-- Under the override a pad is on only where the safe state's pattern turns it on: once the state conducts, or as long as it
was on before (R29, R375). -/
theorem State.padOf_override (hpat : x.patternOn = false) (n : Nat) (l : Leg) (p : PadLeg) :
    (x.padOf n l p).hi = (decide (safeForce x.safest = .high) && (x.sss.ascOn || p.hi)) ∧
      (x.padOf n l p).lo = (decide (safeForce x.safest = .low) && (x.sss.ascOn || p.lo)) := by
  simp [State.padOf, State.legLevels, hvio, hext, hpat, hovr]

/-- FREEWHEEL turns both switches of a leg off (R5). -/
theorem State.padOf_freewheel (hpat : x.patternOn = false) (hs : x.safest = .freewheel) (n : Nat) (l : Leg) (p : PadLeg) :
    (x.padOf n l p).isOff := by
  obtain ⟨hhi, hlo⟩ := State.padOf_override hvio hext hovr hpat n l p
  simp [PadLeg.isOff, hhi, hlo, hs, safeForce]

/-- ASC-L turns the high side off, and the low side on once it conducts (R5, R375). -/
theorem State.padOf_ascL (hs : x.safest = .ascL) (n : Nat) (l : Leg) (p : PadLeg) :
    (x.padOf n l p).hi = false ∧ (x.sss.ascOn = true → (x.padOf n l p).lo = true) := by
  obtain ⟨hhi, hlo⟩ := State.padOf_override hvio hext hovr (x.patternOn_of_safest_ne (by simp [hs])) n l p
  simp +contextual [hhi, hlo, hs, safeForce]

/-- ASC-H turns the low side off, and the high side on once it conducts (R5, R375). -/
theorem State.padOf_ascH (hs : x.safest = .ascH) (n : Nat) (l : Leg) (p : PadLeg) :
    (x.padOf n l p).lo = false ∧ (x.sss.ascOn = true → (x.padOf n l p).hi = true) := by
  obtain ⟨hhi, hlo⟩ := State.padOf_override hvio hext hovr (x.patternOn_of_safest_ne (by simp [hs])) n l p
  simp +contextual [hhi, hlo, hs, safeForce]

end

/-- Settles O6: every command ends with the pads settled, and a settled pad under the override follows the safe state's or the
latent test's pattern, whatever the command did. -/
theorem overridePatternOfTheSafeState : Obligations.OverridePatternOfTheSafeState := by
  unfold Obligations.OverridePatternOfTheSafeState
  intro c s u hc hvio hext hovr
  obtain ⟨x, hx⟩ := exec_after c s
  obtain rfl : s.after x = u := by simpa [hx] using hc
  simp only [State.after_cpm, State.after_extestActive, State.after_b] at hvio hext hovr
  simp only [State.after_safest, State.after_patternOn, State.after_sss, State.coasts, State.after_padA, State.after_padB,
    State.after_padC]
  refine ⟨fun hs hpat => ?freewheel, fun hpat => ?pattern, fun hs => ?ascL, fun hs => ?ascH⟩
  case freewheel =>
    have leg := State.padOf_freewheel hvio hext hovr hpat hs
    exact ⟨leg _ _ _, leg _ _ _, leg _ _ _⟩
  case pattern => simp [State.padOf_pattern hvio hext hpat]
  case ascL => simp +contextual [State.padOf_ascL hvio hext hovr hs]
  case ascH => simp +contextual [State.padOf_ascH hvio hext hovr hs]

/-! A register write over a crossing whose values are STALE (R67). -/

/-- A register write to an aligned word of a window that answers takes effect by the word's fields. -/
theorem exec_registerWrite (who : Agent) (addr v : Word) (s : State)
    (h : (kindOf addr.toNat == .window && addr.toNat % 4 == 0 && s.answers addr.toNat) = true) :
    exec (.registerWrite who addr v) s = .next (s.after (s.writeWin who addr.toNat v.toNat).1) :=
  congrArg (fun x => Host.Outcome.next (s.after x)) (s.when_true _ _ h)

/-- HOST is powered and out of reset, and a reset of it has left the crossing from SYS to CAN STALE (R65, R67). -/
def staleCan : State :=
  (({ cpm := { inReset := 0 } } : State).w CPM_STATE_DOMON 0x1FF).w CPM_XSTALE_STALE 0x020

/-- Refutes O15: a write of CAN_IRQEN passes the crossing from SYS to CAN, so that its STALE bit falls, as the clause on active
values allows. CPM_XSTALE has no shadow bank of its own, where `shadowOf` gives the active value; so the clause that every other
field keeps its `shadowOf` fails at CPM_XSTALE.STALE, which it does not except. -/
theorem not_registerWriteFollowsTheAccessCode : ¬ Obligations.RegisterWriteFollowsTheAccessCode := by
  unfold Obligations.RegisterWriteFollowsTheAccessCode
  intro h
  obtain ⟨shadowed, -⟩ := h staleCan .kernel (CAN_IRQEN_EN 0) 0 rfl (by decide +kernel) (by decide) (by decide) (by decide)
    (by decide +kernel) (by decide) (by decide) (by decide +kernel) (by decide) (by decide +kernel)
  obtain ⟨u, hu, -, -, -, others⟩ :=
    shadowed .O rfl (by decide +kernel) (by decide +kernel) (by decide +kernel) (by decide +kernel)
  have hw := exec_registerWrite .kernel (BitVec.ofNat 32 (CAN_IRQEN_EN 0).addr) 0 staleCan (by decide +kernel)
  obtain rfl := Host.Outcome.next.inj (hw.symm.trans hu)
  have kept := others CPM_XSTALE_STALE (by decide)
  have before : staleCan.shadowOf CPM_XSTALE_STALE = 0x020 := by decide +kernel
  have fallen : (staleCan.writeWin .kernel (BitVec.ofNat 32 (CAN_IRQEN_EN 0).addr).toNat 0).1.shadowOf CPM_XSTALE_STALE = 0 := by
    decide +kernel
  rw [before] at kept
  exact absurd (fallen.symm.trans kept) (by decide)

end Sys2Proof.Machine
end

section
/-!
The statement about domain requests, naps, reloads and STOPMAX.
-/
namespace Sys2Proof.Machine

open Reg

/-! Bits of a mask. -/

@[simp] theorem bit_bitSet (n k j : Nat) : bit (bitSet n k) j = (bit n j || decide (k = j)) := by
  simp [bit, bitSet, Nat.testBit_two_pow]

/-- A cleared bit reads 0, whatever the mask was. -/
@[simp] theorem bit_bitClr_self (n k : Nat) : bit (bitClr n k) k = false := by
  unfold bit bitClr
  split
  case isTrue h =>
    have hdiv : (n - 2 ^ k) / 2 ^ k = n / 2 ^ k - 1 := by simpa using Nat.sub_mul_div n (2 ^ k) 1
    simp only [Nat.testBit_eq_decide_div_mod_eq, decide_eq_true_eq, decide_eq_false_iff_not] at h ⊢
    omega
  case isFalse h => simpa using h

/-! The bits of DOMON (R68). -/

theorem domBit_lt (d : Domain) : domBit d < 9 := by cases d <;> decide

theorem domBit_inj {d e : Domain} : domBit d = domBit e ↔ d = e := by
  constructor
  · cases d <;> cases e <;> simp [domBit]
  · exact congrArg domBit

/-- A domain's power after a write of DOMON is its bit of the value: the field is wide enough for every domain. -/
theorem State.on_w_domon (s : State) (v : Nat) (d : Domain) : (s.w CPM_STATE_DOMON v).on d = bit v (domBit d) := by
  have hd : domBit d < CPM_STATE_DOMON.width := domBit_lt d
  simp only [State.on, s.r_w_self CPM_STATE_DOMON v (by decide) (by decide), bit, Nat.testBit_mod_two_pow, hd, decide_true,
    Bool.true_and]

theorem State.on_w_other (s : State) (f : Fld) (v : Nat) (d : Domain) (h : f.key ≠ CPM_STATE_DOMON.key) :
    (s.w f v).on d = s.on d :=
  congrArg (bit · (domBit d)) (s.r_w_other f CPM_STATE_DOMON v h)

theorem State.on_setBit_domon (s : State) (d e : Domain) :
    (s.setBit CPM_STATE_DOMON (domBit d)).on e = (s.on e || decide (d = e)) :=
  (s.on_w_domon _ e).trans (by simp only [bit_bitSet, domBit_inj, State.on])

theorem State.on_clrBit_domon_self (s : State) (d : Domain) : (s.clrBit CPM_STATE_DOMON (domBit d)).on d = false := by
  simp only [State.clrBit, State.on_w_domon, bit_bitClr_self]

/-! Switching one domain (R47 to R49). -/

theorem State.on_domainOff_self (s : State) (d : Domain) : (s.domainOff d).on d = false :=
  ((s.resetClear d).loseMemory d).on_clrBit_domon_self d

/-- A rising rail sets its own bit in the CPM and no register field (R48). -/
theorem State.domainRise_off (s : State) (d : Domain) (h : s.on d = false) :
    s.domainRise d = s.modCpm (fun c => { c with rising := bitSet c.rising (domBit d) }) := by
  simp [State.domainRise, State.modCpm, h]

theorem State.domainAsk_off (s : State) (d : Domain) (h : s.on d = true) :
    s.domainAsk d false = if s.mayOff d then s.domainOff d else s.w CPM_STATE_REFUSED 1 := by
  simp [State.domainAsk, h]

/-- A powered-up domain is on, and every other domain's DOMON bit stands; CLE's reload and HOST's announcement touch neither. -/
theorem State.on_domainUp (s : State) (d e : Domain) : (s.domainUp d).on e = (s.on e || decide (d = e)) := by
  rw [← s.on_setBit_domon d e]
  unfold State.domainUp
  cases d
  case cle => dsimp only; split <;> rfl
  case host =>
    dsimp only
    split
    · exact State.on_w_other _ _ _ e (by decide)
    · rfl
  all_goals rfl

/-- A powered-up domain is out of reset. -/
theorem State.inReset_domainUp (s : State) (d : Domain) :
    (s.domainUp d).cpm.inReset = bitClr s.cpm.inReset (domBit d) := by
  unfold State.domainUp
  cases d
  case cle | host => dsimp only; split <;> rfl
  all_goals rfl

theorem State.byte_domainUp (s : State) (d : Domain) (a : Nat) : (s.domainUp d).byte a = s.byte a := by
  unfold State.domainUp
  cases d
  case cle | host => dsimp only; split <;> rfl
  all_goals rfl

/-! The commands under their conditions. -/

theorem exec_domainRequest (who : Agent) (req : BitVec 6) (s : State)
    (h : (s.live .sys && s.mayWrite who CPM_DOMREQ_REQ) = true) :
    exec (.domainRequest who req) s = .next (s.after (s.writeDomreq req.toNat)) :=
  congrArg (fun x => Host.Outcome.next (s.after x)) (s.when_true _ _ h)

theorem exec_domainPowerUp (d : Domain) (s : State)
    (h : (bit s.cpm.rising (domBit d) && (d == .sys || s.live .sys) &&
      (s.cpm.held.contains .vio && s.cpm.held.contains (if d = .hly then .vdds else .vddc))) = true) :
    exec (.domainPowerUp d) s = .next (s.after (s.domainUp d)) :=
  congrArg (fun x => Host.Outcome.next (s.after x)) (s.when_true _ _ h)

theorem exec_implNap (t : Nat) (s : State)
    (h : (s.cpm.dev == .run && s.live .impl && s.b CPM_SLEEPCFG_IMPLNAP && s.axesRest && !(s.at t).eventSoon) = true) :
    exec (.implNap t) s = .next (s.after ((s.at t).modCpm (fun c => { c with implNap := true }))) :=
  congrArg (fun x => Host.Outcome.next (s.after x)) ((s.at t).when_true _ _ h)

theorem exec_hlyNap (s : State) (h : (s.cpm.dev == .run && s.live .hly && s.b CPM_SLEEPCFG_HLYNAP) = true) :
    exec .hlyNap s = .next (s.after (s.modCpm (fun c => { c with hlyNap := true }))) :=
  congrArg (fun x => Host.Outcome.next (s.after x)) (s.when_true _ _ h)

theorem exec_codeReloadComplete (s : State) (h : s.cpm.codeReload = true) :
    exec .codeReloadComplete s = .next (s.after ((s.loadCode s.bootSlot).modCpm (fun c => { c with codeReload := false }))) :=
  congrArg (fun x => Host.Outcome.next (s.after x)) (s.when_true _ _ h)

theorem exec_cleReloadComplete (s : State) (h : (s.cpm.cleReload && s.live .cle) = true) :
    exec .cleReloadComplete s =
      .next (s.after (((s.loadCle s.bootSlot).w CLE_CTRL_PEN 0).modCpm (fun c => { c with cleReload := false }))) :=
  congrArg (fun x => Host.Outcome.next (s.after x)) (s.when_true _ _ h)

/-- STOPMAX after the last speed source was lost, standstill is recorded unconfirmed (R16). -/
theorem exec_stopmaxExpiry (s : State) (a : Nat) (ha : s.cpm.stopFrom = some a)
    (h : (s.cpm.coasting && decide (a + s.stopMaxMs ≤ s.cpm.msTick)) = true) :
    exec .stopmaxExpiry s =
      .next (s.after ((s.w CPM_STATE_UNCONF 1).modCpm (fun c => { c with unconf := true }))) :=
  congrArg (fun x => Host.Outcome.next (s.after x)) (s.when_true _ _ (by rw [ha]; exact h))

/-- Settles O11: a request of one domain is its rise, its switch-off or the refusal, DOMON holds one bit for each domain, and the
naps, reloads and STOPMAX each change the CPM fields they name. -/
theorem domainsAndNaps : Obligations.DomainsAndNaps := by
  unfold Obligations.DomainsAndNaps
  intro s
  refine ⟨fun who req hsys hwr => ?request, fun d hon hmay => ?refused, fun d hon hmay => ?off, fun d hoff => ?rise,
    fun d hrise hsys hvio hsup => ?powerUp, fun t hrun himpl hcfg hrest hsoon => ?implNap, ?implWake,
    fun hrun hhly hcfg => ?hlyNap, ?hlyWake, fun hcode => ?codeReload, fun hre hcle => ?cleReload,
    fun a ha hcoast hle => ?stopmax⟩
  case request => exact exec_domainRequest who req s (by simp [hsys, hwr])
  case refused => simp [s.domainAsk_off d hon, hmay]
  case off => simp [s.domainAsk_off d hon, hmay, State.on_domainOff_self]
  case rise =>
    have hask : s.domainAsk d true = s.modCpm (fun c => { c with rising := bitSet c.rising (domBit d) }) :=
      s.domainRise_off d hoff
    rw [hask]
    exact ⟨by simp, fun _ _ => rfl⟩
  case powerUp =>
    refine ⟨_, exec_domainPowerUp d s (by simp [hrise, hsys, hvio, hsup]), ?_, ?_, fun e he => ?_, fun a => ?_⟩
    · exact (s.on_domainUp d d).trans (by simp)
    · simp [State.inReset_domainUp]
    · exact (s.on_domainUp d e).trans (by simp [he.symm])
    · exact s.byte_domainUp d a
  case implNap =>
    exact ⟨_, exec_implNap t s (by simp [hrun, himpl, hcfg, hrest, hsoon]), rfl, fun _ _ => rfl, fun _ => rfl⟩
  case implWake => exact ⟨_, rfl, rfl, fun _ _ => rfl, fun _ => rfl⟩
  case hlyNap => exact ⟨_, exec_hlyNap s (by simp [hrun, hhly, hcfg]), rfl, rfl, fun _ _ => rfl, fun _ => rfl⟩
  case hlyWake => exact ⟨_, rfl, rfl, fun _ _ => rfl, fun _ => rfl⟩
  case codeReload => exact ⟨_, exec_codeReloadComplete s hcode, rfl⟩
  case cleReload =>
    have hpen := (s.loadCle s.bootSlot).r_w_self CLE_CTRL_PEN 0 (by decide) (by decide)
    exact ⟨_, exec_cleReloadComplete s (by simp [hre, hcle]), by simp, by simpa using hpen⟩
  case stopmax =>
    refine ⟨_, exec_stopmaxExpiry s a ha (by simp [State.stopMaxMs, hcoast, hle]), ?_, rfl, fun f hf => ?_⟩
    · exact s.r_w_self CPM_STATE_UNCONF 1 (by decide) (by decide)
    · exact s.r_w_other CPM_STATE_UNCONF f 1 (by simpa [eq_comm] using hf)

end Sys2Proof.Machine
end

section
/-!
The statement about the scheduler's choice of a sleep depth.
-/
namespace Sys2Proof.Machine

open Reg

/-- The sleep states in the scheduler's order, the deepest first (R55). -/
def sleepOrder : List DevState := [.parked, .dormant, .nap, .idle]

/-- The scheduler may choose a sleep state: the cap and R54's conditions allow it, and it fits in the time available. -/
def State.sleepFits (s : State) (slotNs : Option Nat) (d : DevState) : Bool :=
  decide (devCode d ≤ s.sleepCap) && s.maySleep d && (s.availT slotNs).all (fun t => decide (s.sleepCost d ≤ t))

theorem State.sleepDepth_eq (s : State) (slotNs : Option Nat) :
    s.sleepDepth slotNs = (sleepOrder.find? (s.sleepFits slotNs)).getD .run := by
  have hfits : s.sleepFits slotNs = fun d => decide (devCode d ≤ s.sleepCap) && s.maySleep d &&
      (s.availT slotNs).all (fun t => decide (s.sleepCost d ≤ t)) := rfl
  rw [hfits]
  unfold State.sleepDepth
  cases s.availT slotNs <;> rfl

theorem State.sleepFits_iff (s : State) (slotNs : Option Nat) (d : DevState) :
    s.sleepFits slotNs d = true ↔
      devCode d ≤ s.sleepCap ∧ s.maySleep d = true ∧ ∀ t, s.availT slotNs = some t → s.sleepCost d ≤ t := by
  simp [State.sleepFits, and_assoc, Option.all_eq_true]

/-- Every state but RUN is one the scheduler considers. -/
theorem mem_sleepOrder {d : DevState} (h : d ≠ .run) : d ∈ sleepOrder := by
  cases d <;> simp_all [sleepOrder]

/-- In the scheduler's order the codes fall. -/
theorem sleepOrder_pairwise : sleepOrder.Pairwise (fun d e => devCode e < devCode d) := by decide

/-- A first match in a list whose measure falls: what measures more does not match. -/
theorem find?_descending {α : Type} {p : α → Bool} {m : α → Nat} {l : List α} (hl : l.Pairwise (fun a b => m b < m a))
    {x y : α} (hx : l.find? p = some x) (hy : y ∈ l) (hlt : m x < m y) : p y = false := by
  obtain ⟨-, before, rest, rfl, hbefore⟩ := List.find?_eq_some_iff_append.mp hx
  obtain hy | rfl | hy := by simpa using hy
  · simpa using hbefore y hy
  · exact absurd hlt (Nat.lt_irrefl _)
  · have hxy : m y < m x := List.rel_of_pairwise_cons (List.pairwise_append.mp hl).2.1 hy
    omega

/-- A depth chosen below RUN is one the scheduler may choose. -/
theorem State.sleepFits_sleepDepth (s : State) (slotNs : Option Nat) (h : s.sleepDepth slotNs ≠ .run) :
    s.sleepFits slotNs (s.sleepDepth slotNs) = true := by
  rw [s.sleepDepth_eq slotNs] at h ⊢
  cases hfind : sleepOrder.find? (s.sleepFits slotNs) with
  | none => simp [hfind] at h
  | some d => exact List.find?_some hfind

/-- No state deeper than the one chosen is one the scheduler may choose. -/
theorem State.sleepFits_deeper (s : State) (slotNs : Option Nat) (d : DevState)
    (h : devCode (s.sleepDepth slotNs) < devCode d) : s.sleepFits slotNs d = false := by
  have hd : d ∈ sleepOrder := mem_sleepOrder (by rintro rfl; exact absurd h (Nat.not_lt_zero _))
  rw [s.sleepDepth_eq slotNs] at h
  cases hfind : sleepOrder.find? (s.sleepFits slotNs) with
  | none => simpa using List.find?_eq_none.mp hfind d hd
  | some x => exact find?_descending sleepOrder_pairwise hfind hd (by simpa [hfind] using h)

/-- Settles O12: the choice is the first match in an order of falling depth, so it matches and nothing deeper does. -/
theorem sleepDepthIsTheDeepestThatFits : Obligations.SleepDepthIsTheDeepestThatFits := by
  unfold Obligations.SleepDepthIsTheDeepestThatFits
  intro s slotNs
  refine ⟨fun hsleeps => (s.sleepFits_iff slotNs _).mp (s.sleepFits_sleepDepth slotNs hsleeps), fun d hdeeper hcap hmay => ?_⟩
  refine Classical.byContradiction fun hroom => ?_
  have hfits : s.sleepFits slotNs d = true :=
    (s.sleepFits_iff slotNs d).mpr ⟨hcap, hmay, fun t ht => Int.not_lt.mp fun hlt => hroom ⟨t, ht, hlt⟩⟩
  exact Bool.false_ne_true ((s.sleepFits_deeper slotNs d hdeeper).symm.trans hfits)

end Sys2Proof.Machine
end

section
/-!
The statement about the clocks' events and the 1 ms tick.
-/
namespace Sys2Proof.Machine

open Reg

/-! A bit of a field. -/

theorem State.bit_clrBit_self (s : State) (f : Fld) (k : Nat) (hw : f.width ≤ 32) (hr : f.reset < 2 ^ 32) :
    bit ((s.clrBit f k).r f) k = false := by
  have hclr := bit_bitClr_self (s.r f) k
  simp only [bit] at hclr ⊢
  rw [State.clrBit, s.r_w_self f _ hw hr, Nat.testBit_mod_two_pow, hclr, Bool.and_false]

theorem State.bit_setBit_self (s : State) (f : Fld) (k : Nat) (hw : f.width ≤ 32) (hr : f.reset < 2 ^ 32) (hk : k < f.width) :
    bit ((s.setBit f k).r f) k = true := by
  have hset := bit_bitSet (s.r f) k k
  simp only [bit, decide_true, Bool.or_true] at hset ⊢
  rw [State.setBit, s.r_w_self f _ hw hr, Nat.testBit_mod_two_pow, hset, decide_eq_true hk, Bool.and_true]

/-! CLKOK under the commands of the clocks. -/

theorem State.bit_clkok_clrBit (s : State) (k : Nat) : bit ((s.clrBit CPM_CLKSTAT_CLKOK k).r CPM_CLKSTAT_CLKOK) k = false :=
  s.bit_clrBit_self CPM_CLKSTAT_CLKOK k (by decide) (by decide)

theorem State.bit_clkok_setBit (s : State) (k : Nat) (hk : k < CPM_CLKSTAT_CLKOK.width) :
    bit ((s.setBit CPM_CLKSTAT_CLKOK k).r CPM_CLKSTAT_CLKOK) k = true :=
  s.bit_setBit_self CPM_CLKSTAT_CLKOK k (by decide) (by decide) hk

/-- The fault path does not write CLKOK. -/
theorem FaultFrame.bit_clkok {s x u : State} (h : FaultFrame x u) (k : Nat) :
    bit ((s.after u).r CPM_CLKSTAT_CLKOK) k = bit (x.r CPM_CLKSTAT_CLKOK) k :=
  congrArg (bit · k) (h.regs CPM_CLKSTAT_CLKOK (by decide))

/-- The fault path leaves the clock that SYS runs from. -/
theorem FaultFrame.sysOnWrc {s x u : State} (h : FaultFrame x u) : (s.after u).cpm.sysOnWrc = x.cpm.sysOnWrc :=
  (congrArg Cpm.sysOnWrc h.cpm :)

/-- The fault path leaves the verdict on ARC. -/
theorem FaultFrame.arcBad {s x u : State} (h : FaultFrame x u) : (s.after u).cpm.arcBad = x.cpm.arcBad :=
  (congrArg Cpm.arcBad h.cpm :)

/-- A command that leaves memory up to the fault path leaves it. -/
theorem FaultFrame.keepsMem_after {s x u : State} (h : FaultFrame x u) (hx : x.mem = s.mem) : s.keepsMem (s.after u) :=
  fun a => (State.after_byte s u a).trans (u.byte_of_mem s (h.mem.trans hx) a)

/-- A port of the ring that changes its link state writes no field of another block. -/
theorem State.r_linkTo (s : State) (n st : Nat) (f : Fld) (hstate : (HLY_PORT_LSTATE n).key ≠ f.key)
    (hirq : HLY_IRQ_EVT.key ≠ f.key) (hloop0 : (HLY_PORT_LOOP 0).key ≠ f.key) (hloop1 : (HLY_PORT_LOOP 1).key ≠ f.key) :
    (s.linkTo n st).r f = s.r f := by
  unfold State.linkTo
  split
  · rfl
  · simp only [State.loops, State.hlyIrq, State.setBit, State.r_wb_other _ _ f _ hloop0, State.r_wb_other _ _ f _ hloop1,
      State.r_w_other _ _ f _ hirq, State.r_w_other _ _ f _ hstate]

theorem State.clkok_linkTo (s : State) (n st : Nat) : (s.linkTo n st).r CPM_CLKSTAT_CLKOK = s.r CPM_CLKSTAT_CLKOK := by
  have hstate : (HLY_PORT_LSTATE n).key ≠ CPM_CLKSTAT_CLKOK.key := by
    simp only [Fld.key, HLY_PORT_LSTATE, CPM_CLKSTAT_CLKOK]
    omega
  exact s.r_linkTo n st CPM_CLKSTAT_CLKOK hstate (by decide) (by decide) (by decide)

/-- A command that ends with a raise leaves its fault active (R404). -/
theorem State.raised_after_raise (s x : State) (id d : Nat) (h : id ∉ disClears) : (s.after (x.raise id d)).raised id :=
  (State.after_hasFault s _ id).trans (hasFault_raise x id d h)

/-! What the kernel's and the blocks' work at a 1 ms tick keeps. -/

/-- Memory and the counts of AON stay. -/
structure TickFrame (s u : State) : Prop where
  mem : u.mem = s.mem
  msTick : u.cpm.msTick = s.cpm.msTick
  aon : u.cpm.aon = s.cpm.aon

theorem TickFrame.refl (s : State) : TickFrame s s := ⟨rfl, rfl, rfl⟩

theorem TickFrame.trans {s u v : State} (h : TickFrame s u) (g : TickFrame u v) : TickFrame s v :=
  ⟨g.mem.trans h.mem, g.msTick.trans h.msTick, g.aon.trans h.aon⟩

theorem FaultFrame.tick {s u : State} (h : FaultFrame s u) : TickFrame s u :=
  ⟨h.mem, (congrArg Cpm.msTick h.cpm :), (congrArg Cpm.aon h.cpm :)⟩

theorem tickFrame_foldl {α : Type} (f : State → α → State) (h : ∀ s x, TickFrame s (f s x)) (l : List α) (s : State) :
    TickFrame s (l.foldl f s) := by
  induction l generalizing s with
  | nil => exact .refl s
  | cons x l ih => exact (h s x).trans (ih _)

theorem tickFrame_ite {p : Prop} [Decidable p] {s u v : State} (h : TickFrame s u) (g : TickFrame s v) :
    TickFrame s (if p then u else v) := by
  split
  · exact h
  · exact g

theorem tickFrame_w (s : State) (f : Fld) (v : Nat) : TickFrame s (s.w f v) := ⟨rfl, rfl, rfl⟩
theorem tickFrame_modSss (s : State) (f : Sss → Sss) : TickFrame s (s.modSss f) := ⟨rfl, rfl, rfl⟩
theorem tickFrame_modSaf (s : State) (f : Saf → Saf) : TickFrame s (s.modSaf f) := ⟨rfl, rfl, rfl⟩
theorem tickFrame_setPair (s : State) (p : Nat) (x : SafPair) : TickFrame s (s.setPair p x) := tickFrame_modSaf s _
theorem tickFrame_setSafOut (s : State) (n : Nat) (x : SafOut) : TickFrame s (s.setSafOut n x) := tickFrame_modSaf s _
theorem tickFrame_modKern (s : State) (f : Kernel → Kernel) : TickFrame s (s.modKern f) := ⟨rfl, rfl, rfl⟩

theorem tickFrame_autoClear (s : State) (id d : Nat) : TickFrame s (s.autoClear id d) := (faultFrame_autoClear s id d).tick
theorem tickFrame_raise (s : State) (id d : Nat) : TickFrame s (s.raise id d) := (faultFrame_raise s id d).tick

/-! The SSS (R374). -/

theorem tickFrame_sssSpeed (s : State) : TickFrame s s.sssSpeed := by
  unfold State.sssSpeed
  exact tickFrame_ite ⟨rfl, rfl, rfl⟩ (tickFrame_ite ⟨rfl, rfl, rfl⟩ ⟨rfl, rfl, rfl⟩)

theorem tickFrame_sssReselect (s : State) : TickFrame s s.sssReselect := by
  have hold : ∀ x, TickFrame s (s.holdSafe x) := fun x => (faultFrame_holdSafe s x).tick
  unfold State.sssReselect
  refine tickFrame_ite ?_ (.refl s)
  dsimp only
  cases s.safest
  case none => exact .refl s
  all_goals exact tickFrame_ite (hold _) (.refl s)

theorem tickFrame_enterOff (s : State) : TickFrame s s.enterOff := by
  unfold State.enterOff
  extract_lets held cleared idle
  have hheld : TickFrame s held :=
    ((faultFrame_holdSafe s .freewheel).trans (faultFrame_stageOverridden _)).tick.trans (tickFrame_w _ SSS_STS_DSTATE 0)
  have hidle : TickFrame held idle := ⟨rfl, rfl, rfl⟩
  exact (hheld.trans hidle).trans (faultFrame_disWake idle).tick

theorem tickFrame_recoverOff (s : State) : TickFrame s s.recoverOff := tickFrame_ite (tickFrame_enterOff s) (.refl s)

theorem tickFrame_sssTick (s : State) (periods : Nat) : TickFrame s (s.sssTick periods) := by
  have h := ((tickFrame_sssSpeed s).trans (tickFrame_sssReselect _)).trans (tickFrame_recoverOff _)
  exact tickFrame_ite (h.trans (tickFrame_modSss _ _)) h

/-! The pairs and outputs of SAF (R384 to R389). -/

theorem tickFrame_safOutputs (s : State) : TickFrame s s.safOutputs := by
  unfold State.safOutputs
  refine tickFrame_foldl _ (fun u n => ?_) _ s
  exact ⟨rfl, rfl, rfl⟩

theorem tickFrame_demandSs1 (s : State) : TickFrame s s.demandSs1 := tickFrame_ite ⟨rfl, rfl, rfl⟩ (.refl s)

theorem tickFrame_safReactions (s : State) (r : Nat) : TickFrame s (s.safReactions r) := by
  unfold State.safReactions
  extract_lets stopped axis0 ax0 axis1 ax1 master
  have hstopped : TickFrame s stopped :=
    tickFrame_ite (faultFrame_enterSafe s false).tick (tickFrame_ite (tickFrame_demandSs1 s) (.refl s))
  have hax0 : TickFrame stopped ax0 := tickFrame_ite ⟨rfl, rfl, rfl⟩ (.refl stopped)
  have hax1 : TickFrame ax0 ax1 := tickFrame_ite ⟨rfl, rfl, rfl⟩ (.refl ax0)
  have hmaster : TickFrame ax1 master := tickFrame_ite (tickFrame_w ax1 GDN_CTRL_MASTER 0) (.refl ax1)
  exact (((hstopped.trans hax0).trans hax1).trans hmaster).trans (tickFrame_w master SAF_OUT_ON _)

theorem tickFrame_setDemand (s : State) (p : Nat) (d : Bool) : TickFrame s (s.setDemand p d) := by
  unfold State.setDemand
  extract_lets was noted
  have hnoted : TickFrame s noted := ⟨rfl, rfl, rfl⟩
  exact tickFrame_ite (.refl s) (hnoted.trans (tickFrame_ite (tickFrame_safReactions noted _) (tickFrame_w noted SAF_OUT_ON _)))

theorem tickFrame_safStamp (s : State) (p stamp : Nat) : TickFrame s (s.safStamp p stamp) := by
  unfold State.safStamp
  refine tickFrame_ite (.refl s) ?_
  split
  · exact tickFrame_setPair s p _
  · exact tickFrame_setPair s p _
  · exact .refl s

theorem tickFrame_safUpdatePlain (s : State) (p : Nat) : TickFrame s (s.safUpdatePlain p) := by
  unfold State.safUpdatePlain
  extract_lets x k cause auto asked noted
  have hasked : TickFrame s asked := tickFrame_ite (tickFrame_w s SAF_STS_RSTREQ _) (.refl s)
  exact (hasked.trans (tickFrame_setPair asked p _)).trans (tickFrame_setDemand noted p _)

theorem tickFrame_setTwoHand (s : State) (g : Nat) (x : TwoHand) : TickFrame s (s.setTwoHand g x) := tickFrame_modSaf s _

theorem tickFrame_safGroup (s : State) (g stamp : Nat) : TickFrame s (s.safGroup g stamp) := by
  unfold State.safGroup
  extract_lets e ha hb bad on x both inTime enabled d
  have henabled : TickFrame s enabled := by
    refine tickFrame_ite (tickFrame_ite (.refl s) ⟨rfl, rfl, rfl⟩) (tickFrame_ite (tickFrame_setTwoHand s g _)
      (tickFrame_ite (tickFrame_ite ?together (tickFrame_ite (tickFrame_setTwoHand s g _) (.refl s))) (.refl s)))
    exact (tickFrame_ite (tickFrame_w s SAF_STS_THEN _) (.refl s)).trans (tickFrame_setTwoHand _ g _)
  exact (henabled.trans (tickFrame_setDemand enabled e d)).trans (tickFrame_setDemand _ (e + 1) d)

theorem tickFrame_safUpdate (s : State) (p stamp : Nat) : TickFrame s (s.safUpdate p stamp) := by
  unfold State.safUpdate
  split
  · exact tickFrame_w s _ _
  · exact (tickFrame_safStamp s p stamp).trans (tickFrame_safGroup _ _ stamp)
  · exact (tickFrame_safStamp s p stamp).trans (tickFrame_safUpdatePlain _ p)

theorem tickFrame_safFire (s : State) (p age stamp : Nat) : TickFrame s (s.safFire p age stamp) := by
  unfold State.safFire
  extract_lets noted seen
  have hseen : TickFrame s seen := ⟨rfl, rfl, rfl⟩
  have hlocked := (tickFrame_w seen SAF_STS_LOCK (bitSet (seen.r SAF_STS_LOCK) p)).trans
    (tickFrame_raise _ Fid.inputDiscrepancy p)
  exact hseen.trans (tickFrame_ite (.refl seen) (hlocked.trans (tickFrame_safUpdate _ p stamp)))

theorem tickFrame_safTickPair (s : State) (p stamp : Nat) : TickFrame s (s.safTickPair p stamp) := by
  unfold State.safTickPair
  extract_lets x cleared forced unlocked y now past taken
  have hunlocked : TickFrame s unlocked := by
    have hcleared : TickFrame s cleared := tickFrame_w s SAF_STS_LOCK _
    refine tickFrame_ite (hcleared.trans (tickFrame_ite ?hand ?plain)) (.refl s)
    case hand => exact (tickFrame_autoClear cleared _ p).trans (tickFrame_safUpdate _ p stamp)
    case plain =>
      exact ((tickFrame_setPair cleared p _).trans (tickFrame_w _ SAF_STS_RSTREQ _)).trans (tickFrame_safUpdate _ p stamp)
  have htaken : TickFrame s taken := hunlocked.trans (tickFrame_setPair unlocked p _)
  refine tickFrame_ite (tickFrame_setPair s p _) (tickFrame_ite (.refl s) (htaken.trans ?fire))
  clear_value now past
  split
  · exact tickFrame_safFire taken p _ stamp
  · exact tickFrame_safFire taken p _ stamp
  · exact tickFrame_safFire taken p _ stamp
  · exact .refl taken

theorem tickFrame_sfbCheck (s : State) (n : Nat) (ok : Bool) : TickFrame s (s.sfbCheck n ok) := by
  unfold State.sfbCheck
  extract_lets fails output counted erred
  have hcounted : TickFrame s counted := tickFrame_setSafOut s n _
  have herred : TickFrame counted erred := ⟨rfl, rfl, rfl⟩
  have hlatched := ((tickFrame_w erred SAF_OUT_LATCHOFF (bitSet (erred.r SAF_OUT_LATCHOFF) n)).trans
    (tickFrame_safOutputs _)).trans (tickFrame_raise _ Fid.outputReadback n)
  exact hcounted.trans (tickFrame_ite (.refl counted) (herred.trans (tickFrame_ite hlatched (.refl erred))))

theorem tickFrame_safTick (s : State) (stamp : Nat) (sfb0 sfb1 : Bool) : TickFrame s (s.safTick stamp sfb0 sfb1) := by
  unfold State.safTick
  extract_lets beaten outputs output0 output1 read
  have hpairs : TickFrame beaten (List.foldl (fun s p => s.safTickPair p stamp) beaten (List.range 5)) :=
    tickFrame_foldl _ (fun s p => tickFrame_safTickPair s p stamp) _ beaten
  have houtputs : TickFrame s outputs := ((tickFrame_modSss s _).trans hpairs).trans (tickFrame_safOutputs _)
  have hread : TickFrame outputs read := (tickFrame_setSafOut outputs 0 _).trans (tickFrame_setSafOut _ 1 _)
  exact ((houtputs.trans hread).trans (tickFrame_sfbCheck read 0 _)).trans (tickFrame_sfbCheck _ 1 _)

/-! DIS, the crossings and the kernel (R124, R67, R462). -/

theorem tickFrame_disElapse (s : State) : TickFrame s s.disElapse := by
  unfold State.disElapse
  split
  · exact tickFrame_ite (tickFrame_w s _ _) (.refl s)
  · exact .refl s

theorem tickFrame_fresh (s : State) (mask : Nat) : TickFrame s (s.fresh mask) := tickFrame_ite (.refl s) (tickFrame_w s _ _)

theorem tickFrame_singlePathMs (s : State) : TickFrame s s.singlePathMs := ⟨rfl, rfl, rfl⟩

theorem tickFrame_journalled (s : State) (role item kind : Nat) (old new : List Byte) :
    TickFrame s (s.journalled role item kind old new) := by
  unfold State.journalled State.journal
  split
  · exact tickFrame_ite (.refl s) (tickFrame_raise s _ _)
  · exact ⟨rfl, rfl, rfl⟩

theorem tickFrame_flushFolds (s : State) (p : Fold → Bool) : TickFrame s (s.flushFolds p) :=
  (tickFrame_modKern s _).trans (tickFrame_foldl _ (fun _ _ => tickFrame_journalled _ _ _ _ _ _) _ _)

theorem tickFrame_sessRegs (s : State) : TickFrame s s.sessRegs :=
  tickFrame_foldl _ (fun s i => by dsimp only; split <;> exact ⟨rfl, rfl, rfl⟩) _ s

theorem tickFrame_lockRegs (s : State) : TickFrame s s.lockRegs := ⟨rfl, rfl, rfl⟩

theorem tickFrame_kernelMs (s : State) : TickFrame s s.kernelMs := by
  unfold State.kernelMs
  extract_lets counted served
  have hcounted : TickFrame s counted := tickFrame_modKern s _
  have hserved : TickFrame counted served :=
    ((tickFrame_flushFolds counted _).trans (tickFrame_lockRegs _)).trans (tickFrame_sessRegs _)
  exact hcounted.trans (tickFrame_ite (hserved.trans (tickFrame_ite ⟨rfl, rfl, rfl⟩ (.refl served))) (.refl counted))

/-! The commands under their conditions. -/

theorem exec_xoLoss (s : State) (h : s.live .sys = true) :
    exec .xoLoss s =
      .next (s.after (((s.clrBit CPM_CLKSTAT_CLKOK 0).modCpm (fun c => { c with sysOnWrc := true })).raise Fid.xoLoss)) :=
  congrArg (fun x => Host.Outcome.next (s.after x)) (s.when_true _ _ h)

theorem exec_pllUnlock_mpll (s : State) (h : s.live .sys = true) :
    exec (.pllUnlock false) s = .next (s.after ((s.clrBit CPM_CLKSTAT_CLKOK 1).raise Fid.mpllUnlock)) :=
  congrArg (fun x => Host.Outcome.next (s.after x)) ((s.when_true _ _ h).trans (if_neg Bool.false_ne_true))

/-- The SPLL's loss of lock takes both ports of the ring DOWN (R283). -/
theorem exec_pllUnlock_spll (s : State) (h : s.live .sys = true) :
    exec (.pllUnlock true) s =
      .next (s.after ((((s.clrBit CPM_CLKSTAT_CLKOK 2).linkTo 0 0).linkTo 1 0).raise Fid.spllUnlock)) :=
  congrArg (fun x => Host.Outcome.next (s.after x)) ((s.when_true _ _ h).trans (if_pos rfl))

theorem exec_pllLock_mpll (s : State) (h : s.live .sys = true) :
    exec (.pllLock false) s = .next (s.after (s.setBit CPM_CLKSTAT_CLKOK 1)) :=
  congrArg (fun x => Host.Outcome.next (s.after x)) ((s.when_true _ _ h).trans (if_neg Bool.false_ne_true))

theorem exec_pllLock_spll (s : State) (h : s.live .sys = true) :
    exec (.pllLock true) s = .next (s.after ((s.setBit CPM_CLKSTAT_CLKOK 2).autoClear Fid.spllUnlock)) :=
  congrArg (fun x => Host.Outcome.next (s.after x)) ((s.when_true _ _ h).trans (if_pos rfl))

theorem exec_clockOutOfRange_wrc (s : State) (h : s.live .sys = true) :
    exec (.clockOutOfRange false) s = .next (s.after ((s.clrBit CPM_CLKSTAT_CLKOK 3).raise Fid.wrcRange)) :=
  congrArg (fun x => Host.Outcome.next (s.after x)) ((s.when_true _ _ h).trans (if_pos rfl))

theorem exec_clockOutOfRange_arc (s : State) (h : s.live .sys = true) (harc : s.cpm.onArc = true) :
    exec (.clockOutOfRange true) s =
      .next (s.after (((s.clrBit CPM_CLKSTAT_CLKOK 4).modCpm (fun c => { c with arcBad := true })).raise Fid.arcRange)) :=
  congrArg (fun x => Host.Outcome.next (s.after x)) ((s.when_true _ _ h).trans (if_pos harc))

theorem exec_arcWithinLimits (s : State) (h : s.cpm.arcBad = true) :
    exec .arcWithinLimits s =
      .next (s.after (((s.setBit CPM_CLKSTAT_CLKOK 4).modCpm (fun c => { c with arcBad := false })).autoClear Fid.arcRange)) :=
  congrArg (fun x => Host.Outcome.next (s.after x)) (s.when_true _ _ h)

/-- The state at a tick before the blocks work: one tick more, with AON's count of it (R60). -/
def State.tickCounted (s : State) (t : Nat) : State :=
  (s.at t).modCpm (fun c => { c with msTick := s.cpm.msTick + 1, aon := tickAon (s.cpm.msTick + 1) })

/-- A tick counts in the CPM; what follows keeps memory and the counts. -/
theorem exec_msTick (t : Nat) (sfb0 sfb1 : Bool) (s : State) :
    ∃ x, exec (.msTick t sfb0 sfb1) s = .next (s.after x) ∧ TickFrame (s.tickCounted t) x := by
  have hexec : exec (.msTick t sfb0 sfb1) s = execMsTick t sfb0 sfb1 s := rfl
  rw [hexec]
  unfold execMsTick
  refine ⟨_, act_after s _, ?_⟩
  extract_lets u k periods counted onArc checked elapsed shown
  have hcounted : counted = s.tickCounted t := rfl
  have honArc : TickFrame counted onArc := tickFrame_ite ⟨rfl, rfl, rfl⟩ (.refl counted)
  have hchecked : TickFrame onArc checked := (tickFrame_sssTick onArc _).trans (tickFrame_safTick _ _ sfb0 sfb1)
  have helapsed : TickFrame checked elapsed := tickFrame_ite (tickFrame_disElapse checked) (.refl checked)
  have hshown : TickFrame elapsed shown := tickFrame_ite (tickFrame_fresh elapsed 0x140) (.refl elapsed)
  have htimed := tickFrame_ite (p := shown.live .sense = true) (tickFrame_singlePathMs shown) (.refl shown)
  rw [← hcounted]
  exact ((((honArc.trans hchecked).trans helapsed).trans hshown).trans htimed).trans (tickFrame_kernelMs _)

/-- AON's count at tick k is floor(k × 32.768) (R60). -/
theorem tickAon_eq (k : Nat) : tickAon k = k * 32768 / 1000 := by
  unfold tickAon
  omega

/-- Settles O10: each command changes its own bit of CLKOK and then goes through the fault path, which leaves CLKOK, memory and the
CPM's clocks alone; the work of a tick leaves memory and the two counts alone. -/
theorem clockEventsAndTheTick : Obligations.ClockEventsAndTheTick := by
  unfold Obligations.ClockEventsAndTheTick
  intro s
  refine ⟨fun hsys => ?xoLoss, fun hsys => ?mpllUnlock, fun hsys => ?spllUnlock, fun hsys => ?mpllLock, fun hsys => ?spllLock,
    fun hsys => ?wrcRange, fun hsys harc => ?arcRange, fun hbad => ?arcWithin, ?arcStarted, fun t sfb0 sfb1 => ?msTick⟩
  case xoLoss =>
    have hframe := faultFrame_raise ((s.clrBit CPM_CLKSTAT_CLKOK 0).modCpm (fun c => { c with sysOnWrc := true })) Fid.xoLoss 0
    exact ⟨_, exec_xoLoss s hsys, (hframe.bit_clkok 0).trans (s.bit_clkok_clrBit 0), hframe.sysOnWrc,
      State.raised_after_raise s _ _ 0 (by decide), hframe.keepsMem_after rfl⟩
  case mpllUnlock =>
    have hframe := faultFrame_raise (s.clrBit CPM_CLKSTAT_CLKOK 1) Fid.mpllUnlock 0
    exact ⟨_, exec_pllUnlock_mpll s hsys, (hframe.bit_clkok 1).trans (s.bit_clkok_clrBit 1),
      State.raised_after_raise s _ _ 0 (by decide)⟩
  case spllUnlock =>
    have hframe := faultFrame_raise (((s.clrBit CPM_CLKSTAT_CLKOK 2).linkTo 0 0).linkTo 1 0) Fid.spllUnlock 0
    refine ⟨_, exec_pllUnlock_spll s hsys, (hframe.bit_clkok 2).trans ?_, State.raised_after_raise s _ _ 0 (by decide)⟩
    rw [State.clkok_linkTo, State.clkok_linkTo]
    exact s.bit_clkok_clrBit 2
  case mpllLock =>
    refine ⟨_, exec_pllLock_mpll s hsys, s.bit_clkok_setBit 1 (by decide), fun f hf => ?_, fun _ => rfl, rfl⟩
    exact s.r_w_other CPM_CLKSTAT_CLKOK f _ (by simpa [eq_comm] using hf)
  case spllLock =>
    have hframe := faultFrame_autoClear (s.setBit CPM_CLKSTAT_CLKOK 2) Fid.spllUnlock 0
    exact ⟨_, exec_pllLock_spll s hsys, (hframe.bit_clkok 2).trans (s.bit_clkok_setBit 2 (by decide)),
      hframe.keepsMem_after rfl⟩
  case wrcRange =>
    have hframe := faultFrame_raise (s.clrBit CPM_CLKSTAT_CLKOK 3) Fid.wrcRange 0
    exact ⟨_, exec_clockOutOfRange_wrc s hsys, (hframe.bit_clkok 3).trans (s.bit_clkok_clrBit 3),
      State.raised_after_raise s _ _ 0 (by decide)⟩
  case arcRange =>
    have hframe := faultFrame_raise ((s.clrBit CPM_CLKSTAT_CLKOK 4).modCpm (fun c => { c with arcBad := true })) Fid.arcRange 0
    exact ⟨_, exec_clockOutOfRange_arc s hsys harc, (hframe.bit_clkok 4).trans (s.bit_clkok_clrBit 4), hframe.arcBad,
      State.raised_after_raise s _ _ 0 (by decide)⟩
  case arcWithin =>
    have hframe := faultFrame_autoClear ((s.setBit CPM_CLKSTAT_CLKOK 4).modCpm (fun c => { c with arcBad := false })) Fid.arcRange 0
    exact ⟨_, exec_arcWithinLimits s hbad, (hframe.bit_clkok 4).trans (s.bit_clkok_setBit 4 (by decide)), hframe.arcBad⟩
  case arcStarted => exact ⟨_, rfl, rfl, fun _ _ => rfl, fun _ => rfl⟩
  case msTick =>
    obtain ⟨x, hx, hframe⟩ := exec_msTick t sfb0 sfb1 s
    refine ⟨_, hx, hframe.msTick, ?_, fun a => x.byte_of_mem s hframe.mem a⟩
    exact hframe.aon.trans (tickAon_eq _)

end Sys2Proof.Machine
end

section
/-!
The statement about a level's swap.
-/
namespace Sys2Proof.Machine

open Reg

/-! The fields behind the keys of the shadow bank (R90). -/

/-- The field found under a key has that key. -/
theorem key_of_fieldOf {k : Nat} {f : Fld} (h : fieldOf k = some f) : f.key = k := by
  simpa using (Option.filter_eq_some_iff.mp h).2

/-- A field's own key is of the level the field is hoisted at. -/
theorem State.keyAt_eq_true {s : State} {l : Level} {f : Fld} (hf : fieldOf f.key = some f) :
    s.keyAt l f.key = true ↔ s.levelOf f = some l := by
  simp [State.keyAt, hf]

/-! Pending writes move to the active bank. -/

theorem State.r_takeShadow_self {f : Fld} (s : State) (v : Word) (hf : fieldOf f.key = some f) (hw : f.width ≤ 32)
    (hr : f.reset < 2 ^ 32) : (s.takeShadow (f.key, v)).r f = v.toNat % 2 ^ f.width := by
  simp only [State.takeShadow, hf]
  exact s.r_w_self f v.toNat hw hr

theorem State.r_takeShadow_other {f : Fld} (s : State) (e : Nat × Word) (h : e.1 ≠ f.key) : (s.takeShadow e).r f = s.r f := by
  unfold State.takeShadow
  split
  next g hg => exact s.r_w_other g f _ (key_of_fieldOf hg ▸ h)
  next => rfl

/-- A move writes registers alone. -/
theorem State.takeShadow_frame (s : State) (e : Nat × Word) : { s.takeShadow e with regs := s.regs } = s := by
  unfold State.takeShadow
  split <;> rfl

/-- The moves of a list of pending writes; of two under one key, the one that stands first is found and stays. -/
def State.takeShadows (s : State) (l : Sparse Word) : State := l.foldr (fun e u => u.takeShadow e) s

theorem State.takeShadows_frame (s : State) (l : Sparse Word) : { s.takeShadows l with regs := s.regs } = s := by
  induction l with
  | nil => rfl
  | cons e l ih =>
    have hlast := (s.takeShadows l).takeShadow_frame e
    exact (congrArg (fun u => { u with regs := s.regs }) hlast).trans ih

theorem State.r_takeShadows_none {f : Fld} (s : State) (l : Sparse Word) (h : sparseFind l f.key = none) :
    (s.takeShadows l).r f = s.r f := by
  induction l with
  | nil => rfl
  | cons e l ih =>
    obtain ⟨k, v⟩ := e
    by_cases hk : k = f.key
    · simp [sparseFind, hk] at h
    · simp only [sparseFind, if_neg hk] at h
      exact ((s.takeShadows l).r_takeShadow_other (k, v) hk).trans (ih h)

theorem State.r_takeShadows_some {f : Fld} {v : Word} (s : State) (l : Sparse Word) (hf : fieldOf f.key = some f)
    (hw : f.width ≤ 32) (hr : f.reset < 2 ^ 32) (h : sparseFind l f.key = some v) :
    (s.takeShadows l).r f = v.toNat % 2 ^ f.width := by
  induction l with
  | nil => simp [sparseFind] at h
  | cons e l ih =>
    obtain ⟨k, x⟩ := e
    by_cases hk : k = f.key
    · simp only [sparseFind, if_pos hk, Option.some.injEq] at h
      subst hk h
      exact (s.takeShadows l).r_takeShadow_self x hf hw hr
    · simp only [sparseFind, if_neg hk] at h
      exact ((s.takeShadows l).r_takeShadow_other (k, x) hk).trans (ih h)

/-! The swap. -/

theorem PerLevel.get_set_self {α : Type} (p : PerLevel α) (l : Level) (x : α) : (p.set l x).get l = x := by
  cases l <;> rfl

/-- The pending writes of a level, and those of the others. -/
def State.shadowAt (s : State) (l : Level) : Sparse Word := s.shadow.filter (fun e => s.keyAt l e.1)
def State.shadowOff (s : State) (l : Level) : Sparse Word := s.shadow.filter (fun e => !s.keyAt l e.1)

theorem State.swapLevel_eq (s : State) (l : Level) :
    s.swapLevel l = (({ s with shadow := s.shadowOff l } : State).takeShadows (s.shadowAt l)).modHoi
      (fun h => { h with count := h.count.set l 0 }) := rfl

theorem State.sparseFind_shadowAt (s : State) (l : Level) (k : Nat) :
    sparseFind (s.shadowAt l) k = if s.keyAt l k then sparseFind s.shadow k else none :=
  sparseFind_filter s.shadow (s.keyAt l) k

/-- What stays pending after a swap. -/
theorem State.sparseFind_shadow_swapLevel (s : State) (l : Level) (k : Nat) :
    sparseFind (s.swapLevel l).shadow k = if s.keyAt l k then none else sparseFind s.shadow k := by
  have hshadow : (s.swapLevel l).shadow = s.shadowOff l :=
    congrArg State.shadow (({ s with shadow := s.shadowOff l } : State).takeShadows_frame (s.shadowAt l))
  rw [hshadow, State.shadowOff, sparseFind_filter s.shadow (fun k => !s.keyAt l k) k]
  cases s.keyAt l k <;> rfl

/-- A field with no pending write of the level keeps its active value. -/
theorem State.r_swapLevel_none {f : Fld} (s : State) (l : Level) (h : sparseFind (s.shadowAt l) f.key = none) :
    (s.swapLevel l).r f = s.r f := by
  rw [s.swapLevel_eq l, State.modHoi_r]
  exact State.r_takeShadows_none _ _ h

/-- A field with a pending write of the level takes it, cut to the field's width. -/
theorem State.r_swapLevel_some {f : Fld} {v : Word} (s : State) (l : Level) (hf : fieldOf f.key = some f) (hw : f.width ≤ 32)
    (hr : f.reset < 2 ^ 32) (h : sparseFind (s.shadowAt l) f.key = some v) : (s.swapLevel l).r f = v.toNat % 2 ^ f.width := by
  rw [s.swapLevel_eq l, State.modHoi_r]
  exact State.r_takeShadows_some _ _ hf hw hr h

/-- A swap touches the register banks and the frame timer alone. -/
theorem State.swapLevel_frame (s : State) (l : Level) :
    { s.swapLevel l with regs := s.regs, shadow := s.shadow, hoi := s.hoi } = s :=
  congrArg (fun u => { u with shadow := s.shadow, hoi := s.hoi })
    (({ s with shadow := s.shadowOff l } : State).takeShadows_frame (s.shadowAt l))

/-- Settles O16: the swap splits the shadow bank by level; a field's pending write is found in the part that moves exactly when the
field is of the level. -/
theorem swapMovesTheLevelsShadowsAlone : Obligations.SwapMovesTheLevelsShadowsAlone := by
  unfold Obligations.SwapMovesTheLevelsShadowsAlone
  intro s l
  refine ⟨fun f hf hw hr hl => ?ofLevel, fun f hf hl => ?other, PerLevel.get_set_self _ l 0, s.swapLevel_frame l⟩
  case ofLevel =>
    have hkey : s.keyAt l f.key = true := (State.keyAt_eq_true hf).mpr hl
    have hmine := s.sparseFind_shadowAt l f.key
    rw [if_pos hkey] at hmine
    refine ⟨?_, (s.sparseFind_shadow_swapLevel l f.key).trans (if_pos hkey)⟩
    cases hpending : sparseFind s.shadow f.key with
    | none => exact s.r_swapLevel_none l (hmine.trans hpending)
    | some v => exact s.r_swapLevel_some l hf hw hr (hmine.trans hpending)
  case other =>
    have hkey : ¬ s.keyAt l f.key = true := mt (State.keyAt_eq_true hf).mp hl
    exact ⟨s.r_swapLevel_none l ((s.sparseFind_shadowAt l f.key).trans (if_neg hkey)),
      (s.sparseFind_shadow_swapLevel l f.key).trans (if_neg hkey)⟩

end Sys2Proof.Machine
end

section
/-!
The statement about the frame timer's count and the levels of a boundary.
-/
namespace Sys2Proof.Machine

open Reg

/-! The levels of the coming boundary (R86, R87, R101). -/

theorem State.comingLevels_stopped (s : State) (h : s.hoi.wakeH = true) : s.comingLevels = allLevels := if_pos h

/-- While the timer runs, T is always due, C at the end of a carrier period, and L, O and H each at the last of the level below. -/
theorem State.mem_comingLevels (s : State) (h : s.hoi.wakeH = false) :
    Level.T ∈ s.comingLevels ∧ (Level.C ∈ s.comingLevels ↔ s.b HOI_POS_HALF = true) ∧
    (Level.L ∈ s.comingLevels ↔ s.b HOI_FRAME_LOOPT = false ∨ s.b HOI_POS_HALF = true) ∧
    (Level.O ∈ s.comingLevels ↔ Level.L ∈ s.comingLevels ∧ s.r HOI_POS_LOOPIDX = s.r HOI_FRAME_OUTN) ∧
    (Level.H ∈ s.comingLevels ↔ Level.O ∈ s.comingLevels ∧ s.r HOI_POS_OUTIDX = s.r HOI_FRAME_RINGN) := by
  simp [State.comingLevels, h]

/-! The count (R86, R89). -/

/-- The time base and HOI_TICKCNT one tick on, before HOI_POS latches. -/
def State.ticked (s : State) : State :=
  (s.modHoi (fun h => { h with
    base := h.base + (if h.wakeH then h.now else s.tickU), now := 0, fine := 0, wakeH := false })).bump HOI_TICKCNT_TICKCNT

/-- What the latching of HOI_POS keeps: HOI_TICKCNT, the time, the held writes, the shadows, memory and the PWM stage. -/
structure PosLatchFrame (s u : State) : Prop where
  tickcnt : u.r HOI_TICKCNT_TICKCNT = s.r HOI_TICKCNT_TICKCNT
  nowU : u.nowU = s.nowU
  late : u.hoi.late = s.hoi.late
  shadow : u.shadow = s.shadow
  mem : u.mem = s.mem
  pwm : u.pwm = s.pwm

theorem PosLatchFrame.refl (s : State) : PosLatchFrame s s := ⟨rfl, rfl, rfl, rfl, rfl, rfl⟩

theorem PosLatchFrame.w {s u : State} (h : PosLatchFrame s u) (f : Fld) (v : Nat)
    (hf : f.key ≠ HOI_TICKCNT_TICKCNT.key := by decide) : PosLatchFrame s (u.w f v) :=
  ⟨(u.r_w_other f HOI_TICKCNT_TICKCNT v hf).trans h.tickcnt, h.nowU, h.late, h.shadow, h.mem, h.pwm⟩

/-- After the count, only HOI_POS latches and an H boundary's ring cycle begins. -/
theorem posLatchFrame_countTick (s : State) (levels : List Level) : PosLatchFrame s.ticked (s.countTick levels) := by
  unfold State.countTick
  extract_lets step moved counted cycled halved
  have hcounted : counted = s.ticked := rfl
  have hcycled : PosLatchFrame s.ticked cycled := ⟨rfl, rfl, rfl, rfl, rfl, rfl⟩
  have hhalved : PosLatchFrame s.ticked halved := (PosLatchFrame.refl s.ticked).w HOI_POS_HALF _
  by_cases hH : levels.contains .H = true
  · rw [if_pos hH]
    exact ((hcycled.w HOI_POS_HALF 0).w HOI_POS_LOOPIDX 0).w HOI_POS_OUTIDX 0
  · rw [if_neg hH]
    by_cases hO : levels.contains .O = true
    · rw [if_pos hO]
      exact (hhalved.w HOI_POS_LOOPIDX 0).w HOI_POS_OUTIDX _
    · rw [if_neg hO]
      by_cases hL : levels.contains .L = true
      · rw [if_pos hL]
        exact hhalved.w HOI_POS_LOOPIDX _
      · rwa [if_neg hL]

theorem State.r_tickcnt_countTick (s : State) (levels : List Level) :
    (s.countTick levels).r HOI_TICKCNT_TICKCNT = (s.r HOI_TICKCNT_TICKCNT + 1) % 2 ^ 32 :=
  (posLatchFrame_countTick s levels).tickcnt.trans (State.r_w_self _ HOI_TICKCNT_TICKCNT _ (by decide) (by decide))

theorem State.nowU_countTick (s : State) (levels : List Level) (h : s.hoi.wakeH = false) :
    (s.countTick levels).nowU = s.hoi.base + s.tickU := by
  rw [(posLatchFrame_countTick s levels).nowU]
  simp [State.nowU, State.ticked, State.bump, h]

/-! Held writes enter the shadow (R92). -/

/-- One held write enters the shadow bank. -/
def State.enterHeld (s : State) (e : HeldWrite) : State :=
  { s with shadow := sparseInsert (sparseErase s.shadow e.key) e.key e.value }

theorem State.foldl_enterHeld_frame (late : List HeldWrite) (s : State) :
    { late.foldl State.enterHeld s with shadow := s.shadow } = s := by
  induction late generalizing s with
  | nil => rfl
  | cons e late ih => exact congrArg (fun u => { u with shadow := s.shadow }) (ih (s.enterHeld e))

/-- The entry of the held writes touches the shadow bank and the frame timer alone. -/
theorem State.enterLate_frame (s : State) : { s.enterLate with shadow := s.shadow, hoi := s.hoi } = s :=
  congrArg (fun u => { u with hoi := s.hoi }) (State.foldl_enterHeld_frame s.hoi.late
    (s.modHoi (fun h => { h with late := [], cut := [], withheld := [], forced := [] })))

theorem State.shadow_enterLate (s : State) (h : s.hoi.late = []) : s.enterLate.shadow = s.shadow := by
  simp [State.enterLate, h]

/-- A ring member's NAP: the timer counts, nothing is swapped, and held writes enter the shadow (R101). -/
theorem State.napTick_frame (s : State) (levels : List Level) :
    (s.countTick levels).enterLate.r HOI_TICKCNT_TICKCNT = (s.r HOI_TICKCNT_TICKCNT + 1) % 2 ^ 32 ∧
    (s.hoi.late = [] → (s.countTick levels).enterLate.shadow = s.shadow) ∧
    (s.countTick levels).enterLate.mem = s.mem ∧ (s.countTick levels).enterLate.pwm = s.pwm := by
  have hcount := posLatchFrame_countTick s levels
  have hframe := (s.countTick levels).enterLate_frame
  refine ⟨?_, fun hlate => ?_, ?_, ?_⟩
  · exact (congrArg (State.r · HOI_TICKCNT_TICKCNT) hframe).trans (s.r_tickcnt_countTick levels)
  · exact ((s.countTick levels).shadow_enterLate (hcount.late.trans hlate)).trans hcount.shadow
  · exact (congrArg State.mem hframe).trans hcount.mem
  · exact (congrArg State.pwm hframe).trans hcount.pwm

/-! A level at its boundary (R91, R97). -/

/-- A level past its cut-off is not cut again. -/
theorem State.cutLevel_of_cut (s : State) (l : Level) (h : l ∈ s.hoi.cut) : s.cutLevel l = s :=
  if_pos (List.contains_iff_mem.mpr h)

theorem State.levelBoundary_withheld (s : State) (l : Level) (hcut : l ∈ s.hoi.cut) (hwith : l ∈ s.hoi.withheld) :
    s.levelBoundary l = s.modHoi (fun h => { h with count := h.count.set l (h.count.get l + 1) }) := by
  simp [State.levelBoundary, s.cutLevel_of_cut l hcut, hwith]

theorem State.levelBoundary_swaps (s : State) (l : Level) (hcut : l ∈ s.hoi.cut) (hwith : l ∉ s.hoi.withheld)
    (hforce : s.forceDue l = false) : s.levelBoundary l = s.swapLevel l := by
  simp [State.levelBoundary, s.cutLevel_of_cut l hcut, hwith, hforce]

/-! The command. -/

theorem exec_boundary_runs (vd s4 s5 : Stream) (mw : Nat) (s : State)
    (h : (s.live .sys && (s.cpm.dev == .run || s.cpm.dev == .idle)) = true) :
    exec (.boundary vd s4 s5 mw) s =
      .next (s.after ((s.countTick s.comingLevels).runBoundary s s.comingLevels [vd, s4, s5] mw)) :=
  congrArg (fun x => Host.Outcome.next (s.after x)) (if_pos h)

theorem exec_boundary_nap (vd s4 s5 : Stream) (mw : Nat) (s : State) (hdev : s.cpm.dev = .nap) (hring : s.ringMember = true) :
    exec (.boundary vd s4 s5 mw) s =
      .next (s.after ((s.countTick s.comingLevels).enterLate.modHoi (fun h => { h with napped := true }))) :=
  congrArg (fun x => Host.Outcome.next (s.after x)) ((if_neg (by simp [hdev])).trans (if_pos (by simp [hdev, hring])))

theorem exec_boundary_rests (vd s4 s5 : Stream) (mw : Nat) (s : State) (hsys : s.live .sys = false) (hdev : s.cpm.dev ≠ .nap) :
    exec (.boundary vd s4 s5 mw) s = .next (s.after s) :=
  congrArg (fun x => Host.Outcome.next (s.after x)) ((if_neg (by simp [hsys])).trans (if_neg (by simp [hdev])))

/-- Settles O17, by the command's three cases, the frame of the count, the levels that HOI_FRAME gives, and a level's two ways
through its boundary. -/
theorem boundaryCountsAndSwaps : Obligations.BoundaryCountsAndSwaps := by
  unfold Obligations.BoundaryCountsAndSwaps
  intro s
  refine ⟨fun vd s4 s5 mw hsys hdev => ?runs, fun vd s4 s5 mw hdev hring => ?naps,
    fun vd s4 s5 mw hsys hdev => exec_boundary_rests vd s4 s5 mw s hsys hdev, s.r_tickcnt_countTick, s.nowU_countTick,
    s.comingLevels_stopped, fun hrun => ?levels, fun l hcut hwith => ?withheld, s.levelBoundary_swaps⟩
  case runs => exact exec_boundary_runs vd s4 s5 mw s (by simpa [hsys] using hdev)
  case naps =>
    obtain ⟨hcount, hshadow, hmem, hpwm⟩ := s.napTick_frame s.comingLevels
    exact ⟨_, exec_boundary_nap vd s4 s5 mw s hdev hring, hcount, hshadow, State.byte_of_mem _ s hmem, hpwm⟩
  case levels =>
    obtain ⟨hT, hC, -, hO, hH⟩ := s.mem_comingLevels hrun
    exact ⟨hC, hT, fun h => (hO.mp h).1, fun h => (hH.mp h).1⟩
  case withheld =>
    rw [s.levelBoundary_withheld l hcut hwith]
    exact ⟨PerLevel.get_set_self _ l _, fun _ _ => rfl, rfl⟩

end Sys2Proof.Machine
end

section
/-!
The statement about open sets, cut-offs and the frame's own register.
-/
namespace Sys2Proof.Machine

open Reg

/-! The kernel's write of DERATE at O's cut-off (R217, R356). -/

/-- A write of an RWS field whose level is past its cut-off sets LATE (R92). -/
theorem State.r_late_rws (s : State) (f : Fld) (v : Nat) (l : Level) (hl : s.levelOf f = some l) (hcut : l ∈ s.hoi.cut) :
    (s.rws f v).r HOI_STS_LATE = 1 := by
  simp only [State.rws, hl, List.contains_iff_mem.mpr hcut, if_true]
  exact s.r_w_self HOI_STS_LATE 1 (by decide) (by decide)

theorem State.hoi_noteLag (s : State) (n : Nat) : (s.noteLag n).hoi = s.hoi := by
  unfold State.noteLag
  extract_lets noted
  split <;> rfl

/-- The note of a pair's separation writes CMP_LAG alone (R366). -/
theorem State.r_noteLag (s : State) (n : Nat) (f : Fld) (hlast : CMP_LAG_LAST.key ≠ f.key) (hmax : CMP_LAG_MAX.key ≠ f.key) :
    (s.noteLag n).r f = s.r f := by
  unfold State.noteLag
  extract_lets noted
  have hnoted : noted.r f = s.r f := s.r_w_other CMP_LAG_LAST f _ hlast
  split
  · exact (noted.r_w_other CMP_LAG_MAX f _ hmax).trans hnoted
  · exact hnoted

theorem State.hoi_kernelWrote (s : State) : s.kernelWrote.hoi = s.hoi := s.freeNat.2.hoi_noteLag (s.freeNat.1 % 2001)

/-- A guarded write that passes writes CMP's counters alone. -/
theorem State.r_kernelWrote (s : State) (f : Fld) (hlast : CMP_LAG_LAST.key ≠ f.key) (hmax : CMP_LAG_MAX.key ≠ f.key)
    (hcount : CMP_CNT_GPASS.key ≠ f.key) : s.kernelWrote.r f = s.r f :=
  (State.r_w_other _ CMP_CNT_GPASS f _ hcount).trans (s.freeNat.2.r_noteLag (s.freeNat.1 % 2001) f hlast hmax)

/-- SP7 is hoisted at the level that SPLV7 gives, before and after the pair is counted. -/
theorem State.levelOf_sp7_kernelWrote (s : State) : s.kernelWrote.levelOf (spFld 7 5) = s.levelOf (spFld 7 5) :=
  congrArg (fun v => some (levelOfCode (v / 8 ^ 7 % 8))) (s.r_kernelWrote CLE_SPCFG_SPLV (by decide) (by decide) (by decide))

/-- The kernel's write of DERATE is late when SP7's level is past its cut-off. -/
theorem State.r_late_derateKernel (s : State) (l : Level)
    (hcores : (s.live .cm && s.live .ck && s.r DBG_STS_STATE != 3) = true) (hpass : s.kernelPasses = true)
    (hl : s.levelOf (spFld 7 5) = some l) (hcut : l ∈ s.hoi.cut) : s.derateKernel.r HOI_STS_LATE = 1 := by
  simp only [State.derateKernel, State.kernelGsw, hcores, hpass, if_true]
  exact s.kernelWrote.r_late_rws _ _ l (s.levelOf_sp7_kernelWrote.trans hl) (s.hoi_kernelWrote ▸ hcut)

theorem State.r_cutLevel (s : State) (l : Level) (f : Fld) : (s.cutLevel l).r f = s.r f := by
  unfold State.cutLevel
  split <;> rfl

theorem exec_cutOff (l : Level) (s : State) (h : (s.live .sys && s.comingLevels.contains l) = true) :
    exec (.cutOff l) s = .next (s.after ((s.beforeCut l).cutLevel l)) :=
  congrArg (fun x => Host.Outcome.next (s.after x)) (s.when_true _ _ h)

/-- A running device 400 ns before an H boundary, with SPLV7 = 4 so that SP7 is hoisted at H, and the cut-off of H taken before that
of O at the same instant (R92, R203). -/
def ringCutFirst : State :=
  let up := (({ cpm := { phase := .running, inReset := 0 }, hoi := { cut := [.H] } } : State).w CPM_STATE_DOMON 0x1FF)
  ((up.w HOI_POS_LOOPIDX 9).w HOI_POS_OUTIDX 1).w CLE_SPCFG_SPLV (4 * 8 ^ 7)

/-- Refutes O18 in its clause on CUT_OFF at O: the kernel's guarded write of DERATE is a write of an RWS field like any other. With
SP7 hoisted at a level that is past its own cut-off, the write is held and sets HOI_STS.LATE (R92), which the clause does not count
among the active values that may change. -/
theorem not_openCommitCutOffAndForcedCommit : ¬ Obligations.OpenCommitCutOffAndForcedCommit := by
  unfold Obligations.OpenCommitCutOffAndForcedCommit
  intro h
  obtain ⟨-, -, -, cutOff, -⟩ := h ringCutFirst (by decide +kernel)
  obtain ⟨u, hu, -, regs, -⟩ := cutOff .O (by decide +kernel) (by decide) (by decide)
  have hcut := exec_cutOff .O ringCutFirst (by decide +kernel)
  obtain rfl := Host.Outcome.next.inj (hcut.symm.trans hu)
  have kept := regs HOI_STS_LATE (by decide)
  have before : ringCutFirst.r HOI_STS_LATE = 0 := by decide +kernel
  have late : ((ringCutFirst.beforeCut .O).cutLevel .O).r HOI_STS_LATE = 1 :=
    (State.r_cutLevel _ .O HOI_STS_LATE).trans
      (ringCutFirst.r_late_derateKernel .H (by decide +kernel) (by decide +kernel) (by decide +kernel) (by decide))
  rw [before] at kept
  exact absurd (late.symm.trans kept) (by decide)

end Sys2Proof.Machine
end

section
/-!
The statements about the PWM stage's dead times, its edges, and the feedback of its switch nodes.
-/
namespace Sys2Proof.Machine

open Reg

/-! A leg of the stage. -/

@[simp] theorem State.leg_setLeg (s : State) (n : Nat) (l : Leg) : (s.setLeg n l).leg n = l := by
  unfold State.leg State.setLeg
  split
  · rfl
  · split <;> rfl

@[simp] theorem State.leg_w (s : State) (f : Fld) (v n : Nat) : (s.w f v).leg n = s.leg n := rfl
@[simp] theorem State.leg_atF (s : State) (t n : Nat) : (s.atF t).leg n = s.leg n := rfl
@[simp] theorem State.leg_after (s x : State) (n : Nat) : (s.after x).leg n = x.leg n := rfl
@[simp] theorem State.r_setLeg (s : State) (n : Nat) (l : Leg) (f : Fld) : (s.setLeg n l).r f = s.r f := rfl

/-- Setting a bit of a field leaves every field of another key. -/
theorem State.r_setBit_other (s : State) (k j : Fld) (b : Nat) (h : k.key ≠ j.key) : (s.setBit k b).r j = s.r j :=
  s.r_w_other k j _ h

/-- A command whose effect leaves memory leaves every byte. -/
theorem State.keepsMem_after {s x : State} (h : x.mem = s.mem) : s.keepsMem (s.after x) := x.byte_of_mem s h

/-! Clearing a fault does not reach the stage (R411). -/

/-- What the clearing of a fault writes: its record's loss, and its event at FLT and HSP (R415 to R417). -/
def clearFlds : List Fld := [FLT_STS_JLOST, FLT_IRQ_EVT, HSP_IRQ_EVT]

/-- What the clearing of a fault keeps beside the frame of the fault path. -/
structure ClearFrame (s u : State) : Prop where
  regs : ∀ f : Fld, f.key ∉ clearFlds.map Fld.key → u.r f = s.r f
  pwm : u.pwm = s.pwm

theorem ClearFrame.refl (s : State) : ClearFrame s s := ⟨fun _ _ => rfl, rfl⟩

theorem ClearFrame.trans {s u v : State} (h : ClearFrame s u) (g : ClearFrame u v) : ClearFrame s v :=
  ⟨fun f hf => (g.regs f hf).trans (h.regs f hf), g.pwm.trans h.pwm⟩

theorem clearFrame_w (s : State) (k : Fld) (v : Nat) (hk : k.key ∈ clearFlds.map Fld.key) : ClearFrame s (s.w k v) :=
  ⟨fun f hf => s.r_w_other k f v (fun e => hf (e ▸ hk)), rfl⟩

theorem clearFrame_flt (s : State) (x : Flt) : ClearFrame s { s with flt := x } := ⟨fun _ _ => rfl, rfl⟩

theorem clearFrame_fltEvent (s : State) (k : Nat) : ClearFrame s (s.fltEvent k) := by
  unfold State.fltEvent
  have hirq : ClearFrame s (s.setBit FLT_IRQ_EVT k) := clearFrame_w s _ _ (by decide)
  simp only
  split
  · exact hirq.trans (clearFrame_w _ _ _ (by decide))
  · exact hirq

theorem clearFrame_record (s : State) (x : FaultRecord) : ClearFrame s (s.record x) := by
  unfold State.record
  split
  · exact clearFrame_flt s _
  · exact (clearFrame_w s FLT_STS_JLOST 1 (by decide)).trans (clearFrame_fltEvent _ 6)

theorem clearFrame_autoClear (s : State) (id d : Nat) : ClearFrame s (s.autoClear id d) := by
  unfold State.autoClear State.dropFault
  split
  · exact .refl s
  · simp only
    split
    · exact ((clearFrame_flt s _).trans (clearFrame_record _ _)).trans (clearFrame_fltEvent _ 4)
    · exact clearFrame_flt s _

/-! Dead times (R106, R107). -/

/-- With the settings the wrong way round the shorter bound acts. -/
theorem State.deadUse_inverted {s : State} (n : Nat) (high : Bool) (g : Int) (h : s.r PWM_DTMAX_DTMAX < s.r PWM_DTMIN_DTMIN) :
    s.deadUse n high g = s.r PWM_DTMIN_DTMIN := if_pos h

section
variable {s : State} (hle : s.r PWM_DTMIN_DTMIN ≤ s.r PWM_DTMAX_DTMAX)
include hle

/-- Without adaptation, or with a current of no sign, the dead time is the longest. -/
theorem State.deadUse_fixed (n : Nat) (high : Bool) (g : Int) (h : s.b PWM_CTRL_ADAPT = false ∨ g = 0) :
    s.deadUse n high g = s.r PWM_DTMAX_DTMAX := by
  have hfixed : (!s.b PWM_CTRL_ADAPT || !s.b PWM_SNCFG_SNEN || g == 0) = true := by
    rcases h with h | h <;> simp [h]
  simp only [State.deadUse, if_neg (Nat.not_lt.mpr hle), hfixed, if_true]

/-- Under adaptation an edge that its current does not commutate takes the shortest dead time. -/
theorem State.deadUse_forced (n : Nat) (high : Bool) (g : Int) (hadapt : s.b PWM_CTRL_ADAPT = true)
    (hsense : s.b PWM_SNCFG_SNEN = true) (hg : g ≠ 0) (hself : selfCommutated high g = false) :
    s.deadUse n high g = s.r PWM_DTMIN_DTMIN := by
  simp [State.deadUse, Nat.not_lt.mpr hle, hadapt, hsense, hg, hself]

/-- Every dead time is one of the two settings or an adapted value of the leg. -/
theorem State.deadUse_cases (n : Nat) (high : Bool) (g : Int) :
    s.deadUse n high g ∈ [s.r PWM_DTMIN_DTMIN, s.r PWM_DTMAX_DTMAX, s.r (PWM_DTA_HLP n), s.r (PWM_DTA_LHN n)] := by
  simp only [State.deadUse, if_neg (Nat.not_lt.mpr hle)]
  split
  · simp
  · split
    · simp
    · split
      · simp
      · cases high <;> simp

/-- A value clamped between DTMIN and DTMAX. -/
theorem State.clampI_dead (x : Int) :
    s.r PWM_DTMIN_DTMIN ≤ (clampI x (s.r PWM_DTMIN_DTMIN) (s.r PWM_DTMAX_DTMAX)).toNat ∧
      (clampI x (s.r PWM_DTMIN_DTMIN) (s.r PWM_DTMAX_DTMAX)).toNat ≤ s.r PWM_DTMAX_DTMAX := by
  unfold clampI
  split
  · omega
  · split <;> omega

end

@[simp] theorem State.r_dtaHlp_w (s : State) (n v : Nat) (h : v < 65536) : (s.w (PWM_DTA_HLP n) v).r (PWM_DTA_HLP n) = v :=
  (s.r_w_self _ v (by change 16 ≤ 32; decide) (by change 9600 < 2 ^ 32; decide)).trans (Nat.mod_eq_of_lt h)

@[simp] theorem State.r_dtaLhn_w (s : State) (n v : Nat) (h : v < 65536) : (s.w (PWM_DTA_LHN n) v).r (PWM_DTA_LHN n) = v :=
  (s.r_w_self _ v (by change 16 ≤ 32; decide) (by change 9600 < 2 ^ 32; decide)).trans (Nat.mod_eq_of_lt h)

/-- The machine at a crossing before the measured time is written: the watch and its misses have ended (R107). -/
def State.snSeen (s : State) (n : Nat) : State :=
  (s.setLeg n { s.leg n with watch := none, miss := 0, fbLost := false }).autoClear Fid.snLost n

theorem State.clearFrame_snSeen (s : State) (n : Nat) : ClearFrame (s.setLeg n { s.leg n with watch := none, miss := 0, fbLost := false })
    (s.snSeen n) := clearFrame_autoClear _ _ _

/-- The dead time that a crossing at the present instant asks for: its time after the turn-off, less SNCOMP, with DTMARG (R107). -/
def State.snMeasured (s : State) (w : SnWatch) : Int :=
  (s.nowF : Int) - w.tOff - s.ri PWM_DTMARG_SNCOMP + s.r PWM_DTMARG_DTMARG

/-- A crossing of a self-commutated edge writes the edge's adapted value, clamped between the settings; any other writes none. -/
theorem State.snCrossed_eq (s : State) (n : Nat) (w : SnWatch) : s.snCrossed n w =
    if selfCommutated w.high w.sign then
      (s.snSeen n).w (if w.high then PWM_DTA_LHN n else PWM_DTA_HLP n)
        (clampI ((s.snSeen n).snMeasured w) (s.r PWM_DTMIN_DTMIN) (s.r PWM_DTMAX_DTMAX)).toNat
    else s.snSeen n := by
  have hmin : (s.snSeen n).r PWM_DTMIN_DTMIN = s.r PWM_DTMIN_DTMIN := (s.clearFrame_snSeen n).regs _ (by decide)
  have hmax : (s.snSeen n).r PWM_DTMAX_DTMAX = s.r PWM_DTMAX_DTMAX := (s.clearFrame_snSeen n).regs _ (by decide)
  rw [← hmin, ← hmax]
  unfold State.snCrossed
  split
  · cases w.high <;> rfl
  · rfl

/-- Settles O19: a dead time is one of the settings or an adapted value, and a crossing writes its measured time clamped between
the settings. -/
theorem deadTimeStaysWithinItsSettings : Obligations.DeadTimeStaysWithinItsSettings := by
  unfold Obligations.DeadTimeStaysWithinItsSettings
  intro s n high g
  refine ⟨fun hle h1 h2 h3 h4 => ?within, s.deadUse_inverted n high g, fun hle => s.deadUse_fixed hle n high g,
    fun hle => s.deadUse_forced hle n high g, fun w _ hmax hle hself hhigh => ?crossed⟩
  case within =>
    have hcases := s.deadUse_cases hle n high g
    simp only [List.mem_cons, List.not_mem_nil, or_false] at hcases
    omega
  case crossed =>
    have hclamp := s.clampI_dead hle ((s.snSeen n).snMeasured w)
    rw [s.snCrossed_eq, if_pos hself, if_pos hhigh, State.r_dtaLhn_w _ _ _ (by omega)]
    exact hclamp

end Sys2Proof.Machine
end

section
/-!
The statement about the PWM stage's edges.
-/
namespace Sys2Proof.Machine

open Reg

/-- A command whose effect leaves the registers keeps every field. -/
theorem State.keepsRegs_after {s x : State} (h : x.regs = s.regs) (l : List Fld) : s.keepsRegs (s.after x) l :=
  fun f _ => by rw [State.after_r, State.r, h]; rfl

/-! The commands under their conditions. -/

theorem exec_pwmRun (who : Agent) (v : Bool) (s : State) (h : (s.pwmLive && s.mayWrite who PWM_CTRL_RUN) = true) :
    exec (.pwmRun who v) s = .next (s.after (s.wb PWM_CTRL_RUN v)) :=
  congrArg (fun x => Host.Outcome.next (s.after x)) (s.when_true _ _ h)

section
variable {s : State} (hlive : s.pwmLive = true)
include hlive

/-- In START, once the precharge has ended, every leg turns off (R112). -/
theorem exec_pwmEdge_start (t : Nat) (n : Fin 3) {e : Nat} (hstage : s.stageState = .start) (hpre : s.pwm.precharge = some e)
    (hdue : e ≤ (s.atF t).nowF) : exec (.pwmEdge t n) s = .next (s.after (s.atF t).legsOff) := by
  have hstage' : (s.atF t).stageState = .start := hstage
  have hpre' : (s.atF t).pwm.precharge = some e := hpre
  refine congrArg (fun x => Host.Outcome.next (s.after x)) (((s.atF t).when_true _ _ hlive).trans ?_)
  simp only [hstage', hpre', if_pos hdue]

/-- In RUN, with no refresh planned, the leg takes the next edge of its plan (R107). -/
theorem exec_pwmEdge_run (t : Nat) (n : Fin 3) (hstage : s.stageState = .run) (hrefresh : (s.leg n.val).refresh = []) :
    exec (.pwmEdge t n) s = .next (s.after ((s.atF t).planStep n.val)) := by
  have hstage' : (s.atF t).stageState = .run := hstage
  have hstep : (s.atF t).refreshStep n.val = (s.atF t, false) := by
    simp only [State.refreshStep, State.leg_atF, hrefresh]
  refine congrArg (fun x => Host.Outcome.next (s.after x)) (((s.atF t).when_true _ _ hlive).trans ?_)
  simp only [hstage', hstep, Bool.false_eq_true, if_false]

/-- A complement that is due turns on (R107). -/
theorem exec_complementTurnOn (t : Nat) (n : Fin 3) {high : Bool} {due : Nat} (hstage : s.stageState = .run)
    (hon : (s.leg n.val).turnOn = some (high, due)) (hdue : due ≤ (s.atF t).nowF) :
    exec (.complementTurnOn t n) s = .next (s.after
      ((s.atF t).setLeg n.val { s.leg n.val with turnOn := none, on := if high then .high else .low })) := by
  have hcond : (s.pwmLive && s.stageState == .run) = true := by simp [hlive, hstage]
  refine congrArg (fun x => Host.Outcome.next (s.after x)) (((s.atF t).when_true _ _ hcond).trans ?_)
  simp only [State.leg_atF, hon, if_pos hdue]

end

/-! Edges (R107, R109). -/

/-- The earliest instant of an edge planned for `tc`: the dead time of the opening edge and MINP after it (R109). -/
def State.edgeAt (s : State) (n tc : Nat) : Nat := max tc ((s.leg n).openAt + (s.leg n).openDead + s.r PWM_MINP_MINP)

/-- An edge of the plan that is due, with no refresh and for a change of the leg's state, is performed. -/
theorem State.planStep_due {s : State} (n : Nat) {tc : Nat} {high : Bool} {rest : List (Nat × Bool)}
    (hrefresh : (s.leg n).refresh = []) (hplan : (s.leg n).plan = (tc, high) :: rest) (hact : (s.leg n).actual ≠ some high)
    (hdue : s.edgeAt n tc ≤ s.nowF) :
    s.planStep n = (s.setLeg n { s.leg n with plan := rest, cmd := high }).doEdge n high (s.edgeAt n tc) tc := by
  have hidle : ((s.leg n).refreshing || (s.leg n).actual == some high) = false := by
    simp [Leg.refreshing, hrefresh, hact]
  have hleg : { s.leg n with plan := rest, cmd := high, refresh := if high then (s.leg n).refresh else [] }
      = { s.leg n with plan := rest, cmd := high } := by
    simp [hrefresh]
  unfold State.edgeAt at hdue ⊢
  simp only [State.planStep, hplan, hidle, Bool.false_eq_true, if_false, if_pos hdue, hleg]

/-- The width of a pulse that an edge at `te` opens, were it symmetric about the carrier's next centre or valley (R109). -/
def State.pulseWidth (s : State) (high : Bool) (te : Nat) : Nat :=
  let centre := if (s.r HOI_POS_HALF == 0) == high then s.tickStartF + s.tickF else s.tickStartF
  if te < centre then 2 * (centre - te) else 0

/-- An edge whose pulse is long enough turns the leg off and puts the complement down for the end of the dead time (R107). -/
theorem State.doEdge_opens {s : State} (n : Nat) (high : Bool) (te tc : Nat)
    (h : s.deadUse n high (s.isign n) + s.r PWM_MINP_MINP ≤ s.pulseWidth high te) :
    ∃ l : Leg, s.doEdge n high te tc = s.setLeg n l ∧ l.on = .off ∧
      l.turnOn = some (high, te + s.deadUse n high (s.isign n)) :=
  ⟨_, if_neg (Nat.not_lt.mpr h), rfl, rfl⟩

/-- An edge whose pulse is too short is absorbed (R109). -/
theorem State.doEdge_absorbed {s : State} (n : Nat) (high : Bool) (te tc : Nat)
    (h : s.pulseWidth high te < s.deadUse n high (s.isign n) + s.r PWM_MINP_MINP) :
    s.doEdge n high te tc = s.absorb n high (s.pulseWidth high te) := if_pos h

/-- An absorbed pulse keeps the leg's output. -/
theorem State.on_absorb (s : State) (n : Nat) (high : Bool) (w : Nat) : ((s.absorb n high w).leg n).on = (s.leg n).on := by
  unfold State.absorb State.pwmIrq State.setBit
  simp only [State.leg_w, apply_ite (fun x : State => x.leg n), State.leg_setLeg, ite_self]

/-- An absorbed pulse sets the leg's ABS bit. -/
theorem State.abs_absorb (s : State) (n : Fin 3) (high : Bool) (w : Nat) :
    bit ((s.absorb n.val high w).r PWM_STS_ABS) n.val = true := by
  unfold State.absorb State.pwmIrq
  simp only
  rw [State.r_setBit_other _ PWM_IRQ_EVT PWM_STS_ABS _ (by decide)]
  exact State.bit_setBit_self _ PWM_STS_ABS n.val (by decide) (by decide) n.isLt

/-- Settles O20: each command's effect under its conditions, with the edge's two cases by the width of its pulse. -/
theorem stageEdgesTurnOffBeforeTheyTurnOn : Obligations.StageEdgesTurnOffBeforeTheyTurnOn := by
  unfold Obligations.StageEdgesTurnOffBeforeTheyTurnOn
  intro s hlive
  refine ⟨fun who v hmay => ?run, fun t n e hstage hpre hdue => ?start, fun t n tc high rest hstage hrefresh hplan hact hdue => ?edge,
    fun n high te tc => ⟨fun hlong => ?opens, fun hshort => ?absorbed⟩, fun t n high due hstage hon hdue => ?complement⟩
  case run => exact ⟨_, exec_pwmRun who v s (by simp [hlive, hmay]), rfl⟩
  case start =>
    exact ⟨_, exec_pwmEdge_start hlive t n hstage hpre hdue, rfl, rfl, rfl, rfl, State.keepsRegs_after rfl [],
      State.keepsMem_after rfl⟩
  case edge =>
    refine ⟨_, exec_pwmEdge_run hlive t n hstage hrefresh, ?_⟩
    exact congrArg s.after (State.planStep_due (s := s.atF t) n.val hrefresh hplan hact hdue)
  case opens =>
    obtain ⟨l, hedge, hoff, hturn⟩ := State.doEdge_opens n.val high te tc hlong
    rw [hedge, State.leg_setLeg]
    exact ⟨hoff, hturn, fun _ _ => rfl⟩
  case absorbed =>
    rw [State.doEdge_absorbed n.val high te tc hshort]
    exact ⟨s.on_absorb n.val high _, s.abs_absorb n high _⟩
  case complement =>
    refine ⟨_, exec_complementTurnOn hlive t n hstage hon hdue, ?_, ?_, State.keepsRegs_after rfl [], State.keepsMem_after rfl⟩
    · rw [State.leg_after, State.leg_setLeg]
    · rw [State.leg_after, State.leg_setLeg]

end Sys2Proof.Machine
end

section
/-!
The statement about the switch nodes' feedback and the readback of the gate drive.
-/
namespace Sys2Proof.Machine

open Reg

/-! Crossings (R107). -/

theorem State.leg_of_pwm {s u : State} (h : u.pwm = s.pwm) (n : Nat) : u.leg n = s.leg n := by
  unfold State.leg
  rw [h]

/-- A crossing ends the leg's watch and its misses. -/
theorem State.leg_snCrossed (s : State) (n : Nat) (w : SnWatch) :
    (s.snCrossed n w).leg n = { s.leg n with watch := none, miss := 0, fbLost := false } := by
  have hseen := (State.leg_of_pwm (s.clearFrame_snSeen n).pwm n).trans (s.leg_setLeg n _)
  rw [s.snCrossed_eq, apply_ite (fun x : State => x.leg n), State.leg_w, hseen, ite_self]

theorem State.mem_snCrossed (s : State) (n : Nat) (w : SnWatch) : (s.snCrossed n w).mem = s.mem := by
  have hseen : (s.snSeen n).mem = s.mem := (faultFrame_autoClear _ _ _).mem
  rw [s.snCrossed_eq, apply_ite State.mem, State.w_mem, hseen, ite_self]

/-! Missed crossings (R107). -/

/-- A miss with its adapted values, its bits and its count, before the fault that it may raise. -/
def State.missNoted (s : State) (n : Nat) : State :=
  let lost := decide ((s.leg n).miss + 1 = max 1 (s.r PWM_SNCFG_MISSN))
  (((s.setDta n (s.r PWM_DTMAX_DTMAX)).setBit PWM_STS_SNMISS n).pwmIrq 0).setLeg n
    { s.leg n with watch := none, miss := (s.leg n).miss + 1, fbLost := (s.leg n).fbLost || lost }

/-- A missed crossing is noted, and at the configured count of misses raises its fault. -/
theorem State.snMissed_eq (s : State) (n : Nat) : s.snMissed n =
    if (s.leg n).miss + 1 = max 1 (s.r PWM_SNCFG_MISSN) then (s.missNoted n).raise Fid.snLost n else s.missNoted n := by
  have hmissn : (((s.setDta n (s.r PWM_DTMAX_DTMAX)).setBit PWM_STS_SNMISS n).pwmIrq 0).r PWM_SNCFG_MISSN
      = s.r PWM_SNCFG_MISSN := by
    have hhlp : (PWM_DTA_HLP n).key ≠ PWM_SNCFG_MISSN.key := by simp only [Fld.key, PWM_DTA_HLP, PWM_SNCFG_MISSN]; omega
    have hlhn : (PWM_DTA_LHN n).key ≠ PWM_SNCFG_MISSN.key := by simp only [Fld.key, PWM_DTA_LHN, PWM_SNCFG_MISSN]; omega
    rw [State.pwmIrq, State.r_setBit_other _ _ _ _ (by decide), State.r_setBit_other _ _ _ _ (by decide), State.setDta,
      State.r_w_other _ _ _ _ hlhn, State.r_w_other _ _ _ _ hhlp]
  unfold State.snMissed State.missNoted
  simp only [hmissn, decide_eq_true_eq]

theorem State.faultFrame_snMissed (s : State) (n : Nat) : FaultFrame (s.missNoted n) (s.snMissed n) := by
  rw [s.snMissed_eq]
  exact faultFrame_ite (faultFrame_raise _ _ _) (.refl _)

/-- A miss sets both adapted values of the leg to DTMAX. -/
theorem State.dta_snMissed (s : State) (n : Fin 3) (h : s.r PWM_DTMAX_DTMAX < 65536) :
    (s.snMissed n.val).r (PWM_DTA_HLP n.val) = s.r PWM_DTMAX_DTMAX ∧
      (s.snMissed n.val).r (PWM_DTA_LHN n.val) = s.r PWM_DTMAX_DTMAX := by
  have hkeys : ∀ n : Fin 3, ((PWM_DTA_HLP n.val).key ∉ faultFlds.map Fld.key ∧ (PWM_DTA_LHN n.val).key ∉ faultFlds.map Fld.key) ∧
      ∀ f ∈ [PWM_STS_SNMISS, PWM_IRQ_EVT], f.key ≠ (PWM_DTA_HLP n.val).key ∧ f.key ≠ (PWM_DTA_LHN n.val).key := by decide
  have hpair : (PWM_DTA_LHN n.val).key ≠ (PWM_DTA_HLP n.val).key := by simp only [Fld.key, PWM_DTA_HLP, PWM_DTA_LHN]; omega
  obtain ⟨⟨hhlp, hlhn⟩, hother⟩ := hkeys n
  obtain ⟨hmissHlp, hmissLhn⟩ := hother PWM_STS_SNMISS (by simp)
  obtain ⟨hirqHlp, hirqLhn⟩ := hother PWM_IRQ_EVT (by simp)
  constructor
  · rw [(s.faultFrame_snMissed n.val).regs _ hhlp, State.missNoted, State.r_setLeg, State.pwmIrq,
      State.r_setBit_other _ _ _ _ hirqHlp, State.r_setBit_other _ _ _ _ hmissHlp, State.setDta,
      State.r_w_other _ _ _ _ hpair, State.r_dtaHlp_w _ _ _ h]
  · rw [(s.faultFrame_snMissed n.val).regs _ hlhn, State.missNoted, State.r_setLeg, State.pwmIrq,
      State.r_setBit_other _ _ _ _ hirqLhn, State.r_setBit_other _ _ _ _ hmissLhn, State.setDta,
      State.r_dtaLhn_w _ _ _ h]

theorem State.snmiss_snMissed (s : State) (n : Fin 3) : bit ((s.snMissed n.val).r PWM_STS_SNMISS) n.val = true := by
  rw [(s.faultFrame_snMissed n.val).regs _ (by decide), State.missNoted, State.r_setLeg, State.pwmIrq,
    State.r_setBit_other _ _ _ _ (by decide)]
  exact State.bit_setBit_self _ _ _ (by decide) (by decide) n.isLt

/-! Readback (R108). -/

/-- A mismatch of the high side with its count and its bits, before the fault that it may raise. -/
def State.mismatchNoted (s : State) (n : Nat) : State :=
  ((s.setLeg n { s.leg n with rbHi := (s.leg n).rbHi + 1, chkHi := some (s.padLeg n).onHi }).setBit PWM_STS_RBERR n).pwmIrq 1

theorem State.rberr_mismatchNoted (s : State) (n : Fin 3) : bit ((s.mismatchNoted n.val).r PWM_STS_RBERR) n.val = true := by
  rw [State.mismatchNoted, State.pwmIrq, State.r_setBit_other _ _ _ _ (by decide)]
  exact State.bit_setBit_self _ _ _ (by decide) (by decide) n.isLt

/-! The commands under their conditions. -/

section
variable {s : State} (hlive : s.pwmLive = true) (hsense : s.b PWM_SNCFG_SNEN = true)
include hlive hsense

theorem exec_snCrossing (t : Nat) (n : Fin 3) {w : SnWatch} (hwatch : (s.leg n.val).watch = some w)
    (hfrom : w.tOff ≤ (s.atF t).nowF) (hto : (s.atF t).nowF ≤ w.tOff + w.dead + 32 * s.r PWM_SNCFG_SNTO) :
    exec (.snCrossing t n w.high) s = .next (s.after ((s.atF t).snCrossed n.val w)) := by
  refine congrArg (fun x => Host.Outcome.next (s.after x)) (((s.atF t).when_true _ _ (by simp [hlive, hsense])).trans ?_)
  simp only [State.leg_atF, hwatch]
  exact if_pos ⟨trivial, hfrom, hto⟩

theorem exec_snWatchTimeout (t : Nat) (n : Fin 3) {w : SnWatch} (hwatch : (s.leg n.val).watch = some w)
    (hdue : w.tOff + w.dead + 32 * s.r PWM_SNCFG_SNTO ≤ (s.atF t).nowF) :
    exec (.snWatchTimeout t n) s = .next (s.after ((s.atF t).snMissed n.val)) := by
  refine congrArg (fun x => Host.Outcome.next (s.after x)) (((s.atF t).when_true _ _ (by simp [hlive, hsense])).trans ?_)
  simp only [State.leg_atF, hwatch]
  exact if_pos hdue

/-- A turn-on that has been checked is not checked again (R108). -/
theorem exec_readbackCheck_again (t : Nat) (n : Fin 3) (node : Bool) (hchk : (s.leg n.val).chkHi = some (s.padLeg n.val).onHi) :
    exec (.readbackCheck t n true node) s = .next (s.after (s.atF t)) := by
  refine congrArg (fun x => Host.Outcome.next (s.after x)) (((s.atF t).when_true _ _ (by simp [hlive, hsense])).trans ?_)
  have hpad : (s.atF t).padLeg n.val = s.padLeg n.val := rfl
  simp [hpad, hchk]

section
variable (t : Nat) (n : Fin 3) {v : Int} (hon : (s.padLeg n.val).hi = true)
  (hnow : (s.padLeg n.val).onHi + 32 * s.r PWM_SNCFG_CHKDLY = (s.atF t).nowF) (hchk : (s.leg n.val).chkHi ≠ some (s.padLeg n.val).onHi)
  (hv : s.vdc = some v) (hmin : 1000 * (s.r PWM_SNCFG_VMIN : Int) ≤ v)
include hon hnow hchk hv hmin

theorem exec_readbackCheck_mismatch : exec (.readbackCheck t n true false) s = .next (s.after
    (if 2 ≤ (s.leg n.val).rbHi + 1 then ((s.atF t).mismatchNoted n.val).raise Fid.readback n
      else (s.atF t).mismatchNoted n.val)) := by
  have hpad : (s.atF t).padLeg n.val = s.padLeg n.val := rfl
  have hvdc : (s.atF t).vdc = some v := hv
  refine congrArg (fun x => Host.Outcome.next (s.after x)) (((s.atF t).when_true _ _ (by simp [hlive, hsense])).trans ?_)
  simp [State.mismatchNoted, hpad, hvdc, hon, hchk, hmin, hnow]

theorem exec_readbackCheck_match : exec (.readbackCheck t n true true) s = .next (s.after
    ((s.atF t).setLeg n.val { s.leg n.val with rbHi := 0, chkHi := some (s.padLeg n.val).onHi })) := by
  have hpad : (s.atF t).padLeg n.val = s.padLeg n.val := rfl
  have hvdc : (s.atF t).vdc = some v := hv
  refine congrArg (fun x => Host.Outcome.next (s.after x)) (((s.atF t).when_true _ _ (by simp [hlive, hsense])).trans ?_)
  simp [hpad, hvdc, hon, hchk, hmin, hnow]

end
end

/-- Settles O21: each command's effect under its conditions; what the fault path adds leaves the adapted values and the bits of
PWM_STS. -/
theorem switchNodeWatchAndReadback : Obligations.SwitchNodeWatchAndReadback := by
  unfold Obligations.SwitchNodeWatchAndReadback
  intro s hlive hsense
  refine ⟨fun t n w hwatch hfrom hto => ?crossing, fun t n w hwatch hdue hmax => ?timeout,
    fun t n v hon hnow hchk hv hmin => ⟨?mismatch, ?agrees⟩, fun t n node => exec_readbackCheck_again hlive hsense t n node⟩
  case crossing =>
    have hleg := (s.atF t).leg_snCrossed n.val w
    exact ⟨_, exec_snCrossing hlive hsense t n hwatch hfrom hto, congrArg Leg.watch hleg, congrArg Leg.miss hleg,
      State.keepsMem_after ((s.atF t).mem_snCrossed n.val w)⟩
  case timeout =>
    obtain ⟨hhlp, hlhn⟩ := (s.atF t).dta_snMissed n hmax
    refine ⟨_, exec_snWatchTimeout hlive hsense t n hwatch hdue, ?_⟩
    simp only [State.after_r]
    refine ⟨hhlp, hlhn, (s.atF t).snmiss_snMissed n, fun hlost => ?_⟩
    rw [((s.atF t).snMissed_eq n.val).trans (if_pos hlost)]
    exact s.raised_after_raise _ Fid.snLost n.val (by decide)
  case mismatch =>
    refine ⟨_, exec_readbackCheck_mismatch hlive hsense t n hon hnow hchk hv hmin, ?_, fun hsecond => ?_⟩
    · have hframe : FaultFrame ((s.atF t).mismatchNoted n.val) (if 2 ≤ (s.leg n.val).rbHi + 1 then
          ((s.atF t).mismatchNoted n.val).raise Fid.readback n else (s.atF t).mismatchNoted n.val) :=
        faultFrame_ite (faultFrame_raise _ _ _) (.refl _)
      rw [State.after_r, hframe.regs _ (by decide)]
      exact (s.atF t).rberr_mismatchNoted n
    · rw [if_pos (by omega)]
      exact s.raised_after_raise _ Fid.readback n.val (by decide)
  case agrees =>
    refine ⟨_, exec_readbackCheck_match hlive hsense t n hon hnow hchk hv hmin, ?_, State.keepsRegs_after rfl [], ?_⟩
    · rw [State.leg_after, State.leg_setLeg]
    · rw [State.leg_after, State.leg_setLeg]

end Sys2Proof.Machine
end

section
/-!
The statement about the trips of the PWM stage.
-/
namespace Sys2Proof.Machine

open Reg

/-! A cleared bit. -/

/-- Clearing a bit leaves the others. -/
theorem bit_bitClr_other (n k j : Nat) (h : j ≠ k) : bit (bitClr n k) j = bit n j := by
  unfold bit bitClr
  split
  case isFalse => rfl
  case isTrue hk =>
    have hge : 2 ^ k ≤ n := Nat.ge_two_pow_of_testBit hk
    rcases Nat.lt_or_gt_of_ne h with hlt | hgt
    · have hadd := Nat.testBit_two_pow_add_gt hlt (n - 2 ^ k)
      rwa [Nat.add_sub_cancel' hge, eq_comm] at hadd
    · obtain ⟨i, rfl⟩ := Nat.exists_eq_add_of_lt hgt
      have hbit (m : Nat) : m.testBit (k + i + 1) = (m / 2 ^ k / 2).testBit i := by
        rw [← Nat.testBit_succ, Nat.testBit_div_two_pow, Nat.add_comm (i + 1), Nat.add_assoc]
      have hdiv : (n - 2 ^ k) / 2 ^ k = n / 2 ^ k - 1 := by simpa using Nat.sub_mul_div n (2 ^ k) 1
      have hodd : n / 2 ^ k % 2 = 1 := by simpa [Nat.testBit_eq_decide_div_mod_eq] using hk
      have hhalf : (n / 2 ^ k - 1) / 2 = n / 2 ^ k / 2 := by
        generalize n / 2 ^ k = m at hodd
        omega
      rw [hbit, hbit, hdiv, hhalf]

theorem State.bit_clrBit_other (s : State) (f : Fld) (k j : Nat) (hw : f.width ≤ 32) (hr : f.reset < 2 ^ 32) (hj : j < f.width)
    (h : j ≠ k) : bit ((s.clrBit f k).r f) j = bit (s.r f) j := by
  have hclr := bit_bitClr_other (s.r f) k j h
  simp only [bit] at hclr ⊢
  rw [State.clrBit, s.r_w_self f _ hw hr, Nat.testBit_mod_two_pow, hclr, decide_eq_true hj, Bool.true_and]

/-! The stage's state and its trip sources. -/

theorem State.stageState_of_r {s u : State} (h : u.r PWM_STS_STATE = s.r PWM_STS_STATE) : u.stageState = s.stageState := by
  unfold State.stageState
  rw [h]

theorem State.latched_of_r {s u : State} (h : u.r PWM_TRIPSTS_LATCH = s.r PWM_TRIPSTS_LATCH) : u.latched = s.latched := by
  unfold State.latched
  rw [h]

/-- No source is latched when the six bits of LATCH are clear. -/
theorem State.latched_eq_nil_iff (s : State) : s.latched = [] ↔ ∀ n < 6, bit (s.r PWM_TRIPSTS_LATCH) n = false := by
  simp [State.latched, List.filter_eq_nil_iff]

theorem State.r_stageStop_other (s : State) (dest : StageState) (f : Fld) (hstate : PWM_STS_STATE.key ≠ f.key)
    (hrun : PWM_CTRL_RUN.key ≠ f.key) : (s.stageStop dest).r f = s.r f :=
  (State.r_w_other _ _ _ _ hrun).trans (State.r_w_other _ _ _ _ hstate)

/-! A trip (R114, R115). -/

/-- A source that latches: its bits, the first source, and the stage in TRIPPED with its outputs off. -/
def State.tripLatched (s : State) (n : Nat) : State :=
  let u := s.setBit PWM_TRIPSTS_FILT n
  let u := if s.latched.isEmpty then u.w PWM_TRIPSTS_FIRST n else u
  ((u.setBit PWM_TRIPSTS_LATCH n).setBit PWM_IRQ_TRIP n).stageStop .tripped

theorem State.tripPat_filtSet (s : State) (n m : Nat) : (s.setBit PWM_TRIPSTS_FILT n).tripPat m = s.tripPat m :=
  congrArg (fun v => v / 4 ^ m % 4) (s.r_setBit_other _ PWM_TRIPPAT_PAT n (by decide))

/-- A masked source sets its filtered bit alone. -/
theorem State.tripActive_masked (s : State) (n : Nat) (h : s.tripPat n = 0) : s.tripActive n = s.setBit PWM_TRIPSTS_FILT n := by
  unfold State.tripActive
  simp [s.tripPat_filtSet, h]

/-- An unmasked source that becomes active latches, ends a discharge release and raises its fault. -/
theorem State.tripActive_latches (s : State) (n : Nat) (hwas : bit (s.r PWM_TRIPSTS_FILT) n = false) (h : s.tripPat n ≠ 0) :
    s.tripActive n = (s.tripLatched n).endWindrel.raise (tripFault n).1 (tripFault n).2 := by
  have hlatched := State.latched_of_r (s.r_setBit_other PWM_TRIPSTS_FILT PWM_TRIPSTS_LATCH n (by decide))
  unfold State.tripActive
  simp only [s.tripPat_filtSet, hwas, hlatched, Bool.false_or, beq_iff_eq, if_neg h]
  rfl

section
variable (s : State) (n : Fin 6)

theorem State.mem_tripLatched : (s.tripLatched n.val).mem = s.mem := by
  change (if s.latched.isEmpty then (s.setBit PWM_TRIPSTS_FILT n.val).w PWM_TRIPSTS_FIRST n.val
    else s.setBit PWM_TRIPSTS_FILT n.val).mem = s.mem
  split <;> rfl

theorem State.r_tripLatched_filt : bit ((s.tripLatched n.val).r PWM_TRIPSTS_FILT) n.val = true := by
  have hset := s.bit_setBit_self PWM_TRIPSTS_FILT n.val (by decide) (by decide) n.isLt
  simp only [State.tripLatched]
  rw [State.r_stageStop_other _ _ _ (by decide) (by decide), State.r_setBit_other _ _ _ _ (by decide),
    State.r_setBit_other _ _ _ _ (by decide), apply_ite (fun x : State => x.r PWM_TRIPSTS_FILT),
    State.r_w_other _ _ _ _ (by decide), ite_self]
  exact hset

theorem State.r_tripLatched_latch : bit ((s.tripLatched n.val).r PWM_TRIPSTS_LATCH) n.val = true := by
  simp only [State.tripLatched]
  rw [State.r_stageStop_other _ _ _ (by decide) (by decide), State.r_setBit_other _ _ _ _ (by decide)]
  exact State.bit_setBit_self _ _ _ (by decide) (by decide) n.isLt

theorem State.r_tripLatched_irq : bit ((s.tripLatched n.val).r PWM_IRQ_TRIP) n.val = true := by
  simp only [State.tripLatched]
  rw [State.r_stageStop_other _ _ _ (by decide) (by decide)]
  exact State.bit_setBit_self _ _ _ (by decide) (by decide) n.isLt

/-- The first source is named when no other had latched (R115). -/
theorem State.r_tripLatched_first (h : s.latched = []) : (s.tripLatched n.val).r PWM_TRIPSTS_FIRST = n.val := by
  simp only [State.tripLatched, h, List.isEmpty_nil, if_true]
  rw [State.r_stageStop_other _ _ _ (by decide) (by decide), State.r_setBit_other _ _ _ _ (by decide),
    State.r_setBit_other _ _ _ _ (by decide), State.r_w_self _ _ _ (by decide) (by decide)]
  exact Nat.mod_eq_of_lt (Nat.lt_trans n.isLt (by decide))

/-- A latched trip leaves the stage in TRIPPED with RUN at 0. -/
theorem State.stage_tripLatched : (s.tripLatched n.val).r PWM_STS_STATE = 3 ∧ (s.tripLatched n.val).r PWM_CTRL_RUN = 0 := by
  simp only [State.tripLatched, State.stageStop]
  rw [State.r_w_other _ PWM_CTRL_RUN PWM_STS_STATE _ (by decide), State.r_w_self _ _ _ (by decide) (by decide),
    State.r_w_self _ _ _ (by decide) (by decide)]
  exact ⟨rfl, rfl⟩

end

theorem State.faultFrame_tripLatched (s : State) (n : Nat) :
    FaultFrame (s.tripLatched n) ((s.tripLatched n).endWindrel.raise (tripFault n).1 (tripFault n).2) :=
  (faultFrame_endWindrel _).trans (faultFrame_raise _ _ _)

theorem tripFault_not_mem_disClears (n : Nat) : (tripFault n).1 ∉ disClears := by
  unfold tripFault
  split
  · exact (by decide : Fid.trip ∉ disClears)
  · split <;> decide

/-! A clear (R117). -/

/-- One source's part of a clear. -/
def tripClearStep (mask : Nat) (s : State) (n : Nat) : State :=
  if bit mask n && bit (s.r PWM_TRIPSTS_LATCH) n then
    if bit (s.r PWM_TRIPSTS_FILT) n then s.w PWM_STS_TRIP_CLR_ACTIVE 1 else s.clrBit PWM_TRIPSTS_LATCH n
  else s

/-- The sources of a list, one after the other. -/
def State.tripsCleared (s : State) (mask : Nat) (l : List Nat) : State := l.foldl (tripClearStep mask) s

/-- A clear goes through the six sources; with none latched any more a tripped stage is IDLE and FIRST names none. -/
theorem State.tripClear_eq (s : State) (mask : Nat) : s.tripClear mask =
    let u := s.tripsCleared mask (List.range 6)
    if u.latched.isEmpty && u.stageState == .tripped then (u.w PWM_STS_STATE 0).w PWM_TRIPSTS_FIRST 7 else u := rfl

theorem mem_tripClearStep (mask : Nat) (s : State) (n : Nat) : (tripClearStep mask s n).mem = s.mem := by
  unfold tripClearStep
  split
  · split <;> rfl
  · rfl

theorem State.mem_tripsCleared (s : State) (mask : Nat) (l : List Nat) : (s.tripsCleared mask l).mem = s.mem := by
  induction l generalizing s with
  | nil => rfl
  | cons n l ih => exact (ih _).trans (mem_tripClearStep mask s n)

/-- One source's part writes LATCH, and the refusal's bit with an active source alone. -/
theorem r_tripClearStep_other (mask : Nat) (s : State) (n : Nat) (f : Fld) (hlatch : PWM_TRIPSTS_LATCH.key ≠ f.key)
    (h : PWM_STS_TRIP_CLR_ACTIVE.key ≠ f.key ∨ bit (s.r PWM_TRIPSTS_FILT) n = false) : (tripClearStep mask s n).r f = s.r f := by
  unfold tripClearStep
  split
  · split
    · next hfilt => exact s.r_w_other _ _ _ (h.resolve_right (by simp [hfilt]))
    · exact s.r_w_other _ _ _ hlatch
  · rfl

/-- A source's latch bit falls with its own part, when the mask names it and its input is inactive. -/
theorem latch_tripClearStep (mask : Nat) (s : State) (n j : Nat) (hj : j < 6) :
    bit ((tripClearStep mask s n).r PWM_TRIPSTS_LATCH) j =
      (bit (s.r PWM_TRIPSTS_LATCH) j && !(decide (j = n) && bit mask j && !bit (s.r PWM_TRIPSTS_FILT) j)) := by
  cases hact : bit mask n && bit (s.r PWM_TRIPSTS_LATCH) n && !bit (s.r PWM_TRIPSTS_FILT) n
  case true =>
    simp only [Bool.and_eq_true, Bool.not_eq_true'] at hact
    obtain ⟨⟨hmask, hlatch⟩, hfilt⟩ := hact
    have hstep : tripClearStep mask s n = s.clrBit PWM_TRIPSTS_LATCH n := by simp [tripClearStep, hmask, hlatch, hfilt]
    by_cases hjn : j = n
    · subst hjn
      rw [hstep, s.bit_clrBit_self _ _ (by decide) (by decide)]
      simp [hmask, hfilt]
    · rw [hstep, s.bit_clrBit_other _ _ _ (by decide) (by decide) hj hjn]
      simp [hjn]
  case false =>
    have hstep : (tripClearStep mask s n).r PWM_TRIPSTS_LATCH = s.r PWM_TRIPSTS_LATCH := by
      unfold tripClearStep
      split
      · next hon =>
        rw [hon, Bool.true_and, Bool.not_eq_false'] at hact
        rw [if_pos hact, s.r_w_other _ _ _ (by decide)]
      · rfl
    rw [hstep]
    by_cases hjn : j = n
    · subst hjn
      revert hact
      cases bit mask j <;> cases bit (s.r PWM_TRIPSTS_LATCH) j <;> cases bit (s.r PWM_TRIPSTS_FILT) j <;> simp
    · simp [hjn]

theorem State.filt_tripsCleared (s : State) (mask : Nat) (l : List Nat) :
    (s.tripsCleared mask l).r PWM_TRIPSTS_FILT = s.r PWM_TRIPSTS_FILT := by
  induction l generalizing s with
  | nil => rfl
  | cons n l ih => exact (ih _).trans (r_tripClearStep_other mask s n _ (by decide) (.inl (by decide)))

/-- After the parts of some sources the latch bits that stay are those not named, and those with an active input. -/
theorem State.latch_tripsCleared (s : State) (mask : Nat) (l : List Nat) (j : Nat) (hj : j < 6) :
    bit ((s.tripsCleared mask l).r PWM_TRIPSTS_LATCH) j =
      (bit (s.r PWM_TRIPSTS_LATCH) j && !(decide (j ∈ l) && bit mask j && !bit (s.r PWM_TRIPSTS_FILT) j)) := by
  induction l generalizing s with
  | nil => simp [State.tripsCleared]
  | cons n l ih =>
    have hfilt := s.filt_tripsCleared mask [n]
    change bit (((tripClearStep mask s n).tripsCleared mask l).r PWM_TRIPSTS_LATCH) j = _
    change (tripClearStep mask s n).r PWM_TRIPSTS_FILT = _ at hfilt
    have hmem : decide (j ∈ n :: l) = (decide (j = n) || decide (j ∈ l)) := by simp
    rw [ih, latch_tripClearStep mask s n j hj, hfilt, hmem]
    cases decide (j = n) <;> cases decide (j ∈ l) <;> simp

/-- With no input active the parts write LATCH alone. -/
theorem State.r_tripsCleared_other (s : State) (mask : Nat) (l : List Nat) (f : Fld) (hfilt : s.r PWM_TRIPSTS_FILT = 0)
    (hf : PWM_TRIPSTS_LATCH.key ≠ f.key) : (s.tripsCleared mask l).r f = s.r f := by
  induction l generalizing s with
  | nil => rfl
  | cons n l ih =>
    refine (ih _ ((s.filt_tripsCleared mask [n]).trans hfilt)).trans (r_tripClearStep_other mask s n f hf (.inr ?_))
    rw [hfilt]
    exact Nat.zero_testBit n

/-- A refusal's bit stays set. -/
theorem State.refused_tripsCleared (s : State) (mask : Nat) (l : List Nat) (h : s.r PWM_STS_TRIP_CLR_ACTIVE = 1) :
    (s.tripsCleared mask l).r PWM_STS_TRIP_CLR_ACTIVE = 1 := by
  induction l generalizing s with
  | nil => exact h
  | cons n l ih =>
    refine ih _ ?_
    unfold tripClearStep
    split
    · split
      · exact s.r_w_self _ _ (by decide) (by decide)
      · exact (s.r_w_other _ _ _ (by decide)).trans h
    · exact h

/-- A latched source of the mask whose input is active sets the refusal's bit. -/
theorem State.active_tripsCleared (s : State) (mask : Nat) (l : List Nat) (n : Nat) (hn : n < 6) (hl : n ∈ l) (hmask : bit mask n = true)
    (hlatch : bit (s.r PWM_TRIPSTS_LATCH) n = true) (hfilt : bit (s.r PWM_TRIPSTS_FILT) n = true) :
    (s.tripsCleared mask l).r PWM_STS_TRIP_CLR_ACTIVE = 1 := by
  induction l generalizing s with
  | nil => simp at hl
  | cons m l ih =>
    by_cases hnm : n = m
    · subst hnm
      have hstep : tripClearStep mask s n = s.w PWM_STS_TRIP_CLR_ACTIVE 1 := by simp [tripClearStep, hmask, hlatch, hfilt]
      refine State.refused_tripsCleared _ mask l ?_
      rw [hstep]
      exact s.r_w_self _ _ (by decide) (by decide)
    · refine ih _ ((List.mem_cons.mp hl).resolve_left hnm) ?_ ?_
      · rw [latch_tripClearStep mask s m n hn, hlatch]
        simp [hnm]
      · rw [r_tripClearStep_other mask s m _ (by decide) (.inl (by decide))]
        exact hfilt

/-- The end of a clear writes STATE and FIRST alone. -/
theorem State.r_tripClear_other (s : State) (mask : Nat) (f : Fld) (hstate : PWM_STS_STATE.key ≠ f.key)
    (hfirst : PWM_TRIPSTS_FIRST.key ≠ f.key) : (s.tripClear mask).r f = (s.tripsCleared mask (List.range 6)).r f := by
  rw [s.tripClear_eq]
  simp only
  split
  · exact (State.r_w_other _ _ _ _ hfirst).trans (State.r_w_other _ _ _ _ hstate)
  · rfl

theorem State.mem_tripClear (s : State) (mask : Nat) : (s.tripClear mask).mem = s.mem := by
  have h := s.mem_tripsCleared mask (List.range 6)
  rw [s.tripClear_eq]
  simp only
  split <;> exact h

/-- A mask of every latched source, with every input inactive, empties LATCH. -/
theorem State.latch_tripsCleared_all (s : State) (mask : Nat) (hfilt : s.r PWM_TRIPSTS_FILT = 0)
    (hall : ∀ n, n < 6 → bit (s.r PWM_TRIPSTS_LATCH) n = true → bit mask n = true) :
    (s.tripsCleared mask (List.range 6)).latched = [] := by
  refine (State.latched_eq_nil_iff _).mpr fun n hn => ?_
  have hinactive : bit (s.r PWM_TRIPSTS_FILT) n = false := by
    rw [hfilt]
    exact Nat.zero_testBit n
  rw [s.latch_tripsCleared mask _ n hn, hinactive]
  cases hlatch : bit (s.r PWM_TRIPSTS_LATCH) n
  · rfl
  · simp [hn, hall n hn hlatch]

/-- A clear that leaves no source latched takes a tripped stage to IDLE. -/
theorem State.tripClear_idle (s : State) (mask : Nat) (hlatched : (s.tripsCleared mask (List.range 6)).latched = [])
    (hstage : (s.tripsCleared mask (List.range 6)).stageState = .tripped) :
    s.tripClear mask = ((s.tripsCleared mask (List.range 6)).w PWM_STS_STATE 0).w PWM_TRIPSTS_FIRST 7 := by
  simp [s.tripClear_eq, hlatched, hstage]

/-- LATCH holds no bit past the six sources. -/
theorem latch_lt_tripClearStep (mask : Nat) (s : State) (n : Nat) (h : s.r PWM_TRIPSTS_LATCH < 64) :
    (tripClearStep mask s n).r PWM_TRIPSTS_LATCH < 64 := by
  unfold tripClearStep
  split
  · split
    · rwa [s.r_w_other _ _ _ (by decide)]
    · rw [State.clrBit, s.r_w_self _ _ (by decide) (by decide)]
      exact Nat.mod_lt _ (by decide)
  · exact h

theorem State.latch_lt_tripsCleared (s : State) (mask : Nat) (l : List Nat) (h : s.r PWM_TRIPSTS_LATCH < 64) :
    (s.tripsCleared mask l).r PWM_TRIPSTS_LATCH < 64 := by
  induction l generalizing s with
  | nil => exact h
  | cons n l ih => exact ih _ (latch_lt_tripClearStep mask s n h)

/-- LATCH with no source latched is 0. -/
theorem State.latch_eq_zero {s : State} (hlt : s.r PWM_TRIPSTS_LATCH < 64) (h : s.latched = []) : s.r PWM_TRIPSTS_LATCH = 0 := by
  refine Nat.eq_of_testBit_eq fun n => ?_
  rw [Nat.zero_testBit]
  by_cases hn : n < 6
  · exact s.latched_eq_nil_iff.mp h n hn
  · exact Nat.testBit_lt_two_pow (Nat.lt_of_lt_of_le hlt (Nat.pow_le_pow_right (by decide : 0 < 2) (Nat.le_of_not_lt hn)))

/-! The commands under their conditions. -/

theorem exec_tripInput_seen (t : Nat) (n : Fin 6) (k : Nat) (s : State) (hlive : s.pwmLive = true)
    (h : s.sourceSeen n.val k = true) : exec (.tripInput t ⟨n, k⟩) s = .next (s.after ((s.atF t).tripActive n.val)) :=
  congrArg (fun x => Host.Outcome.next (s.after x))
    ((s.atF t).when_true (s.pwmLive && s.sourceSeen n.val k) _ (by simp [hlive, h]))

theorem exec_tripInput_unseen (t : Nat) (n : Fin 6) (k : Nat) (s : State) (h : s.sourceSeen n.val k = false) :
    exec (.tripInput t ⟨n, k⟩) s = .next (s.after (s.atF t)) :=
  congrArg (fun x => Host.Outcome.next (s.after x))
    ((s.atF t).when_false (s.pwmLive && s.sourceSeen n.val k) _ (by simp [h]))

/-- What TRIP_INPUT_INACTIVE asks of a source: enough equal samples of a pin, or OC or OV ended (R114). -/
theorem State.sourceEnded_eq (s : State) (n k : Nat) :
    (if n < 4 then s.filtered n k else if n = 4 then !s.ocOpen else !s.ovStands)
      = (if n < 4 then s.filtered n k else !s.sourceSeen n k) := by
  unfold State.sourceSeen
  split
  · rfl
  · split <;> rfl

theorem exec_tripInputInactive (t : Nat) (n : Fin 6) (k : Nat) (s : State) (hlive : s.pwmLive = true)
    (h : (if n.val < 4 then s.filtered n.val k else !s.sourceSeen n.val k) = true) :
    exec (.tripInputInactive t ⟨n, k⟩) s = .next (s.after ((s.atF t).clrBit PWM_TRIPSTS_FILT n.val)) := by
  rw [← s.sourceEnded_eq] at h
  exact congrArg (fun x => Host.Outcome.next (s.after x)) ((s.atF t).when_true _ _ (by simp only [hlive, h, Bool.and_self]))

theorem exec_tripClear (who : Agent) (m : BitVec 6) (s : State) (hlive : s.pwmLive = true)
    (h : s.mayWrite who PWM_TRIPCLR_CLR = true) : exec (.tripClear who m) s = .next (s.after (s.tripClear m.toNat)) :=
  congrArg (fun x => Host.Outcome.next (s.after x)) (s.when_true _ _ (by simp [hlive, h]))

/-- Settles O22: a trip's latching by its fields, which the fault path then keeps with the stage in TRIPPED, and a clear by the bits
of LATCH after the parts of its six sources. -/
theorem tripsLatchAndClear : Obligations.TripsLatchAndClear := by
  unfold Obligations.TripsLatchAndClear
  intro s hlive
  refine ⟨fun t n k hseen hwas hpat => ?latches, fun t n k hseen hpat => ?masked, fun t n k => exec_tripInput_unseen t n k s,
    fun t n k hended => ?inactive, fun t => rfl, fun who m hmay hfilt hlt hall hstage => ?cleared,
    fun who m n hmay hmask hlatch hfilt => ?refused⟩
  case latches =>
    have hactive := (s.atF t).tripActive_latches n.val hwas hpat
    have hframe := (s.atF t).faultFrame_tripLatched n.val
    obtain ⟨hstate, hrun⟩ := (s.atF t).stage_tripLatched n
    obtain ⟨hstate', hrun'⟩ := hframe.stage ⟨by rw [hstate]; decide, by rw [hstate]; decide⟩
    refine ⟨_, exec_tripInput_seen t n k s hlive hseen, ?_⟩
    rw [hactive]
    refine ⟨?_, ?_, ?_, ?_, ?_, ?_, fun hnone => ?_, hframe.keepsMem_after ((s.atF t).mem_tripLatched n)⟩
    · rw [State.after_r, hframe.regs _ (by decide)]
      exact (s.atF t).r_tripLatched_filt n
    · rw [State.after_r, hframe.regs _ (by decide)]
      exact (s.atF t).r_tripLatched_latch n
    · rw [State.after_r, hframe.regs _ (by decide)]
      exact (s.atF t).r_tripLatched_irq n
    · simp [State.stageState, hstate', hstate]
    · simp [State.b, hrun', hrun]
    · exact s.raised_after_raise _ _ _ (tripFault_not_mem_disClears n.val)
    · rw [State.after_r, hframe.regs _ (by decide)]
      exact (s.atF t).r_tripLatched_first n hnone
  case masked =>
    refine ⟨_, exec_tripInput_seen t n k s hlive hseen, ?_⟩
    rw [(s.atF t).tripActive_masked n.val hpat]
    refine ⟨(s.atF t).bit_setBit_self _ _ (by decide) (by decide) n.isLt, fun f hf => ?_, State.keepsMem_after rfl⟩
    exact (s.atF t).r_setBit_other _ f _ fun e => hf (by simp [e])
  case inactive =>
    refine ⟨_, exec_tripInputInactive t n k s hlive hended, (s.atF t).bit_clrBit_self _ _ (by decide) (by decide),
      fun f hf => ?_, State.keepsMem_after rfl⟩
    exact (s.atF t).r_w_other _ f _ fun e => hf (by simp [e])
  case cleared =>
    have hlatched := s.latch_tripsCleared_all m.toNat hfilt fun n hn hl => (BitVec.testBit_toNat m).trans (hall n hn hl)
    have hother (f : Fld) := s.r_tripsCleared_other m.toNat (List.range 6) f hfilt
    have hclear := s.tripClear_idle m.toNat hlatched ((State.stageState_of_r (hother PWM_STS_STATE (by decide))).trans hstage)
    refine ⟨_, exec_tripClear who m s hlive hmay, ?_, ?_, ?_, fun f hf => ?_, State.keepsMem_after (s.mem_tripClear m.toNat)⟩
    · rw [State.after_r, s.r_tripClear_other _ _ (by decide) (by decide)]
      exact State.latch_eq_zero (s.latch_lt_tripsCleared m.toNat _ hlt) hlatched
    · have hidle : (s.tripClear m.toNat).r PWM_STS_STATE = 0 := by
        rw [hclear, State.r_w_other _ _ _ _ (by decide), State.r_w_self _ _ _ (by decide) (by decide)]
        rfl
      simp [State.stageState, hidle]
    · rw [State.after_r, hclear, State.r_w_self _ _ _ (by decide) (by decide)]
      rfl
    · simp only [List.map_cons, List.map_nil, List.mem_cons, List.not_mem_nil, or_false, not_or] at hf
      obtain ⟨hlatch, hfirst, hstate⟩ := hf
      rw [State.after_r, s.r_tripClear_other _ _ (Ne.symm hstate) (Ne.symm hfirst)]
      exact hother f (Ne.symm hlatch)
  case refused =>
    have hmask' : bit m.toNat n.val = true := (BitVec.testBit_toNat m).trans hmask
    refine ⟨_, exec_tripClear who m s hlive hmay, ?_, ?_⟩
    · rw [State.after_r, s.r_tripClear_other _ _ (by decide) (by decide), s.latch_tripsCleared _ _ _ n.isLt, hlatch, hfilt]
      simp
    · rw [State.after_r, s.r_tripClear_other _ _ (by decide) (by decide)]
      exact s.active_tripsCleared _ _ n.val n.isLt (by simp) hmask' hlatch hfilt

end Sys2Proof.Machine
end

section
/-!
What the fault path leaves of the discharge block, of the faults that are active and of the reactions that wait: no discharge begins
while one runs, nor with no request held and no reaction of class A (R120, R405, R406).
-/
namespace Sys2Proof.Machine

open Reg

/-- DIS keeps its state and its request for the discharge release, and every active fault stays so. -/
structure DisKept (s u : State) : Prop where
  state : u.r DIS_STS_STATE = s.r DIS_STS_STATE
  windreq : u.r DIS_STS_WINDREQ = s.r DIS_STS_WINDREQ
  active : ∀ id, s.hasFault id = true → u.hasFault id = true

theorem DisKept.refl (s : State) : DisKept s s := ⟨rfl, rfl, fun _ h => h⟩

theorem DisKept.trans {s u v : State} (h : DisKept s u) (g : DisKept u v) : DisKept s v :=
  ⟨g.state.trans h.state, g.windreq.trans h.windreq, fun id ha => g.active id (h.active id ha)⟩

theorem DisKept.busy {s u : State} (h : DisKept s u) (hs : s.disBusy = true) : u.disBusy = true := by
  unfold State.disBusy at hs ⊢
  rwa [h.state]

/-- The same with the active faults and the reactions as they were, and no request held that was not. -/
structure DisFrame (s u : State) : Prop where
  state : u.r DIS_STS_STATE = s.r DIS_STS_STATE
  windreq : u.r DIS_STS_WINDREQ = s.r DIS_STS_WINDREQ
  active : u.flt.active = s.flt.active
  current : u.flt.current = s.flt.current
  queue : u.flt.queue = s.flt.queue
  preempted : u.flt.preempted = s.flt.preempted
  held : s.dis.reqHeld = false → u.dis.reqHeld = false

theorem DisFrame.kept {s u : State} (h : DisFrame s u) : DisKept s u :=
  ⟨h.state, h.windreq, fun id ha => by unfold State.hasFault at *; rwa [h.active]⟩

theorem DisFrame.refl (s : State) : DisFrame s s := ⟨rfl, rfl, rfl, rfl, rfl, rfl, id⟩

theorem DisFrame.trans {s u v : State} (h : DisFrame s u) (g : DisFrame u v) : DisFrame s v :=
  ⟨g.state.trans h.state, g.windreq.trans h.windreq, g.active.trans h.active, g.current.trans h.current, g.queue.trans h.queue,
    g.preempted.trans h.preempted, fun hs => g.held (h.held hs)⟩

/-- A write of a register of another block. -/
theorem DisFrame.w {s u : State} (h : DisFrame s u) (k : Fld) (v : Nat)
    (hk : k.key ≠ DIS_STS_STATE.key ∧ k.key ≠ DIS_STS_WINDREQ.key := by decide) : DisFrame s (u.w k v) :=
  h.trans ⟨u.r_w_other _ _ _ hk.1, u.r_w_other _ _ _ hk.2, rfl, rfl, rfl, rfl, id⟩

theorem disFrame_ite {p : Prop} [Decidable p] {s u v : State} (h : DisFrame s u) (g : DisFrame s v) :
    DisFrame s (if p then u else v) := by
  split
  · exact h
  · exact g

/-- An update that leaves the registers, the discharge block and the fault manager. -/
theorem DisFrame.of {s u : State} (hregs : u.regs = s.regs) (hdis : u.dis = s.dis) (hflt : u.flt = s.flt) : DisFrame s u := by
  have hr (f : Fld) : u.r f = s.r f := by
    unfold State.r
    rw [hregs]
  exact ⟨hr _, hr _, by rw [hflt], by rw [hflt], by rw [hflt], by rw [hflt], fun h => by rw [hdis]; exact h⟩

theorem disFrame_sss (s : State) (x : Sss) : DisFrame s { s with sss := x } := .of rfl rfl rfl
theorem disFrame_drive (s : State) (x : Drive) : DisFrame s { s with drive := x } := .of rfl rfl rfl
theorem disFrame_bst (s : State) (x : Bst) : DisFrame s { s with bst := x } := .of rfl rfl rfl

/-! The operations in the order of their definitions. -/

theorem disFrame_stageOverridden (s : State) : DisFrame s s.stageOverridden :=
  disFrame_ite (((((DisFrame.of rfl rfl rfl : DisFrame s s.legsOff).w PWM_STS_STATE _).w PWM_CTRL_RUN _).w PWM_STS_SSSSTOP _).w
    PWM_IRQ_EVT _) (.refl s)

theorem disFrame_fltEvent (s : State) (k : Nat) : DisFrame s (s.fltEvent k) := by
  have hirq : DisFrame s (s.setBit FLT_IRQ_EVT k) := (DisFrame.refl s).w FLT_IRQ_EVT _
  exact disFrame_ite (hirq.w HSP_IRQ_EVT _) hirq

theorem disFrame_record (s : State) (x : FaultRecord) : DisFrame s (s.record x) :=
  disFrame_ite ⟨rfl, rfl, rfl, rfl, rfl, rfl, id⟩ (((DisFrame.refl s).w FLT_STS_JLOST 1).trans (disFrame_fltEvent _ 6))

theorem disFrame_holdSafe (s : State) (x : SafeState) : DisFrame s (s.holdSafe x) :=
  (((DisFrame.refl s).w SSS_STS_SAFEST (safeCode x)).w SSS_STS_OVR 1).trans (.of rfl rfl rfl)

theorem disFrame_endWindrel (s : State) : DisFrame s s.endWindrel :=
  disFrame_ite ((((DisFrame.refl s).w SSS_STS_WINDREL 0).trans (disFrame_holdSafe _ _)).trans (disFrame_stageOverridden _)) (.refl s)

theorem disFrame_readFieldParams (s : State) : DisFrame s s.readFieldParams := disFrame_ite (.of rfl rfl rfl) (.refl s)

theorem disFrame_leaveTest (s : State) : DisFrame s s.leaveTest :=
  (((DisFrame.refl s).w SAF_TP_TEST 0).w SAF_TP_HOLDB 0).w SSS_STS_TBUSY 0

/-- With a discharge under way a request begins none. -/
theorem disKept_disRequest (s : State) (h : s.disBusy = true) : DisKept s s.disRequest := by
  have hidle : ¬ (s.r DIS_STS_STATE = 0 ∨ s.r DIS_STS_STATE = 5 ∨ s.r DIS_STS_STATE = 6) := by
    simp only [State.disBusy, Bool.and_eq_true, decide_eq_true_eq] at h
    omega
  have hact : s.disAct = { s with dis := { s.dis with reqHeld := false } } := if_neg hidle
  unfold State.disRequest
  split
  · rw [hact]
    exact ⟨rfl, rfl, fun _ ha => ha⟩
  · exact ⟨rfl, rfl, fun _ ha => ha⟩

/-- With no request held nothing acts as the drive enters OFF or SAFE (R120). -/
theorem State.disWake_eq (s : State) (h : s.dis.reqHeld = false) : s.disWake = s := by simp [State.disWake, h]

/-- The safe state up to the request that DIS may hold. -/
def State.safeTaken (s : State) (own : Bool) : State :=
  let s := s.readFieldParams.leaveTest
  let s := (s.holdSafe s.safeChoice).w SSS_STS_DSTATE 4
  let s := s.w SSS_STS_SS1RUN 0
  let s := { s with sss := { s.sss with keepAscL := false, relarmMove := false, ss1Wait := false } }
  let s := s.stageOverridden
  { s with drive := { s.drive with svc := if own then s.drive.svc else .idle, runAtO := false, relarmed := false } }

theorem State.enterSafe_eq (s : State) (own : Bool) :
    s.enterSafe own = if s.endWindrel.drv = .safe then s.endWindrel else (s.endWindrel.safeTaken own).disWake := rfl

theorem disFrame_safeTaken (s : State) (own : Bool) : DisFrame s (s.safeTaken own) := by
  unfold State.safeTaken
  extract_lets tested safe ended _ wait stage _
  have htested : DisFrame s tested := (disFrame_readFieldParams s).trans (disFrame_leaveTest _)
  have hsafe : DisFrame tested safe := (disFrame_holdSafe tested _).w SSS_STS_DSTATE 4
  have hended : DisFrame safe ended := (DisFrame.refl safe).w SSS_STS_SS1RUN 0
  have hwait : DisFrame ended wait := disFrame_sss ended _
  have hstage : DisFrame wait stage := disFrame_stageOverridden wait
  exact ((((htested.trans hsafe).trans hended).trans hwait).trans hstage).trans (disFrame_drive stage _)

theorem disKept_enterSafe (s : State) (own : Bool) (h : s.disBusy = true) : DisKept s (s.enterSafe own) := by
  have hends := (disFrame_endWindrel s).kept
  rw [s.enterSafe_eq]
  split
  · exact hends
  · have htaken := hends.trans (disFrame_safeTaken s.endWindrel own).kept
    unfold State.disWake
    split
    · exact htaken.trans (disKept_disRequest _ (htaken.busy h))
    · exact htaken

theorem disFrame_enterSafe (s : State) (own : Bool) (h : s.dis.reqHeld = false) : DisFrame s (s.enterSafe own) := by
  have hends := disFrame_endWindrel s
  have htaken := hends.trans (disFrame_safeTaken s.endWindrel own)
  rw [s.enterSafe_eq, State.disWake_eq _ (htaken.held h)]
  exact disFrame_ite hends htaken

theorem disFrame_raiseRecord (s : State) (x : Reaction) : DisFrame s (s.raiseRecord x) :=
  disFrame_ite (.refl s) ((disFrame_record s _).trans ⟨rfl, rfl, rfl, rfl, rfl, rfl, id⟩)

theorem disFrame_bstAbort (s : State) (k : Nat) : DisFrame s (s.bstAbort k) := by
  unfold State.bstAbort
  split
  · next b _ =>
    refine disFrame_ite ?_ (.refl s)
    extract_lets _ phase res
    have hphase : DisFrame s phase := disFrame_bst s _
    have hres : DisFrame s res := disFrame_ite (hphase.w BST_RES0_RES _) (hphase.w BST_RES1_RES _)
    exact (disFrame_ite (hres.w BST_STS_ABORTS _) hres).w BST_IRQ_EVT _
  · exact .refl s

theorem disFrame_bstAbortAll (s : State) : DisFrame s s.bstAbortAll := by
  unfold State.bstAbortAll
  generalize List.range 17 = l
  induction l generalizing s with
  | nil => exact .refl s
  | cons k l ih => exact (disFrame_bstAbort s k).trans (ih _)

theorem disFrame_buntingAbort (s : State) : DisFrame s s.buntingAbort :=
  disFrame_ite (((DisFrame.refl s).w CLE_BSTS_STATE 3).w CLE_BSTS_ABORT 1) (.refl s)

theorem disFrame_noteRaise (s : State) (id d : Nat) (c : FaultClass) : DisFrame s (s.noteRaise id d c) :=
  (((((DisFrame.refl s).w FLT_LAST_ID _).w FLT_LAST_CLASS _).w FLT_LAST_DETAIL _).w FLT_LASTT_TICK _).trans (disFrame_fltEvent _ _)

theorem disFrame_raiseStops (s : State) (c : FaultClass) : DisFrame s (s.raiseStops c) :=
  disFrame_ite ((disFrame_endWindrel s).trans (disFrame_bstAbortAll _)) (.refl s)

/-! Reactions (R405, R406). -/

/-- No reaction is in progress or waits, and no request of a discharge is held. -/
structure State.NoReaction (s : State) : Prop where
  current : s.flt.current = none
  queue : s.flt.queue = []
  preempted : s.flt.preempted = []
  held : s.dis.reqHeld = false

theorem DisFrame.noReaction {s u : State} (h : DisFrame s u) (hs : s.NoReaction) : u.NoReaction :=
  ⟨h.current.trans hs.current, h.queue.trans hs.queue, h.preempted.trans hs.preempted, h.held hs.held⟩

theorem disFrame_stopAxes (s : State) : DisFrame s s.stopAxes := .of rfl rfl rfl

theorem disFrame_reactSteps (s : State) (x : Reaction) (h : s.dis.reqHeld = false) (hx : x.cls ≠ .A) :
    DisFrame s (s.reactSteps x) := by
  have hsafe : DisFrame s (((s.enterSafe).stopAxes).buntingAbort).bstAbortAll :=
    (((disFrame_enterSafe s false h).trans (disFrame_stopAxes _)).trans (disFrame_buntingAbort _)).trans (disFrame_bstAbortAll _)
  unfold State.reactSteps
  refine disFrame_ite (.refl s) ?_
  split
  · next hA => exact absurd hA hx
  · exact hsafe.trans (disFrame_raiseRecord _ x)
  · exact disFrame_raiseRecord s x

theorem disKept_reactSteps (s : State) (x : Reaction) (h : s.disBusy = true) : DisKept s (s.reactSteps x) := by
  have hsafe : DisKept s (((s.enterSafe).stopAxes).buntingAbort).bstAbortAll :=
    (disKept_enterSafe s false h).trans
      (((disFrame_stopAxes _).trans (disFrame_buntingAbort _)).trans (disFrame_bstAbortAll _)).kept
  unfold State.reactSteps
  split
  · exact .refl s
  · split
    · have hrecord := hsafe.trans (disFrame_raiseRecord _ x).kept
      exact hrecord.trans (disKept_disRequest _ (hrecord.busy h))
    · exact hsafe.trans (disFrame_raiseRecord _ x).kept
    · exact (disFrame_raiseRecord s x).kept

/-- An update of the fault manager that leaves the active faults. -/
theorem disKept_flt (s : State) (x : Flt) (h : x.active = s.flt.active) : DisKept s { s with flt := x } :=
  ⟨rfl, rfl, fun id ha => by unfold State.hasFault at *; rwa [h]⟩

theorem disKept_startReaction (s : State) (x : Reaction) (h : s.disBusy = true) : DisKept s (s.startReaction x) :=
  (disKept_reactSteps s x h).trans (disKept_flt _ _ rfl)

theorem disKept_pumpReactions (n : Nat) (s : State) (h : s.disBusy = true) : DisKept s (s.pumpReactions n) := by
  induction n generalizing s with
  | zero => exact .refl s
  | succ n ih =>
    unfold State.pumpReactions
    split
    · exact .refl s
    · split
      · exact .refl s
      · next x pre q _ =>
        have htaken := disKept_flt s { s.flt with preempted := pre, queue := q } rfl
        have hstarted := htaken.trans (disKept_startReaction _ x (htaken.busy h))
        exact hstarted.trans (ih _ (hstarted.busy h))

/-- With no reaction waiting none is started. -/
theorem State.pumpReactions_empty (s : State) (n : Nat) (hq : s.flt.queue = []) (hp : s.flt.preempted = []) :
    s.pumpReactions n = s := by
  cases n with
  | zero => rfl
  | succ n => simp [State.pumpReactions, nextReaction, pickReaction, hq, hp]

/-- A reaction submitted while a discharge runs, or one below class A with no other reaction, begins no discharge. -/
theorem disKept_submit (s : State) (x : Reaction) (h : s.disBusy = true ∨ (s.NoReaction ∧ x.cls ≠ .A)) :
    DisKept s (s.submit x).1 := by
  rcases h with hbusy | ⟨hcalm, hx⟩
  · unfold State.submit
    split
    · have hstarted := disKept_startReaction s x hbusy
      exact hstarted.trans (disKept_pumpReactions _ _ (hstarted.busy hbusy))
    · next y _ =>
      split
      · have hput := disKept_flt s { s.flt with preempted := y :: s.flt.preempted, current := none } rfl
        have hstarted := hput.trans (disKept_startReaction _ x (hput.busy hbusy))
        exact hstarted.trans (disKept_pumpReactions _ _ (hstarted.busy hbusy))
      · split
        · exact disKept_flt s { s.flt with queue := s.flt.queue ++ [x] } rfl
        · exact .refl s
  · have hsteps := disFrame_reactSteps s x hcalm.held hx
    have hempty : (s.startReaction x).pumpReactions 20 = s.startReaction x :=
      State.pumpReactions_empty _ _ (hsteps.queue.trans hcalm.queue) (hsteps.preempted.trans hcalm.preempted)
    simp only [State.submit, hcalm.current, hempty]
    exact hsteps.kept.trans (disKept_flt _ _ rfl)

/-- A reaction with no other in progress is taken. -/
theorem State.submit_ok (s : State) (x : Reaction) (h : s.flt.current = none) : (s.submit x).2 = true := by
  simp [State.submit, h]

/-! Raises (R404 to R408). -/

/-- An active fault's entry that takes the place of its own leaves every fault active. -/
theorem any_replaced (l : List ActiveFault) (a : ActiveFault) (i : Nat) (h : l.any (fun x => x.id == i) = true) :
    (l.map (fun x => if x.id == a.id then a else x)).any (fun x => x.id == i) = true := by
  rw [List.any_map]
  refine List.any_eq_true.mpr ?_
  obtain ⟨x, hx, hi⟩ := List.any_eq_true.mp h
  refine ⟨x, hx, ?_⟩
  by_cases ha : x.id = a.id
  · simpa [ha] using hi
  · simpa [ha] using hi

/-- The state of a raise before it enters its fault among the active ones. -/
def State.raiseNoted (s : State) (id d : Nat) (c : FaultClass) : State := ((s.noteRaise id d c).countOcc id).raiseStops c

theorem disFrame_countOcc (s : State) (i : Nat) : DisFrame s (s.countOcc i) := ⟨rfl, rfl, rfl, rfl, rfl, rfl, id⟩

theorem disFrame_raiseNoted (s : State) (id d : Nat) (c : FaultClass) : DisFrame s (s.raiseNoted id d c) :=
  ((disFrame_noteRaise s id d c).trans (disFrame_countOcc _ id)).trans (disFrame_raiseStops _ c)

/-- One more active fault. -/
def State.addFault (s : State) (a : ActiveFault) : State := { s with flt := { s.flt with active := s.flt.active ++ [a] } }

theorem disKept_addFault (s : State) (a : ActiveFault) : DisKept s (s.addFault a) ∧ (s.addFault a).hasFault a.id = true := by
  refine ⟨⟨rfl, rfl, fun id ha => ?_⟩, ?_⟩
  · unfold State.hasFault at *
    simp [State.addFault, List.any_append, ha]
  · simp [State.hasFault, State.addFault]

theorem State.NoReaction.addFault {s : State} (h : s.NoReaction) (a : ActiveFault) : (s.addFault a).NoReaction :=
  ⟨h.current, h.queue, h.preempted, h.held⟩

/-- An active fault with a new entry in its place. -/
def State.putFault (s : State) (a : ActiveFault) : State :=
  { s with flt := { s.flt with active := s.flt.active.map (fun x => if x.id == a.id then a else x) } }

theorem disKept_putFault (s : State) (a : ActiveFault) : DisKept s (s.putFault a) :=
  ⟨rfl, rfl, fun id ha => any_replaced s.flt.active a id ha⟩

/-- The part of a raise that may not overflow makes its fault active and begins no discharge, while one runs or with no other
reaction and below class A. -/
theorem disKept_raiseCore (s : State) (i d : Nat) (c : FaultClass) (h : s.disBusy = true ∨ (s.NoReaction ∧ c ≠ .A)) :
    DisKept s (s.raiseCore i d c).1 ∧ (s.raiseCore i d c).1.hasFault i = true := by
  have hnoted := disFrame_raiseNoted s i d c
  have hcond : (s.raiseNoted i d c).disBusy = true ∨ ((s.raiseNoted i d c).NoReaction ∧ c ≠ .A) :=
    h.imp hnoted.kept.busy (And.imp_left hnoted.noReaction)
  unfold State.raiseCore
  simp only
  split
  · have hnew := disKept_addFault (s.raiseNoted i d c) (ActiveFault.mk i [d] c d (s.reactionOf i d c).tick)
    have hsubmit := disKept_submit _ (s.reactionOf i d c) (hcond.imp hnew.1.busy (And.imp_left fun hcalm => hcalm.addFault _))
    exact ⟨(hnoted.kept.trans hnew.1).trans hsubmit, hsubmit.active i hnew.2⟩
  · next a hfind =>
    have hid : a.id = i := by simpa using List.find?_some hfind
    have hactive : (s.raiseNoted i d c).hasFault i = true :=
      List.any_eq_true.mpr ⟨a, List.mem_of_find?_eq_some hfind, by simp [hid]⟩
    have hput (insts : List Nat) := disKept_putFault (s.raiseNoted i d c) { a with insts := insts, detail := d }
    subst hid
    split
    · have hrecord := (hput (a.insts ++ [d])).trans (disFrame_raiseRecord _ (s.reactionOf a.id d c)).kept
      exact ⟨hnoted.kept.trans hrecord, hrecord.active _ hactive⟩
    · exact ⟨hnoted.kept.trans (hput a.insts), (hput a.insts).active _ hactive⟩

/-- A raise with no reaction in progress does not overflow (R408). -/
theorem State.raiseCore_ok (s : State) (i d : Nat) (c : FaultClass) (h : s.flt.current = none) : (s.raiseCore i d c).2 = true := by
  unfold State.raiseCore
  simp only
  split
  · exact State.submit_ok _ _ ((disFrame_raiseNoted s i d c).current.trans h)
  · rfl

/-- The registers that a fault's class rests on: the entries of FLT_ESC and SDX_CTRL.FBEN (R402, R403). -/
def classFlds : List Fld :=
  SDX_CTRL_FBEN :: (List.range 8).flatMap (fun n => [FLT_ESC_EN n, FLT_ESC_ID n, FLT_ESC_CLASS n])

/-- A fault's class rests on those registers and on a parameter item alone. -/
theorem State.classOf_congr {s u : State} (hr : ∀ f ∈ classFlds, u.r f = s.r f) (hkern : u.kern = s.kern) (i : Nat) :
    u.classOf i = s.classOf i := by
  have hentry (n : Nat) (hn : n ∈ List.range 8) (f : Fld) (hf : f ∈ [FLT_ESC_EN n, FLT_ESC_ID n, FLT_ESC_CLASS n]) :
      u.r f = s.r f := hr f (List.mem_cons_of_mem _ (List.mem_flatMap.mpr ⟨n, hn, hf⟩))
  have hesc : u.escOf i = s.escOf i := by
    have hin : (List.range 8).filter (fun n => u.b (FLT_ESC_EN n) && u.r (FLT_ESC_ID n) == i)
        = (List.range 8).filter (fun n => s.b (FLT_ESC_EN n) && s.r (FLT_ESC_ID n) == i) :=
      List.filter_congr fun n hn => by rw [State.b, State.b, hentry n hn _ (by simp), hentry n hn _ (by simp)]
    unfold State.escOf
    rw [hin]
    refine List.map_congr_left fun n hn => ?_
    rw [hentry n (List.mem_filter.mp hn).1 _ (by simp)]
  have hrow (row : FaultRow) : u.rowClass row = s.rowClass row := by
    have hfben : u.b SDX_CTRL_FBEN = s.b SDX_CTRL_FBEN := by rw [State.b, State.b, hr _ List.mem_cons_self]
    have hparam : u.param 0x314 1 = s.param 0x314 1 := by rw [State.param, State.param, hkern]
    rw [State.rowClass, State.rowClass, hfben, hparam]
  unfold State.classOf
  rw [hesc]
  cases faultRow? i with
  | none => rfl
  | some row => simp only [hrow]

theorem FaultFrame.classOf {s u : State} (h : FaultFrame s u) (i : Nat) : u.classOf i = s.classOf i := by
  have hkeys : ∀ f ∈ classFlds, f.key ∉ faultFlds.map Fld.key := by decide
  exact State.classOf_congr (fun f hf => h.regs f (hkeys f hf)) h.kern i

theorem State.classOf_w (s : State) (k : Fld) (v i : Nat) (hk : ∀ f ∈ classFlds, k.key ≠ f.key) :
    (s.w k v).classOf i = s.classOf i :=
  State.classOf_congr (u := s.w k v) (fun f hf => s.r_w_other k f v (hk f hf)) rfl i

/-- An overflow's own raise, with its steps when no entry is free (R408). -/
theorem disKept_overflow (s : State) (x : Reaction) (i d : Nat) (h : s.disBusy = true) :
    DisKept s (if (s.raiseCore i d x.cls).2 = true then (s.raiseCore i d x.cls).1 else (s.raiseCore i d x.cls).1.reactSteps x) := by
  have hcore := (disKept_raiseCore s i d x.cls (.inl h)).1
  split
  · exact hcore
  · exact hcore.trans (disKept_reactSteps _ x (hcore.busy h))

/-- A raise while a discharge runs begins none, and makes its fault active. -/
theorem disKept_raise_busy (s : State) (i d : Nat) (h : s.disBusy = true) :
    DisKept s (s.raise i d) ∧ (s.raise i d).hasFault i = true := by
  have habort := (disFrame_bstAbort s 1).kept
  obtain ⟨hcore, hactive⟩ := disKept_raiseCore (s.bstAbort 1) i d ((s.bstAbort 1).classOf i) (.inl (habort.busy h))
  have hraised := habort.trans hcore
  have hthen (v : State) (hv : DisKept _ v) : DisKept s v ∧ v.hasFault i = true := ⟨hraised.trans hv, hv.active i hactive⟩
  unfold State.raise
  simp only
  split
  · exact hthen _ (.refl _)
  · have hovf := (((DisFrame.refl ((s.bstAbort 1).raiseCore i d ((s.bstAbort 1).classOf i)).1).w FLT_STS_OVF 1).trans
      (disFrame_fltEvent _ 5)).kept
    exact hthen _ (hovf.trans (disKept_overflow _ _ _ _ (hovf.busy (hraised.busy h))))

/-- A raise below class A with no other reaction and no request held begins no discharge, and makes its fault active. -/
theorem disKept_raise_calm (s : State) (i d : Nat) (h : s.NoReaction) (hc : s.classOf i ≠ .A) :
    DisKept s (s.raise i d) ∧ (s.raise i d).hasFault i = true := by
  have habort := disFrame_bstAbort s 1
  have hclass : (s.bstAbort 1).classOf i = s.classOf i := (faultFrame_bstAbort s 1).classOf i
  have hcalm := habort.noReaction h
  obtain ⟨hcore, hactive⟩ := disKept_raiseCore (s.bstAbort 1) i d (s.classOf i) (.inr ⟨hcalm, hc⟩)
  have hok := (s.bstAbort 1).raiseCore_ok i d (s.classOf i) hcalm.current
  have hraise : s.raise i d = ((s.bstAbort 1).raiseCore i d (s.classOf i)).1 := by
    unfold State.raise
    simp only [hclass, hok, if_true]
  rw [hraise]
  exact ⟨habort.kept.trans hcore, hactive⟩

end Sys2Proof.Machine
end

section
/-!
The statement about the discharge block.
-/
namespace Sys2Proof.Machine

open Reg

/-! The DC link. -/

/-- The valid DC-link sample is at or below VTGT (R121). -/
def State.linkAtTarget (s : State) : Bool :=
  match s.vdc with
  | some v => decide (v ≤ 1000 * (s.r DIS_LIM_VTGT : Int))
  | none => false

theorem State.linkAtTarget_some {s : State} {v : Int} (h : s.vdc = some v) :
    s.linkAtTarget = decide (v ≤ 1000 * (s.r DIS_LIM_VTGT : Int)) := by simp [State.linkAtTarget, h]

theorem State.linkAtTarget_none {s : State} (h : s.vdc = none) : s.linkAtTarget = false := by simp [State.linkAtTarget, h]

/-- The fault path leaves the DC-link sample. -/
theorem FaultFrame.vdc {s u : State} (h : FaultFrame s u) : u.vdc = s.vdc := by
  unfold State.vdc State.b State.ri
  rw [h.regs (SDX_RES_VALID 3) (by decide), h.regs (SDX_RES_VALUE 3) (by decide)]

theorem FaultFrame.linkAtTarget {s u : State} (h : FaultFrame s u) : u.linkAtTarget = s.linkAtTarget := by
  unfold State.linkAtTarget
  rw [h.vdc, h.regs DIS_LIM_VTGT (by decide)]

/-! The states of the block (R121). -/

theorem faultFrame_disElapse (s : State) : FaultFrame s s.disElapse := by
  unfold State.disElapse
  split
  · exact faultFrame_ite ((FaultFrame.refl s).w DIS_MEAS_ELAPSED _) (.refl s)
  · exact .refl s

/-- A write of the block's state is one of the fault path's own. -/
theorem faultFrame_disState (s : State) (v : Nat) : FaultFrame s (s.w DIS_STS_STATE v) := (FaultFrame.refl s).w DIS_STS_STATE v

/-- DONE or FAIL with the discharge release no longer asked for, before the release itself ends. -/
def State.disStopped (s : State) (done : Bool) : State :=
  let s := s.disElapse.w DIS_STS_WINDREQ 0
  if done then s.disDone else s.w DIS_STS_STATE 6

theorem State.disEnd_eq (s : State) (done : Bool) :
    s.disEnd done = if s.r DIS_STS_STATE = 4 then (s.disStopped done).endWindrel else s.disStopped done := rfl

theorem faultFrame_disStopped (s : State) (done : Bool) : FaultFrame s (s.disStopped done) := by
  have hasked : FaultFrame s (s.disElapse.w DIS_STS_WINDREQ 0) := (faultFrame_disElapse s).w DIS_STS_WINDREQ 0
  exact faultFrame_ite ((hasked.trans (faultFrame_disState _ 5)).trans (faultFrame_flt _ _)) (hasked.trans (faultFrame_disState _ 6))

theorem faultFrame_disEnd (s : State) (done : Bool) : FaultFrame s (s.disEnd done) := by
  have hstopped := faultFrame_disStopped s done
  rw [s.disEnd_eq]
  exact faultFrame_ite (hstopped.trans (faultFrame_endWindrel _)) hstopped

theorem disFrame_disEnd (s : State) (done : Bool) : DisFrame (s.disStopped done) (s.disEnd done) := by
  rw [s.disEnd_eq]
  exact disFrame_ite (disFrame_endWindrel _) (.refl _)

theorem State.r_disState_self (s : State) (v : Nat) (h : v < 8) : (s.w DIS_STS_STATE v).r DIS_STS_STATE = v :=
  (s.r_w_self _ _ (by decide) (by decide)).trans (Nat.mod_eq_of_lt h)

theorem State.state_disEnd (s : State) (done : Bool) : (s.disEnd done).r DIS_STS_STATE = if done then 5 else 6 := by
  rw [(disFrame_disEnd s done).state]
  cases done
  · exact State.r_disState_self _ 6 (by decide)
  · exact State.r_disState_self _ 5 (by decide)

theorem State.dis_disElapse (s : State) : s.disElapse.dis = s.dis ∧ s.disElapse.flt = s.flt := by
  unfold State.disElapse
  split
  · split <;> exact ⟨rfl, rfl⟩
  · exact ⟨rfl, rfl⟩

/-- The block's end holds no request and starts no reaction. -/
theorem State.noReaction_disEnd {s : State} (done : Bool) (h : s.NoReaction) : (s.disEnd done).NoReaction := by
  obtain ⟨hdis, hflt⟩ := s.dis_disElapse
  have hshown : s.disElapse.NoReaction := by
    constructor <;> simp only [hdis, hflt, h.current, h.queue, h.preempted, h.held]
  refine (disFrame_disEnd s done).noReaction ?_
  cases done <;> exact ⟨hshown.current, hshown.queue, hshown.preempted, hshown.held⟩

/-- A link at the target is DONE as DISCH is entered. -/
theorem State.disEnter_eq (s : State) :
    s.disEnter = if s.linkAtTarget then (s.w DIS_STS_STATE 3).disEnd true else s.w DIS_STS_STATE 3 := by
  have hlow := (faultFrame_disState s 3).linkAtTarget
  rw [← hlow]
  unfold State.disEnter
  cases hv : (s.w DIS_STS_STATE 3).vdc with
  | none => simp [State.linkAtTarget_none hv, hv]
  | some v => simp [State.linkAtTarget_some hv, hv]

theorem faultFrame_disEnter (s : State) : FaultFrame s s.disEnter := by
  rw [s.disEnter_eq]
  exact faultFrame_ite ((faultFrame_disState s 3).trans (faultFrame_disEnd _ true)) (faultFrame_disState s 3)

theorem State.state_disEnter (s : State) : s.disEnter.r DIS_STS_STATE = if s.linkAtTarget then 5 else 3 := by
  rw [s.disEnter_eq, apply_ite (fun x : State => x.r DIS_STS_STATE), State.state_disEnd, State.r_disState_self _ 3 (by decide)]
  rfl

/-- A request acts: it is no longer held, and the discharge begins. -/
def State.disBegun (s : State) : State := { s with dis := { s.dis with reqHeld := false } }.disBegin

theorem faultFrame_disBegun (s : State) : FaultFrame s s.disBegun := (faultFrame_dis s _).trans (faultFrame_disBegin _)

/-- A request from IDLE, DONE or FAIL begins a discharge: DONE with the link at the target, else CONFIRM. -/
theorem State.disAct_eq (s : State) (h : s.r DIS_STS_STATE = 0 ∨ s.r DIS_STS_STATE = 5 ∨ s.r DIS_STS_STATE = 6) :
    s.disAct = if s.linkAtTarget then s.disBegun.disDone else s.disBegun.w DIS_STS_STATE 1 := by
  have hact : s.disAct = (match s.disBegun.vdc with
    | some v => if v ≤ 1000 * (s.disBegun.r DIS_LIM_VTGT : Int) then s.disBegun.disDone else s.disBegun.w DIS_STS_STATE 1
    | none => s.disBegun.w DIS_STS_STATE 1) := if_pos h
  rw [hact, ← (faultFrame_disBegun s).linkAtTarget]
  cases hv : s.disBegun.vdc with
  | none => rw [State.linkAtTarget_none hv]; rfl
  | some v => rw [State.linkAtTarget_some hv]; simp

theorem State.state_disAct (s : State) (h : s.r DIS_STS_STATE = 0 ∨ s.r DIS_STS_STATE = 5 ∨ s.r DIS_STS_STATE = 6) :
    s.disAct.r DIS_STS_STATE = if s.linkAtTarget then 5 else 1 := by
  rw [s.disAct_eq h]
  split
  · exact State.r_disState_self _ 5 (by decide)
  · exact State.r_disState_self _ 1 (by decide)

theorem State.reqHeld_disAct (s : State) (h : s.r DIS_STS_STATE = 0 ∨ s.r DIS_STS_STATE = 5 ∨ s.r DIS_STS_STATE = 6) :
    s.disAct.dis.reqHeld = false := by
  rw [s.disAct_eq h]
  split <;> rfl

theorem faultFrame_disStart (s : State) : FaultFrame s s.disStart := faultFrame_ite (.refl s) (faultFrame_dis s _)

theorem faultFrame_disV0 (s : State) (v : Int) (mark : Nat) : FaultFrame s (s.disV0 v mark) :=
  (((FaultFrame.refl s).w DIS_MEAS_V0 _).w DIS_MEAS_HALVINGS 0).trans (faultFrame_dis _ _)

theorem State.r_disV0_other (s : State) (v : Int) (mark : Nat) (f : Fld) (hv0 : DIS_MEAS_V0.key ≠ f.key)
    (hhalvings : DIS_MEAS_HALVINGS.key ≠ f.key) : (s.disV0 v mark).r f = s.r f := by
  change ((s.w DIS_MEAS_V0 _).w DIS_MEAS_HALVINGS 0).r f = s.r f
  rw [State.r_w_other _ _ _ _ hhalvings, State.r_w_other _ _ _ _ hv0]

/-- FAIL with the flag of its cause, before the fault (R121). -/
def State.failedWith (s : State) (flag : Fld) : State := (s.disEnd false).w flag 1

section
variable {flag : Fld} (hflag : flag = DIS_STS_NOCONF ∨ flag = DIS_STS_INCOMPLETE)
include hflag

theorem State.flag_failedWith (s : State) : (s.failedWith flag).r flag = 1 := by
  rcases hflag with rfl | rfl <;> exact State.r_w_self _ _ _ (by decide) (by decide)

theorem State.state_failedWith (s : State) : (s.failedWith flag).r DIS_STS_STATE = 6 := by
  have hkey : flag.key ≠ DIS_STS_STATE.key := by rcases hflag with rfl | rfl <;> decide
  exact (State.r_w_other _ flag DIS_STS_STATE 1 hkey).trans (s.state_disEnd false)

theorem State.classOf_failedWith (s : State) (i : Nat) : (s.failedWith flag).classOf i = s.classOf i := by
  have hkeys : ∀ f ∈ classFlds, flag.key ≠ f.key := by rcases hflag with rfl | rfl <;> decide
  exact (State.classOf_w _ flag 1 i hkeys).trans ((faultFrame_disEnd s false).classOf i)

end

theorem State.mem_failedWith (s : State) (flag : Fld) : (s.failedWith flag).mem = s.mem := (faultFrame_disEnd s false).mem

theorem State.NoReaction.failedWith {s : State} (h : s.NoReaction) (flag : Fld) : (s.failedWith flag).NoReaction :=
  have hend := State.noReaction_disEnd false h
  ⟨hend.current, hend.queue, hend.preempted, hend.held⟩

/-- FAIL at the time limit: no discharge has been completed (R119). -/
def State.incomplete (s : State) : State :=
  { s.failedWith DIS_STS_INCOMPLETE with flt := { (s.failedWith DIS_STS_INCOMPLETE).flt with discharged := false } }

/-- OPENCONF in CONFIRM or PROBE enters DISCH, after what it clears and starts. -/
theorem State.disOpenconf_eq (s : State) (h : s.r DIS_STS_STATE = 1 ∨ s.r DIS_STS_STATE = 2) :
    ∃ x, FaultFrame s x ∧ s.disOpenconf = x.disEnter := by
  have hclear := faultFrame_autoClear s Fid.contactorNotOpen 0
  have hstate : (s.autoClear Fid.contactorNotOpen).r DIS_STS_STATE = s.r DIS_STS_STATE :=
    (clearFrame_autoClear s _ _).regs _ (by decide)
  rcases h with h | h
  · have hstart := hclear.trans (faultFrame_disStart (s.autoClear Fid.contactorNotOpen))
    unfold State.disOpenconf
    simp only [hstate, h, if_true]
    refine ⟨_, hstart.trans ?_, rfl⟩
    split
    · exact faultFrame_disV0 _ _ 0
    · exact ((FaultFrame.refl _).w DIS_MEAS_V0 0).trans (faultFrame_dis _ _)
  · refine ⟨_, hclear, ?_⟩
    simp [State.disOpenconf, hstate, h]

/-- Elapsed time starts with the registers and the clock as they were. -/
theorem State.disStart_frame (s : State) : s.disStart.regs = s.regs ∧ s.disStart.hoi = s.hoi := by
  unfold State.disStart
  split <;> exact ⟨rfl, rfl⟩

/-- A halving has not come in its time: WIND, with the discharge release asked for, before the fault (R122). -/
def State.windAsked (s : State) : State := ((s.w DIS_STS_STATE 4).w DIS_STS_SLOW 1).w DIS_STS_WINDREQ 1

theorem State.marks_windAsked (s : State) :
    s.windAsked.r DIS_STS_STATE = 4 ∧ s.windAsked.r DIS_STS_SLOW = 1 ∧ s.windAsked.r DIS_STS_WINDREQ = 1 := by
  refine ⟨?_, ?_, State.r_w_self _ _ _ (by decide) (by decide)⟩
  · rw [State.windAsked, State.r_w_other _ _ _ _ (by decide), State.r_w_other _ _ _ _ (by decide),
      State.r_disState_self _ 4 (by decide)]
  · rw [State.windAsked, State.r_w_other _ _ _ _ (by decide)]
    exact State.r_w_self _ _ _ (by decide) (by decide)

/-- A probe begins now. -/
def State.probeFrom (s : State) : State := { s with dis := { s.dis with probeAt := some s.nowU } }

/-! The commands under their conditions. -/

theorem State.on_of_live {s : State} {d : Domain} (h : s.live d = true) : s.on d = true := (Bool.and_eq_true_iff.mp h).1

theorem exec_dischargeRequest (who : Agent) (s : State) (hlive : s.live .pwm = true) (hmay : s.mayWrite who DIS_CTRL_REQ = true) :
    exec (.dischargeRequest who) s = .next (s.after s.disRequest) :=
  congrArg (fun x => Host.Outcome.next (s.after x)) (s.when_true _ _ (by simp [State.on_of_live hlive, hmay]))

section
variable {s : State} (hlive : s.disLive = true)
include hlive

theorem exec_probeStart (t : Nat) {v : Int} (hv : s.vdc = some v) (hstate : s.r DIS_STS_STATE = 1)
    (hinfer : s.b DIS_CFG_INFER = true) (hfree : ∀ p, s.dis.probeAt = some p → p + 200000000 ≤ (s.at t).nowU) :
    exec (.probeStart t) s = .next (s.after (((s.at t).disStart.disV0 v 0).w DIS_STS_STATE 2).probeFrom) := by
  have hv' : (s.at t).vdc = some v := hv
  have hready : (s.disLive && s.r DIS_STS_STATE == 1 && s.b DIS_CFG_INFER) = true := by simp [hlive, hstate, hinfer]
  refine congrArg (fun x => Host.Outcome.next (s.after x)) ?_
  simp only [hv']
  refine (s.at t).when_true _ _ (Bool.and_eq_true_iff.mpr ⟨hready, ?_⟩)
  split
  · next p hp => exact decide_eq_true (hfree p hp)
  · rfl

theorem exec_probeTimeout (t : Nat) {p : Nat} (hp : s.dis.probeAt = some p)
    (hdue : p + 200000 * s.r DIS_CFG_PROBET ≤ (s.at t).nowU) (hstate : s.r DIS_STS_STATE = 2) :
    exec (.probeTimeout t) s = .next (s.after (((s.at t).disElapse.w DIS_STS_STATE 1).w DIS_STS_CLOSED 1)) := by
  have hready : (s.disLive && s.r DIS_STS_STATE == 2) = true := by simp [hlive, hstate]
  refine congrArg (fun x => Host.Outcome.next (s.after x)) ((s.at t).when_true _ _ (Bool.and_eq_true_iff.mpr ⟨hready, ?_⟩))
  simp only [State.at_dis, hp]
  exact decide_eq_true hdue

theorem exec_openconf (t : Nat) (who : Agent) (hmay : s.mayWrite who DIS_CTRL_OPENCONF = true) :
    exec (.openconf t who) s = .next (s.after (s.at t).disOpenconf) :=
  congrArg (fun x => Host.Outcome.next (s.after x))
    ((s.at t).when_true (s.disLive && s.mayWrite who DIS_CTRL_OPENCONF) _ (by simp [hlive, hmay]))

theorem exec_confirmTimeout (t : Nat) (hstate : s.r DIS_STS_STATE = 1)
    (hdue : s.dis.reqAt + 200000000 * s.r DIS_CFG_CONFT ≤ (s.at t).nowU) :
    exec (.confirmTimeout t) s =
      .next (s.after (((s.at t).failedWith DIS_STS_NOCONF).raise Fid.contactorNotOpen)) := by
  have hready : (s.disLive && s.r DIS_STS_STATE == 1) = true := by simp [hlive, hstate]
  exact congrArg (fun x => Host.Outcome.next (s.after x))
    ((s.at t).when_true _ _ (Bool.and_eq_true_iff.mpr ⟨hready, decide_eq_true hdue⟩))

theorem exec_halvingTimeout (t : Nat) {v0 : Int} {f : Nat} (hv : s.vdc.isSome = true) (hv0 : s.dis.v0 = some v0)
    (hfrom : s.dis.halfFrom = some f) (hstate : s.r DIS_STS_STATE = 3) (hchecking : s.disChecking v0 = true)
    (hdue : 200000 * s.r DIS_THALF_THALF ≤ s.dis.halfAcc + ((s.at t).nowU - f) - s.dis.halfMark) :
    exec (.halvingTimeout t) s = .next (s.after ((s.at t).windAsked.raise Fid.dischargeSlow)) := by
  have hready : (s.disLive && s.r DIS_STS_STATE == 3 && s.vdc.isSome) = true := by simp [hlive, hstate, hv]
  have hlate : msU ((s.at t).r DIS_THALF_THALF) ≤ (s.at t).disRun - (s.at t).dis.halfMark := by
    simp only [State.disRun, State.at_dis, hfrom]
    exact hdue
  refine congrArg (fun x => Host.Outcome.next (s.after x)) ((s.at t).when_true _ _ (Bool.and_eq_true_iff.mpr ⟨hready, ?_⟩))
  simp only [State.at_dis, hv0, hfrom]
  exact Bool.and_eq_true_iff.mpr ⟨hchecking, decide_eq_true hlate⟩

theorem exec_dischargeTimeLimit (t : Nat) {p : Nat} (hp : s.dis.startAt = some p)
    (hdue : p + 200000 * s.r DIS_LIM_TMAX ≤ (s.at t).nowU) (hstate : s.r DIS_STS_STATE = 3 ∨ s.r DIS_STS_STATE = 4) :
    exec (.dischargeTimeLimit t) s = .next (s.after (if s.linkAtTarget then (s.at t).disEnd true
      else (s.at t).incomplete.raise Fid.dischargeIncomplete)) := by
  have hready : (s.disLive && (s.r DIS_STS_STATE == 3 || s.r DIS_STS_STATE == 4)) = true := by
    rcases hstate with h | h <;> simp [hlive, h]
  have htarget : (s.at t).linkAtTarget = s.linkAtTarget := rfl
  refine congrArg (fun x => Host.Outcome.next (s.after x))
    (((s.at t).when_true _ _ (Bool.and_eq_true_iff.mpr ⟨hready, ?_⟩)).trans ?_)
  · simp only [State.at_dis, hp]
    exact decide_eq_true hdue
  · rw [← htarget]
    rfl

end

/-! The faults of the block (R119). -/

theorem State.classOf_contactorNotOpen {s : State} (h : s.escOf Fid.contactorNotOpen = []) :
    s.classOf Fid.contactorNotOpen = .C := by
  unfold State.classOf
  rw [h]
  rfl

theorem State.classOf_dischargeIncomplete {s : State} (h : s.escOf Fid.dischargeIncomplete = []) :
    s.classOf Fid.dischargeIncomplete = .B := by
  unfold State.classOf
  rw [h]
  rfl

/-- Settles O23: each command's effect under its conditions, and what its fault leaves: no raise begins a discharge in WIND, nor in
FAIL with no reaction, no escalation and no request held. -/
theorem dischargeStatesAndTimes : Obligations.DischargeStatesAndTimes := by
  unfold Obligations.DischargeStatesAndTimes
  intro s hpwm hlive h5 h6 calm
  have hfree : s.tested 10 = false := by
    simpa using (Bool.and_eq_true_iff.mp hlive).2
  refine ⟨fun who hmay hrest hstate => ?request, fun who hmay hdrive => ?held, fun t v hv hstate hinfer hfree => ?probe,
    fun t p hp hdue hstate => ?probed, fun t who hmay hstate => ?opened, fun t hstate hdue => ?unconfirmed,
    fun t v v0 f hv hv0 hfrom hstate hchecking hdue => ?slow,
    fun t p hp hdue hstate => ⟨fun v hv hlow => ?reached, fun hhigh => ?limit⟩⟩
  case request =>
    have hact : s.disRequest = s.disAct := if_pos (by simp [hpwm, hrest, hfree, h5, h6])
    refine ⟨_, exec_dischargeRequest who s hpwm hmay, ?_⟩
    rw [hact]
    refine ⟨State.keepsMem_after (faultFrame_disAct s).mem, s.reqHeld_disAct hstate, ?_⟩
    rw [State.after_r, s.state_disAct hstate, State.linkAtTarget]
    cases s.vdc <;> simp
  case held =>
    have hheld : s.disRequest = { s with dis := { s.dis with reqHeld := true } } := if_neg (by simp [hdrive])
    rw [exec_dischargeRequest who s hpwm hmay, hheld]
  case probe =>
    obtain ⟨hregs, hhoi⟩ := (s.at t).disStart_frame
    have hnow : (s.at t).disStart.nowU = (s.at t).nowU := by rw [State.nowU, State.nowU, hhoi]
    refine ⟨_, exec_probeStart hlive t hv hstate hinfer hfree, State.r_disState_self _ 2 (by decide), rfl,
      congrArg some hnow, fun f hf => ?_, State.keepsMem_after ?_⟩
    · simp only [List.map_cons, List.map_nil, List.mem_cons, List.not_mem_nil, or_false, not_or] at hf
      obtain ⟨hstate, hv0, hhalvings⟩ := hf
      have hstart : (s.at t).disStart.r f = s.r f := by rw [State.r, hregs]; rfl
      change (((s.at t).disStart.disV0 v 0).w DIS_STS_STATE 2).r f = s.r f
      rw [State.r_w_other _ _ _ _ (Ne.symm hstate), State.r_disV0_other _ _ _ _ (Ne.symm hv0) (Ne.symm hhalvings), hstart]
    · exact (faultFrame_disStart (s.at t)).mem
  case probed =>
    refine ⟨_, exec_probeTimeout hlive t hp hdue hstate, ?_, ?_, State.keepsMem_after (faultFrame_disElapse (s.at t)).mem⟩
    · rw [State.after_r, State.r_w_other _ _ _ _ (by decide), State.r_disState_self _ 1 (by decide)]
    · rw [State.after_r, State.r_w_self _ _ _ (by decide) (by decide)]
      rfl
  case opened =>
    obtain ⟨x, hframe, hopen⟩ := (s.at t).disOpenconf_eq hstate
    refine ⟨_, exec_openconf hlive t who hmay, ?_⟩
    rw [hopen]
    refine ⟨State.keepsMem_after ((faultFrame_disEnter x).mem.trans hframe.mem), ?_⟩
    have htarget : x.linkAtTarget = s.linkAtTarget := hframe.linkAtTarget
    rw [State.after_r, x.state_disEnter, htarget, State.linkAtTarget]
    cases s.vdc <;> simp
  case unconfirmed =>
    have hraise := faultFrame_raise ((s.at t).failedWith DIS_STS_NOCONF) Fid.contactorNotOpen 0
    refine ⟨_, exec_confirmTimeout hlive t hstate hdue, ?_, hraise.keepsMem_after ((s.at t).mem_failedWith _), fun hcalm => ?_⟩
    · rw [State.after_r, hraise.regs _ (by decide), State.flag_failedWith (.inl rfl)]
    · obtain ⟨hcurrent, hqueue, hpreempted, hesc, hheld⟩ := hcalm
      have hquiet : (s.at t).NoReaction := ⟨hcurrent, hqueue, hpreempted, hheld⟩
      have hclass := (State.classOf_failedWith (.inl rfl) (s.at t) _).trans (State.classOf_contactorNotOpen hesc)
      obtain ⟨hkept, hactive⟩ := disKept_raise_calm _ Fid.contactorNotOpen 0 (hquiet.failedWith DIS_STS_NOCONF)
        (by rw [hclass]; decide)
      refine ⟨?_, (State.after_hasFault s _ _).trans hactive⟩
      rw [State.after_r, hkept.state, State.state_failedWith (.inl rfl)]
  case slow =>
    obtain ⟨hstate', hslow, hwind⟩ := (s.at t).marks_windAsked
    have hbusy : (s.at t).windAsked.disBusy = true := by simp [State.disBusy, hstate']
    have hraise := faultFrame_raise (s.at t).windAsked Fid.dischargeSlow 0
    obtain ⟨hkept, hactive⟩ := disKept_raise_busy (s.at t).windAsked Fid.dischargeSlow 0 hbusy
    refine ⟨_, exec_halvingTimeout hlive t (by simp [hv]) hv0 hfrom hstate hchecking hdue, ?_,
      (State.after_hasFault s _ _).trans hactive,
      hraise.keepsMem_after rfl, fun _ => ⟨?_, ?_⟩⟩
    · rw [State.after_r, hraise.regs _ (by decide), hslow]
    · rw [State.after_r, hkept.state, hstate']
    · rw [State.after_r, hkept.windreq, hwind]
  case reached =>
    have htarget : s.linkAtTarget = true := (State.linkAtTarget_some hv).trans (decide_eq_true hlow)
    refine ⟨_, exec_dischargeTimeLimit hlive t hp hdue hstate, ?_⟩
    rw [if_pos htarget]
    exact ⟨(s.at t).state_disEnd true, State.keepsMem_after (faultFrame_disEnd (s.at t) true).mem⟩
  case limit =>
    have htarget : s.linkAtTarget = false := by
      cases hv : s.vdc with
      | none => exact State.linkAtTarget_none hv
      | some v => exact (State.linkAtTarget_some hv).trans (decide_eq_false (hhigh v hv))
    have hraise := faultFrame_raise (s.at t).incomplete Fid.dischargeIncomplete 0
    refine ⟨_, exec_dischargeTimeLimit hlive t hp hdue hstate, ?_⟩
    rw [if_neg (by simp [htarget])]
    refine ⟨?_, s.raised_after_raise _ _ 0 (by decide), hraise.keepsMem_after ((s.at t).mem_failedWith DIS_STS_INCOMPLETE),
      fun hcalm => ?_⟩
    · rw [State.after_r, hraise.regs _ (by decide)]
      exact State.flag_failedWith (.inr rfl) (s.at t)
    · obtain ⟨hcurrent, hqueue, hpreempted, hesc, hheld⟩ := hcalm
      have hquiet : (s.at t).NoReaction := ⟨hcurrent, hqueue, hpreempted, hheld⟩
      have hfailed := hquiet.failedWith DIS_STS_INCOMPLETE
      have hclass : (s.at t).incomplete.classOf Fid.dischargeIncomplete = .B :=
        (State.classOf_failedWith (.inr rfl) (s.at t) _).trans (State.classOf_dischargeIncomplete hesc)
      obtain ⟨hkept, -⟩ := disKept_raise_calm (s.at t).incomplete Fid.dischargeIncomplete 0
        ⟨hfailed.current, hfailed.queue, hfailed.preempted, hfailed.held⟩ (by rw [hclass]; decide)
      rw [State.after_r, hkept.state]
      exact State.state_failedWith (.inr rfl) (s.at t)

end Sys2Proof.Machine
end

section
/-!
What the operations of POS keep: its announcements of events and faults, its counters, its edge timers, and the clearing of its faults.
-/
namespace Sys2Proof.Machine

open Reg

/-! Announcements (R153, R158, R173). -/

/-- What an event or a fault of POS and the clearing of a fault keep: memory, time, POS's own state, and every field but POS_IRQ.EVT
and those of the fault path. -/
structure NoteFrame (s u : State) : Prop where
  regs : ∀ f : Fld, f.key ∉ (POS_IRQ_EVT :: faultFlds).map Fld.key → u.r f = s.r f
  mem : u.mem = s.mem
  hoi : u.hoi = s.hoi
  pos : u.pos = s.pos

theorem NoteFrame.refl (s : State) : NoteFrame s s := ⟨fun _ _ => rfl, rfl, rfl, rfl⟩

theorem NoteFrame.trans {s u v : State} (h : NoteFrame s u) (g : NoteFrame u v) : NoteFrame s v :=
  ⟨fun f hf => (g.regs f hf).trans (h.regs f hf), g.mem.trans h.mem, g.hoi.trans h.hoi, g.pos.trans h.pos⟩

theorem FaultFrame.note {s u : State} (h : FaultFrame s u) : NoteFrame s u :=
  ⟨fun f hf => h.regs f (fun hp => hf (List.mem_cons_of_mem _ hp)), h.mem, h.hoi, h.pos⟩

theorem noteFrame_ite {p : Prop} [Decidable p] {s u v : State} (h : NoteFrame s u) (g : NoteFrame s v) :
    NoteFrame s (if p then u else v) := by
  split
  · exact h
  · exact g

theorem noteFrame_posIrq (s : State) (k : Nat) : NoteFrame s (s.posIrq k) :=
  ⟨fun f hf => s.r_setBit_other _ f k (fun e => hf (e ▸ List.mem_cons_self)), rfl, rfl, rfl⟩

theorem noteFrame_autoClear (s : State) (id d : Nat) : NoteFrame s (s.autoClear id d) := (faultFrame_autoClear s id d).note

theorem noteFrame_posFault (s : State) (id d : Nat) : NoteFrame s (s.posFault id d) :=
  (noteFrame_posIrq s 8).trans (faultFrame_raise _ id d).note

/-- A fault that POS raises is active (R404). -/
theorem hasFault_posFault (s : State) (id d : Nat) (h : id ∉ disClears) : (s.posFault id d).hasFault id = true :=
  hasFault_raise (s.posIrq 8) id d h

/-- A fault that POS raises keeps the other active faults. -/
theorem keepsActive_posFault (s : State) (id d : Nat) : KeepsActive s (s.posFault id d) :=
  KeepsActive.trans (.of rfl) (keepsActive_raise (s.posIrq 8) id d)

/-! Saturating counters. -/

@[simp] theorem State.bumpSat_mem (s : State) (f : Fld) : (s.bumpSat f).mem = s.mem := by unfold State.bumpSat; split <;> rfl
@[simp] theorem State.bumpSat_pos (s : State) (f : Fld) : (s.bumpSat f).pos = s.pos := by unfold State.bumpSat; split <;> rfl

theorem State.r_bumpSat_other (s : State) (k j : Fld) (h : k.key ≠ j.key) : (s.bumpSat k).r j = s.r j := by
  unfold State.bumpSat
  split
  · exact s.r_w_other k j _ h
  · rfl

/-- A counter within its width goes up by one, or stays at its end. -/
theorem State.r_bumpSat_self (s : State) (f : Fld) {top : Nat} (htop : 2 ^ f.width = top + 1) (hw : f.width ≤ 32)
    (hr : f.reset < 2 ^ 32) (h : s.r f ≤ top) : (s.bumpSat f).r f = min top (s.r f + 1) := by
  unfold State.bumpSat
  split
  case isTrue hlt =>
    rw [s.r_w_self f _ hw hr, Nat.mod_eq_of_lt hlt]
    omega
  case isFalse hge => omega

/-- An illegal transition is marked and counted (R156, R167). -/
def State.illNoted (s : State) : State := (s.w POS_STS_ILL_ERR 1).bumpSat POS_EIDXERR_ILLCNT

@[simp] theorem State.illNoted_mem (s : State) : s.illNoted.mem = s.mem := State.bumpSat_mem _ _
@[simp] theorem State.illNoted_pos (s : State) : s.illNoted.pos = s.pos := State.bumpSat_pos _ _

theorem State.r_illNoted_err (s : State) : s.illNoted.r POS_STS_ILL_ERR = 1 := by
  rw [State.illNoted, State.r_bumpSat_other _ _ _ (by decide)]
  exact s.r_w_self _ _ (by decide) (by decide)

theorem State.r_illNoted_cnt (s : State) (h : s.r POS_EIDXERR_ILLCNT ≤ 255) :
    s.illNoted.r POS_EIDXERR_ILLCNT = min 255 (s.r POS_EIDXERR_ILLCNT + 1) := by
  have hmarked : (s.w POS_STS_ILL_ERR 1).r POS_EIDXERR_ILLCNT = s.r POS_EIDXERR_ILLCNT := s.r_w_other _ _ _ (by decide)
  rw [State.illNoted, State.r_bumpSat_self _ _ (top := 255) (by decide) (by decide) (by decide) (by rwa [hmarked]), hmarked]

theorem State.r_illNoted_other (s : State) (f : Fld) (herr : POS_STS_ILL_ERR.key ≠ f.key) (hcnt : POS_EIDXERR_ILLCNT.key ≠ f.key) :
    s.illNoted.r f = s.r f := by
  rw [State.illNoted, State.r_bumpSat_other _ _ _ hcnt, State.r_w_other _ _ _ _ herr]

/-! Edge timers (R169). -/

theorem State.setTimer_enc (s : State) (src : Nat) (e : EdgeTimer) : (s.setTimer src e).pos.enc = s.pos.enc := by
  unfold State.setTimer
  rw [State.modPos_pos]
  split
  · rfl
  · split <;> rfl

theorem State.setTimer_sector (s : State) (src : Nat) (e : EdgeTimer) : (s.setTimer src e).pos.sector = s.pos.sector := by
  unfold State.setTimer
  rw [State.modPos_pos]
  split
  · rfl
  · split <;> rfl

/-- A counted edge goes to its source's timer; a turn is announced. -/
theorem State.countEdge_eq (s : State) (src t : Nat) (fwd : Bool) : s.countEdge src t fwd =
    if ((s.timer src).edge (s.spanAt src) t fwd).2 then (s.setTimer src ((s.timer src).edge (s.spanAt src) t fwd).1).posIrq src
    else s.setTimer src ((s.timer src).edge (s.spanAt src) t fwd).1 := rfl

theorem noteFrame_countEdge (s : State) (src t : Nat) (fwd : Bool) :
    NoteFrame (s.setTimer src ((s.timer src).edge (s.spanAt src) t fwd).1) (s.countEdge src t fwd) :=
  noteFrame_ite (noteFrame_posIrq _ src) (.refl _)

theorem State.r_countEdge (s : State) (src t : Nat) (fwd : Bool) (f : Fld) (h : POS_IRQ_EVT.key ≠ f.key) :
    (s.countEdge src t fwd).r f = s.r f := by
  rw [s.countEdge_eq]
  split
  · exact State.r_setBit_other _ _ f src h
  · rfl

theorem State.countEdge_mem (s : State) (src t : Nat) (fwd : Bool) : (s.countEdge src t fwd).mem = s.mem :=
  (noteFrame_countEdge s src t fwd).mem

theorem State.countEdge_enc (s : State) (src t : Nat) (fwd : Bool) : (s.countEdge src t fwd).pos.enc = s.pos.enc :=
  (congrArg Pos.enc (noteFrame_countEdge s src t fwd).pos).trans (s.setTimer_enc src _)

theorem State.countEdge_sector (s : State) (src t : Nat) (fwd : Bool) : (s.countEdge src t fwd).pos.sector = s.pos.sector :=
  (congrArg Pos.sector (noteFrame_countEdge s src t fwd).pos).trans (s.setTimer_sector src _)

theorem State.countEdge_motor (s : State) (t : Nat) (fwd : Bool) :
    (s.countEdge 0 t fwd).pos.motor = (s.pos.motor.edge (s.spanAt 0) t fwd).1 :=
  congrArg Pos.motor (noteFrame_countEdge s 0 t fwd).pos

end Sys2Proof.Machine
end

section
/-!
The statement about the resolver, the encoder with its index and wires, and the Hall sensors.
-/
namespace Sys2Proof.Machine

open Reg

/-! The resolver (R151 to R153). -/

/-- AMP of a demodulated pair lies within its limits (R153). -/
def State.ampInRange (s : State) (a2 : Nat) : Prop := s.r POS_RLIM_AMIN ^ 2 ≤ a2 ∧ a2 ≤ s.r POS_RLIM_AMAX ^ 2

/-- What the direction and the checks of a sample keep of what its loop and its amplitude have set. -/
structure ResKept (s u : State) : Prop where
  mem : u.mem = s.mem
  amp : u.r POS_RANG_AMP = s.r POS_RANG_AMP
  pos : { u.pos with resValid := s.pos.resValid, resDirFwd := s.pos.resDirFwd } = s.pos

theorem ResKept.refl (s : State) : ResKept s s := ⟨rfl, rfl, rfl⟩

theorem ResKept.trans {s u v : State} (h : ResKept s u) (g : ResKept u v) : ResKept s v where
  mem := g.mem.trans h.mem
  amp := g.amp.trans h.amp
  pos := by
    have hu := h.pos
    rw [← g.pos] at hu
    exact hu

theorem NoteFrame.resKept {s u : State} (h : NoteFrame s u) : ResKept s u :=
  ⟨h.mem, h.regs POS_RANG_AMP (by decide), by rw [h.pos]⟩

theorem resKept_ite {p : Prop} [Decidable p] {s u v : State} (h : ResKept s u) (g : ResKept s v) :
    ResKept s (if p then u else v) := by
  split
  · exact h
  · exact g

theorem resKept_direction (s : State) (fwd : Bool) : ResKept s (s.modPos (fun p => { p with resDirFwd := fwd })) := ⟨rfl, rfl, rfl⟩
theorem resKept_valid (s : State) (v : Bool) : ResKept s (s.modPos (fun p => { p with resValid := v })) := ⟨rfl, rfl, rfl⟩

/-- A check of R152 or R153 fails: its flag is set, the resolver is invalid and the fault is raised. -/
def State.resFails (s : State) (flag : Fld) (id : Nat) : State :=
  ((s.w flag 1).modPos (fun p => { p with resValid := false })).posFault id

theorem resKept_resFails (s : State) (flag : Fld) (id : Nat) (h : flag.key ≠ POS_RANG_AMP.key) : ResKept s (s.resFails flag id) :=
  have hflag : ResKept s (s.w flag 1) := ⟨rfl, s.r_w_other flag _ 1 h, rfl⟩
  (hflag.trans (resKept_valid _ false)).trans (noteFrame_posFault _ id 0).resKept

theorem State.resValid_resFails (s : State) (flag : Fld) (id : Nat) : (s.resFails flag id).pos.resValid = false :=
  congrArg Pos.resValid (noteFrame_posFault _ id 0).pos

theorem State.r_resFails (s : State) (flag : Fld) (id : Nat) (f : Fld) (hf : f.key ∉ (POS_IRQ_EVT :: faultFlds).map Fld.key) :
    (s.resFails flag id).r f = (s.w flag 1).r f := (noteFrame_posFault _ id 0).regs f hf

/-- The resolver is valid again, and its faults end (R152, R153). -/
def State.resRegained (s : State) : State :=
  ((s.modPos (fun p => { p with resValid := true })).autoClear Fid.resolverSignal).autoClear Fid.resolverTracking

theorem resKept_resRegained (s : State) : ResKept s s.resRegained :=
  (resKept_valid s true).trans ((noteFrame_autoClear _ _ 0).trans (noteFrame_autoClear _ _ 0)).resKept

/-- What a demodulated pair with its peak at `now` and the amplitude's square `a2` makes of a state (R152, R153). -/
structure ResTaken (s u : State) (a2 now : Nat) : Prop where
  mem : u.mem = s.mem
  peak : u.pos.resPeak = now
  angle : u.pos.resAngle < 65536
  amp : u.r POS_RANG_AMP = Nat.sqrt a2 % 2 ^ POS_RANG_AMP.width
  inside : s.ampInRange a2 → u.pos.resAmpBad = 0 ∧ u.pos.resLost = false
  outside : ¬ s.ampInRange a2 → u.pos.resAmpBad = s.pos.resAmpBad + 1

theorem ResTaken.kept {s x u : State} {a2 now : Nat} (h : ResTaken s x a2 now) (g : ResKept x u) : ResTaken s u a2 now where
  mem := g.mem.trans h.mem
  peak := (congrArg Pos.resPeak g.pos).trans h.peak
  angle := by
    have hangle : u.pos.resAngle = x.pos.resAngle := (congrArg Pos.resAngle g.pos :)
    exact hangle ▸ h.angle
  amp := g.amp.trans h.amp
  inside hin := ⟨(congrArg Pos.resAmpBad g.pos).trans (h.inside hin).1, (congrArg Pos.resLost g.pos).trans (h.inside hin).2⟩
  outside hout := (congrArg Pos.resAmpBad g.pos).trans (h.outside hout)

/-- The loop and the amplitude set what a sample publishes; the direction, the two checks and the entry condition keep it. -/
theorem resTaken_resolverPair (s : State) (sn cs : Int) (now : Nat) :
    ResTaken s (s.resolverPair sn cs now) (ampSq sn cs) now := by
  unfold State.resolverPair
  extract_lets dt key ang vel err a2 inRange ampBad trkBad good lim slow slowAt still lost rslos tracked shown fwd turned directed
    signal track
  have hrange : inRange = true ↔ s.ampInRange a2 := by simp [inRange, State.ampInRange]
  have hshown : ResTaken s shown a2 now :=
    { mem := rfl
      peak := rfl
      angle := (Int.toNat_lt' (by decide)).mpr (Int.emod_lt_of_pos _ (by decide))
      amp := State.r_w_self _ _ _ (by decide) (by decide)
      inside := fun hin => ⟨if_pos (hrange.mpr hin), congrArg (!· && _) (hrange.mpr hin)⟩
      outside := fun hout => if_neg (fun h => hout (hrange.mp h)) }
  have hdirected : ResKept shown directed :=
    resKept_ite (resKept_ite ((resKept_direction _ fwd).trans (noteFrame_posIrq _ 0).resKept) (resKept_direction _ fwd)) (.refl _)
  have hsignal : ResKept directed signal := resKept_ite (resKept_resFails _ POS_STS_RSLOS _ (by decide)) (.refl _)
  have htrack : ResKept signal track := resKept_ite (resKept_resFails _ POS_STS_RSTRK _ (by decide)) (.refl _)
  exact hshown.kept (hdirected.trans (hsignal.trans (htrack.trans (resKept_ite (resKept_resRegained track) (.refl track)))))

/-- RLOSN samples in a row out of range: the signal is lost, and no later step of the sample takes that back (R153). -/
theorem State.resolverPair_lost (s : State) (sn cs : Int) (now : Nat) (hout : ¬ s.ampInRange (ampSq sn cs))
    (hrun : max 1 (s.r POS_RLIM_RLOSN) ≤ s.pos.resAmpBad + 1) (hfirst : s.pos.resLost = false) :
    (s.resolverPair sn cs now).pos.resValid = false ∧ (s.resolverPair sn cs now).r POS_STS_RSLOS = 1 ∧
    (s.resolverPair sn cs now).hasFault Fid.resolverSignal = true := by
  unfold State.resolverPair
  extract_lets dt key ang vel err a2 inRange ampBad trkBad good lim slow slowAt still lost rslos tracked shown fwd turned directed
    signal track
  have hin : inRange = false := by
    refine Bool.eq_false_iff.mpr (fun h => hout ?_)
    simpa [inRange, a2, State.ampInRange] using h
  have hrslos : rslos = true := by simp [rslos, lost, ampBad, hin, hrun, hfirst]
  have hgood : good = 0 := by simp [good, hin]
  have hsignal : signal = directed.resFails POS_STS_RSLOS Fid.resolverSignal := if_pos hrslos
  have hlost : signal.pos.resValid = false ∧ signal.r POS_STS_RSLOS = 1 ∧ signal.hasFault Fid.resolverSignal = true := by
    rw [hsignal]
    refine ⟨State.resValid_resFails _ _ _, ?_, hasFault_posFault _ _ 0 (by decide)⟩
    rw [State.r_resFails _ _ _ _ (by decide)]
    exact State.r_w_self _ _ _ (by decide) (by decide)
  have htrack : track = if trkBad = 16 then signal.resFails POS_STS_RSTRK Fid.resolverTracking else signal := rfl
  rw [if_neg (by simp [hgood]), htrack]
  obtain ⟨hvalid, hflag, hactive⟩ := hlost
  split
  case isFalse => exact ⟨hvalid, hflag, hactive⟩
  case isTrue =>
    refine ⟨State.resValid_resFails _ _ _, ?_, keepsActive_posFault _ _ 0 _ (by decide) hactive⟩
    rw [State.r_resFails _ _ _ _ (by decide), State.r_w_other _ _ _ _ (by decide), hflag]

/-! The count (R155, R156, R158, R159). -/

/-- One input changes: the count moves by one, and the timer takes the edge (R155, R169). -/
theorem State.encEdge_one (s : State) (e : PairEdge) (h : (e.a && e.b) = false) :
    (s.encEdge e).pos.enc = (if e.up then s.pos.enc + 1 else s.pos.enc - 1) ∧
    (s.encEdge e).pos.motor = (s.pos.motor.edge (s.spanAt 0) (s.nowU - e.ago) e.up).1 ∧ (s.encEdge e).mem = s.mem ∧
    ∀ f : Fld, POS_IRQ_EVT.key ≠ f.key → (s.encEdge e).r f = s.r f := by
  have hedge : s.encEdge e = (s.modPos (fun p => { p with enc := if e.up then p.enc + 1 else p.enc - 1 })).countEdge 0
      (s.nowU - e.ago) e.up := if_neg (by simp [h])
  rw [hedge, State.countEdge_enc, State.countEdge_motor, State.countEdge_mem]
  exact ⟨rfl, rfl, rfl, fun f hf => State.r_countEdge _ 0 _ _ f hf⟩

/-- An illegal transition is counted in its outer cycle (R156). -/
def State.illCounted (s : State) : State := s.illNoted.modPos (fun p => { p with illInOuter := p.illInOuter + 1 })

@[simp] theorem State.illCounted_mem (s : State) : s.illCounted.mem = s.mem := s.illNoted_mem
@[simp] theorem State.illCounted_pos (s : State) : s.illCounted.pos = { s.pos with illInOuter := s.pos.illInOuter + 1 } := by
  rw [State.illCounted, State.modPos_pos, s.illNoted_pos]
@[simp] theorem State.illCounted_r (s : State) (f : Fld) : s.illCounted.r f = s.illNoted.r f := rfl

theorem State.encIllegal_eq (s : State) : s.encIllegal =
    if s.illCounted.pos.illInOuter = max 1 (s.illCounted.r POS_ECFG_ILLN) then
      (s.illCounted.modPos (fun p => { p with illFault := true })).posFault Fid.encIllegal
    else s.illCounted := rfl

/-- What an illegal transition leaves beside its own marks. -/
structure IllKept (s u : State) : Prop where
  mem : u.mem = s.mem
  enc : u.pos.enc = s.pos.enc
  motor : u.pos.motor = s.pos.motor
  err : u.r POS_STS_ILL_ERR = 1
  cnt : u.r POS_EIDXERR_ILLCNT = min 255 (s.r POS_EIDXERR_ILLCNT + 1)

theorem State.illKept_encIllegal (s : State) (hcnt : s.r POS_EIDXERR_ILLCNT ≤ 255) : IllKept s s.encIllegal := by
  have hcounted : IllKept s s.illCounted :=
    ⟨s.illCounted_mem, by rw [s.illCounted_pos], by rw [s.illCounted_pos],
      (s.illCounted_r _).trans s.r_illNoted_err, (s.illCounted_r _).trans (s.r_illNoted_cnt hcnt)⟩
  rw [s.encIllegal_eq]
  split
  case isFalse => exact hcounted
  case isTrue =>
    have hnote := noteFrame_posFault (s.illCounted.modPos (fun p => { p with illFault := true })) Fid.encIllegal 0
    refine ⟨hnote.mem.trans hcounted.mem, (congrArg Pos.enc hnote.pos).trans hcounted.enc,
      (congrArg Pos.motor hnote.pos).trans hcounted.motor, ?_, ?_⟩
    · rw [hnote.regs _ (by decide), State.modPos_r, hcounted.err]
    · rw [hnote.regs _ (by decide), State.modPos_r, hcounted.cnt]

/-- The ILLN-th illegal transition of an outer cycle makes the fault active (R156). -/
theorem State.encIllegal_last (s : State) (h : s.pos.illInOuter + 1 = max 1 (s.r POS_ECFG_ILLN)) :
    s.encIllegal.pos.illFault = true ∧ s.encIllegal.hasFault Fid.encIllegal = true := by
  have hlast : s.illCounted.pos.illInOuter = max 1 (s.illCounted.r POS_ECFG_ILLN) := by
    rw [s.illCounted_pos, s.illCounted_r, s.r_illNoted_other _ (by decide) (by decide), ← h]
  rw [s.encIllegal_eq, if_pos hlast]
  exact ⟨congrArg Pos.illFault (noteFrame_posFault _ _ 0).pos, hasFault_posFault _ _ 0 (by decide)⟩

theorem State.cpr_pos (s : State) : 0 < s.cpr := by
  unfold State.cpr
  extract_lets c
  split <;> omega

theorem State.encMod_congr {s u : State} (henc : u.pos.enc = s.pos.enc) (hcpr : u.r POS_ECPR_CPR = s.r POS_ECPR_CPR) :
    u.encMod = s.encMod := by
  unfold State.encMod State.cpr
  rw [henc, hcpr]

/-- With the whole turns within 32 bits, the count modulo CPR is the value it is put at (R158, R159). -/
theorem State.encMod_encSet (s : State) (v : Nat) (hv : v < s.cpr) (hcpr : s.cpr ≤ 1048575)
    (henc : s.pos.enc.toInt.natAbs ≤ 2 ^ 31 - 2 ^ 21) : (s.encSet v).encMod = v := by
  have hpos : (0 : Int) < s.cpr := Int.natCast_pos.mpr s.cpr_pos
  have hturn : 0 ≤ s.encMod ∧ s.encMod < s.cpr := ⟨Int.emod_nonneg _ (Int.ne_of_gt hpos), Int.emod_lt_of_pos _ hpos⟩
  have hexact : (BitVec.ofInt 32 (s.pos.enc.toInt - s.encMod + v)).toInt = s.pos.enc.toInt - s.encMod + v := by
    rw [BitVec.toInt_ofInt]
    exact Int.bmod_eq_of_le (by omega) (by omega)
  have hwhole : s.pos.enc.toInt - s.encMod = s.cpr * (s.pos.enc.toInt / s.cpr) := by
    have := Int.mul_ediv_add_emod s.pos.enc.toInt s.cpr
    unfold State.encMod
    omega
  change (BitVec.ofInt 32 (s.pos.enc.toInt - s.encMod + v)).toInt % (s.cpr : Int) = v
  rw [hexact, hwhole, Int.mul_add_emod_self_left]
  exact Int.emod_eq_of_lt (by omega) (by omega)

/-- The count is referenced: its value, IDXSEEN and MISSRUN, and whether the next index event is the first. -/
def State.referenced (s : State) (v : Nat) (first : Bool) : State :=
  (((s.encSet v).w POS_STS_IDXSEEN 1).w POS_EIDXERR_MISSRUN 0).modPos (fun p => { p with idxFirst := first })

/-- What a referenced count reads. -/
structure RefTaken (s u : State) (v : Nat) (first : Bool) : Prop where
  mem : u.mem = s.mem
  count : u.encMod = v
  seen : u.r POS_STS_IDXSEEN = 1
  missed : u.r POS_EIDXERR_MISSRUN = 0
  first : u.pos.idxFirst = first

theorem State.refTaken_referenced (s : State) (v : Nat) (first : Bool) (hv : v < s.cpr) (hcpr : s.cpr ≤ 1048575)
    (henc : s.pos.enc.toInt.natAbs ≤ 2 ^ 31 - 2 ^ 21) : RefTaken s (s.referenced v first) v first where
  mem := rfl
  count := by
    refine (State.encMod_congr (s := s.encSet v) (u := s.referenced v first) rfl ?_).trans (s.encMod_encSet v hv hcpr henc)
    rw [State.referenced, State.modPos_r, State.r_w_other _ _ _ _ (by decide), State.r_w_other _ _ _ _ (by decide)]
  seen := by
    rw [State.referenced, State.modPos_r, State.r_w_other _ _ _ _ (by decide)]
    exact State.r_w_self _ _ _ (by decide) (by decide)
  missed := by
    rw [State.referenced, State.modPos_r]
    exact State.r_w_self _ _ _ (by decide) (by decide)
  first := rfl

/-- What the end of the encoder's faults keeps. -/
structure RefKept (s u : State) : Prop where
  mem : u.mem = s.mem
  regs : ∀ f : Fld, f.key ∉ (POS_IRQ_EVT :: faultFlds).map Fld.key → u.r f = s.r f
  enc : u.pos.enc = s.pos.enc
  first : u.pos.idxFirst = s.pos.idxFirst

theorem RefKept.refl (s : State) : RefKept s s := ⟨rfl, fun _ _ => rfl, rfl, rfl⟩

theorem RefKept.trans {s u v : State} (h : RefKept s u) (g : RefKept u v) : RefKept s v :=
  ⟨g.mem.trans h.mem, fun f hf => (g.regs f hf).trans (h.regs f hf), g.enc.trans h.enc, g.first.trans h.first⟩

theorem refKept_ite {p : Prop} [Decidable p] {s u v : State} (h : RefKept s u) (g : RefKept s v) :
    RefKept s (if p then u else v) := by
  split
  · exact h
  · exact g

theorem NoteFrame.refKept {s u : State} (h : NoteFrame s u) : RefKept s u :=
  ⟨h.mem, h.regs, congrArg Pos.enc h.pos, congrArg Pos.idxFirst h.pos⟩

theorem RefTaken.kept {s x u : State} {v : Nat} {first : Bool} (h : RefTaken s x v first) (g : RefKept x u) :
    RefTaken s u v first where
  mem := g.mem.trans h.mem
  count := (State.encMod_congr g.enc (g.regs _ (by decide))).trans h.count
  seen := (g.regs _ (by decide)).trans h.seen
  missed := (g.regs _ (by decide)).trans h.missed
  first := g.first.trans h.first

theorem refKept_encReferenced (s : State) : RefKept s s.encReferenced := by
  unfold State.encReferenced
  have hill : RefKept s (s.modPos (fun p => { p with illFault := false })) := ⟨rfl, fun _ _ => rfl, rfl, rfl⟩
  exact refKept_ite (hill.trans (noteFrame_autoClear _ _ 0).refKept) (.refl s)

theorem refKept_idxRegained (s : State) : RefKept s s.idxRegained := by
  unfold State.idxRegained
  have hidx : RefKept s (s.modPos (fun p => { p with idxFault := false })) := ⟨rfl, fun _ _ => rfl, rfl, rfl⟩
  exact refKept_ite (hidx.trans (noteFrame_autoClear _ _ 0).refKept) (.refl s)

/-- A preset references the count at its value, and the next index event is the first (R159). -/
theorem State.refTaken_writePreset (s : State) (v : Nat) (hcpr : s.cpr ≤ 1048575)
    (henc : s.pos.enc.toInt.natAbs ≤ 2 ^ 31 - 2 ^ 21) : RefTaken s (s.writePreset v) (v % s.cpr) true :=
  (s.refTaken_referenced (v % s.cpr) true (Nat.mod_lt _ s.cpr_pos) hcpr henc).kept
    ((refKept_encReferenced _).trans (refKept_idxRegained _))

/-! The index (R158). -/

/-- An index event publishes its error before it acts. -/
def State.idxShown (s : State) : State := (s.publishIdxErr s.idxErr).posIrq 3

theorem State.idxShown_pos (s : State) : s.idxShown.pos = s.pos := by
  change (s.publishIdxErr s.idxErr).pos = s.pos
  unfold State.publishIdxErr
  split <;> rfl

theorem State.idxShown_mem (s : State) : s.idxShown.mem = s.mem := by
  change (s.publishIdxErr s.idxErr).mem = s.mem
  unfold State.publishIdxErr
  split <;> rfl

theorem State.r_idxShown (s : State) (f : Fld) (herr : POS_EIDXERR_IDX_ERR.key ≠ f.key) (hirq : POS_IRQ_EVT.key ≠ f.key) :
    s.idxShown.r f = s.r f := by
  refine (State.r_setBit_other _ _ f 3 hirq).trans ?_
  unfold State.publishIdxErr
  split <;> exact State.r_w_other _ _ f _ herr

theorem State.cpr_idxShown (s : State) : s.idxShown.cpr = s.cpr := by
  unfold State.cpr
  rw [s.r_idxShown _ (by decide) (by decide)]

theorem State.indexEvent_first (s : State) (hfirst : s.pos.idxFirst = true) {x : State}
    (hx : (s.idxShown.referenced (s.r POS_EIDX_IDXPOS % s.cpr) false).encReferenced = x) :
    s.indexEvent = if s.idxErr.natAbs ≤ x.r POS_ECFG_IDX_WIN then x.idxRegained else x := by
  have hshown : s.idxShown.pos.idxFirst = true := by rw [s.idxShown_pos, hfirst]
  rw [← hx, ← s.cpr_idxShown, ← s.r_idxShown POS_EIDX_IDXPOS (by decide) (by decide)]
  exact if_pos hshown

/-- The third index event in a row outside the window makes the fault active. -/
theorem State.indexEvent_third (s : State) (hfirst : s.pos.idxFirst = false) (hwin : s.r POS_ECFG_IDX_WIN < s.idxErr.natAbs)
    (hrun : s.r POS_EIDXERR_MISSRUN = 2) : s.indexEvent =
      (((s.idxShown.w POS_STS_IDX_FLT 1).w POS_EIDXERR_MISSRUN 3).modPos (fun p => { p with idxFault := true })).posFault
        Fid.encIndex := by
  have hshown : ¬ s.idxShown.pos.idxFirst = true := by simp [s.idxShown_pos, hfirst]
  have hout : ¬ s.idxErr.natAbs ≤ s.idxShown.r POS_ECFG_IDX_WIN := by
    rw [s.r_idxShown _ (by decide) (by decide)]
    omega
  have hthird : s.idxShown.r POS_EIDXERR_MISSRUN = 2 := (s.r_idxShown _ (by decide) (by decide)).trans hrun
  refine (if_neg hshown).trans ((if_neg hout).trans ((if_pos hthird).trans ?_))
  change (((s.idxShown.w POS_STS_IDX_FLT 1).w POS_EIDXERR_MISSRUN (min 3 (s.idxShown.r POS_EIDXERR_MISSRUN + 1))).modPos
    _).posFault _ = _
  rw [hthird]
  rfl

theorem State.indexEvent_fault (s : State) (hfirst : s.pos.idxFirst = false) (hwin : s.r POS_ECFG_IDX_WIN < s.idxErr.natAbs)
    (hrun : s.r POS_EIDXERR_MISSRUN = 2) :
    s.indexEvent.pos.enc = s.pos.enc ∧ s.indexEvent.r POS_STS_IDX_FLT = 1 ∧ s.indexEvent.r POS_EIDXERR_MISSRUN = 3 ∧
      s.indexEvent.pos.idxFault = true ∧ s.indexEvent.hasFault Fid.encIndex = true ∧ s.indexEvent.mem = s.mem := by
  rw [s.indexEvent_third hfirst hwin hrun]
  have hnote := noteFrame_posFault (((s.idxShown.w POS_STS_IDX_FLT 1).w POS_EIDXERR_MISSRUN 3).modPos
    (fun p => { p with idxFault := true })) Fid.encIndex 0
  have hactive := hasFault_posFault (((s.idxShown.w POS_STS_IDX_FLT 1).w POS_EIDXERR_MISSRUN 3).modPos
    (fun p => { p with idxFault := true })) Fid.encIndex 0 (by decide)
  have henc : s.idxShown.pos.enc = s.pos.enc := congrArg Pos.enc s.idxShown_pos
  refine ⟨(congrArg Pos.enc hnote.pos).trans henc, ?_, ?_, congrArg Pos.idxFault hnote.pos, hactive,
    hnote.mem.trans s.idxShown_mem⟩
  · rw [hnote.regs _ (by decide), State.modPos_r, State.r_w_other _ _ _ _ (by decide), State.r_w_self _ _ _ (by decide) (by decide)]
    rfl
  · rw [hnote.regs _ (by decide), State.modPos_r, State.r_w_self _ _ _ (by decide) (by decide)]
    rfl

/-- The first index event references the count at IDXPOS. -/
theorem State.refTaken_indexEvent (s : State) (hfirst : s.pos.idxFirst = true) (hcpr : s.cpr ≤ 1048575)
    (henc : s.pos.enc.toInt.natAbs ≤ 2 ^ 31 - 2 ^ 21) : RefTaken s s.indexEvent (s.r POS_EIDX_IDXPOS % s.cpr) false := by
  have htaken := s.idxShown.refTaken_referenced (s.r POS_EIDX_IDXPOS % s.cpr) false
    (by rw [s.cpr_idxShown]; exact Nat.mod_lt _ s.cpr_pos) (by rwa [s.cpr_idxShown]) (by rwa [s.idxShown_pos])
  have hevent : RefKept (s.idxShown.referenced (s.r POS_EIDX_IDXPOS % s.cpr) false) s.indexEvent := by
    rw [s.indexEvent_first hfirst rfl]
    have hended := refKept_encReferenced (s.idxShown.referenced (s.r POS_EIDX_IDXPOS % s.cpr) false)
    exact refKept_ite (hended.trans (refKept_idxRegained _)) hended
  have hend := htaken.kept hevent
  exact ⟨hend.mem.trans s.idxShown_mem, hend.count, hend.seen, hend.missed, hend.first⟩

/-! The wires (R157). -/

/-- The clear of one pair: a healthy pair's bit goes, with its instance of the fault. -/
def wireClearStep (mask : Nat) (s : State) (k : Nat) : State :=
  if bit mask k && bit (s.r POS_STS_WIREFLT) k && !bit s.pos.wireNow k then
    (s.clrBit POS_STS_WIREFLT k).autoClear Fid.wireFault k
  else s

theorem State.writeWireflt_eq (s : State) (mask : Nat) : s.writeWireflt mask = [0, 1, 2].foldl (wireClearStep mask) s := rfl

theorem wireClearStep_keeps (mask : Nat) (s : State) (k : Nat) :
    (wireClearStep mask s k).mem = s.mem ∧ (wireClearStep mask s k).pos = s.pos := by
  unfold wireClearStep
  split
  · exact ⟨(noteFrame_autoClear _ _ k).mem, (noteFrame_autoClear _ _ k).pos⟩
  · exact ⟨rfl, rfl⟩

theorem bit_wireClearStep (mask : Nat) (s : State) (k j : Nat) (hj : j < 3) :
    bit ((wireClearStep mask s k).r POS_STS_WIREFLT) j =
      (bit (s.r POS_STS_WIREFLT) j && !(decide (j = k) && bit mask k && !bit s.pos.wireNow k)) := by
  unfold wireClearStep
  split
  case isTrue h =>
    rw [(noteFrame_autoClear _ _ k).regs _ (by decide)]
    by_cases hne : j = k
    · subst hne
      simp_all [State.bit_clrBit_self _ POS_STS_WIREFLT j (by decide) (by decide)]
    · simp [State.bit_clrBit_other s POS_STS_WIREFLT k j (by decide) (by decide) hj hne, hne]
  case isFalse h =>
    by_cases hne : j = k
    · subst hne
      cases hm : bit mask j <;> cases hb : bit (s.r POS_STS_WIREFLT) j <;> simp_all
    · simp [hne]

/-- The bits of the healthy pairs that the mask names go, and the others stay. -/
theorem State.writeWireflt_spec (s : State) (mask : Nat) : (s.writeWireflt mask).mem = s.mem ∧
    ∀ j, j < 3 → bit ((s.writeWireflt mask).r POS_STS_WIREFLT) j =
      (bit (s.r POS_STS_WIREFLT) j && !(bit mask j && !bit s.pos.wireNow j)) := by
  rw [s.writeWireflt_eq]
  simp only [List.foldl_cons, List.foldl_nil]
  refine ⟨by simp only [wireClearStep_keeps], fun j hj => ?_⟩
  simp only [bit_wireClearStep _ _ _ j hj, wireClearStep_keeps]
  obtain rfl | rfl | rfl : j = 0 ∨ j = 1 ∨ j = 2 := by omega
  all_goals simp

/-- The report that a pair's two pins read equal, or that they differ again. -/
def State.wireSeen (s : State) (p : Nat) (equal : Bool) : State :=
  s.modPos (fun x => { x with wireNow := bitPut x.wireNow p equal })

/-- A pair equal for too long: its bit and its fault. -/
def State.wireMarked (s : State) (p : Nat) : State :=
  ((s.wireSeen p true).setBit POS_STS_WIREFLT p).posFault Fid.wireFault p

theorem State.noteFrame_wireMarked (s : State) (p : Nat) :
    NoteFrame ((s.wireSeen p true).setBit POS_STS_WIREFLT p) (s.wireMarked p) := noteFrame_posFault _ _ p

theorem State.bit_wireMarked (s : State) (p : Fin 3) : bit ((s.wireMarked p).r POS_STS_WIREFLT) p = true := by
  rw [(s.noteFrame_wireMarked p).regs _ (by decide)]
  exact State.bit_setBit_self _ POS_STS_WIREFLT p (by decide) (by decide) p.isLt

theorem State.wireNow_wireMarked (s : State) (p : Nat) : bit (s.wireMarked p).pos.wireNow p = true := by
  rw [(s.noteFrame_wireMarked p).pos]
  exact (bit_bitSet s.pos.wireNow p p).trans (by simp)

/-! The Hall sensors (R160). -/

theorem State.hallChange_illegal (s : State) {code : Nat} (h : s.hallSector code = none) :
    s.hallChange code = (s.w POS_STS_HALLILL 1).modPos (fun p => { p with hallIllNow := true }) := by
  unfold State.hallChange
  rw [h]

/-- A move to another sector counts by where it lies, once a standing illegal state has ended. -/
theorem State.hallChange_moves (s : State) {code j k : Nat} (hk : s.hallSector code = some k) (hj : s.pos.sector = some j)
    (hne : j ≠ k) :
    ∃ x, NoteFrame (s.modPos (fun p => { p with sector := some k, hallIllNow := false, hallInvalid := false })) x ∧
      s.hallChange code =
        if (j + 1) % 6 = k then (x.modPos (fun p => { p with enc := p.enc + 1 })).countEdge 0 x.nowU true
        else if (k + 1) % 6 = j then (x.modPos (fun p => { p with enc := p.enc - 1 })).countEdge 0 x.nowU false
        else x.w POS_STS_HALLILL 1 := by
  refine ⟨if s.pos.hallInvalid then State.autoClear _ Fid.hallIllegal else _,
    noteFrame_ite (noteFrame_autoClear _ _ 0) (.refl _), ?_⟩
  unfold State.hallChange
  simp only [hk, hj]
  exact if_neg hne

theorem State.hallChange_counts (s : State) {code j k : Nat} (hk : s.hallSector code = some k) (hj : s.pos.sector = some j)
    (hne : j ≠ k) : (s.hallChange code).mem = s.mem ∧ (s.hallChange code).pos.sector = some k ∧
    (s.hallChange code).pos.enc =
      if (j + 1) % 6 = k then s.pos.enc + 1 else if (k + 1) % 6 = j then s.pos.enc - 1 else s.pos.enc := by
  obtain ⟨x, hx, hchange⟩ := s.hallChange_moves hk hj hne
  have hsector : x.pos.sector = some k := congrArg Pos.sector hx.pos
  have henc : x.pos.enc = s.pos.enc := (congrArg Pos.enc hx.pos :)
  rw [hchange]
  split
  · exact ⟨(State.countEdge_mem _ 0 _ true).trans hx.mem, (State.countEdge_sector _ 0 _ true).trans hsector,
      (State.countEdge_enc _ 0 _ true).trans (congrArg (· + 1) henc)⟩
  · split
    · exact ⟨(State.countEdge_mem _ 0 _ false).trans hx.mem, (State.countEdge_sector _ 0 _ false).trans hsector,
        (State.countEdge_enc _ 0 _ false).trans (congrArg (· - 1) henc)⟩
    · exact ⟨hx.mem, hsector, henc⟩

/-! The commands under their conditions. -/

/-- The levels of A and B stand accepted, and Z's interval goes on while they qualify it (R155, R158). -/
def State.encLevels (s : State) (ab : Bool × Bool) : State :=
  s.modPos (fun p => { p with encAB := ab, zIn := p.zIn && s.zQualified ab.1 ab.2 })

section
variable {s : State} (hlive : s.posLive = true)
include hlive

theorem exec_resolverSample (t : Nat) (lead : BitVec 16) (pairs : Vector (BitVec 12 × BitVec 12) 16) (hen : s.posEn 0 = true)
    (hvdda : s.cpm.vdda = true) {sn cs : List Int} (hsn : pairs.toList.map (fun p => p.1.toInt) = sn)
    (hcs : pairs.toList.map (fun p => p.2.toInt) = cs) :
    exec (.resolverSample t lead pairs) s = .next (s.after ((s.at t).resolverPair (demodulate (s.demodDelay sn cs) sn)
      (demodulate (s.demodDelay sn cs) cs) ((s.at t).nowU - lead.toNat))) := by
  subst hsn hcs
  exact congrArg (fun x => Host.Outcome.next (s.after x)) ((s.at t).when_true _ _ (by simp [hlive, hen, hvdda]))

theorem exec_encoderCount_unused (t : Nat) (samples : List (Bool × Bool)) (h : s.posEn 1 = false ∨ s.b POS_ECFG_HALL = true) :
    exec (.encoderCount t samples) s = .next (s.after ((s.at t).encLevels
      (pairAfter s.pos.encAB (pairEdges (s.r POS_ECFG_FILT + 1) s.pos.encAB samples)))) := by
  have hunused : ¬ ((s.at t).posEn 1 && !(s.at t).b POS_ECFG_HALL) = true := by
    change ¬ (s.posEn 1 && !s.b POS_ECFG_HALL) = true
    rcases h with h | h <;> simp [h]
  refine congrArg (fun x => Host.Outcome.next (s.after x)) (((s.at t).when_true _ _ hlive).trans ?_)
  simp only [if_neg hunused]
  rfl

theorem exec_encoderCount_edge (t : Nat) (samples : List (Bool × Bool)) {e : PairEdge} (hen : s.posEn 1 = true)
    (hhall : s.b POS_ECFG_HALL = false) (he : pairEdges (s.r POS_ECFG_FILT + 1) s.pos.encAB samples = [e]) :
    exec (.encoderCount t samples) s = .next (s.after (((s.at t).encEdge e).encLevels (e.lvA, e.lvB))) := by
  have hused : ((s.at t).posEn 1 && !(s.at t).b POS_ECFG_HALL) = true := by
    change (s.posEn 1 && !s.b POS_ECFG_HALL) = true
    simp [hen, hhall]
  have he' : pairEdges ((s.at t).r POS_ECFG_FILT + 1) (s.at t).pos.encAB samples = [e] := he
  refine congrArg (fun x => Host.Outcome.next (s.after x)) (((s.at t).when_true _ _ hlive).trans ?_)
  simp only [if_pos hused, he']
  rfl

theorem exec_indexEvent (t : Nat) (was : Bool) (z : List Bool) (hen : s.posEn 1 = true) (hhall : s.b POS_ECFG_HALL = false)
    (hz : s.zEvent was z = true) (hwire : bit (s.r POS_STS_WIREFLT) 2 = false) :
    exec (.indexEvent t was z false false) s =
      .next (s.after ((s.at t).modPos (fun p => { p with zIn := true })).indexEvent) :=
  congrArg (fun x => Host.Outcome.next (s.after x))
    ((s.at t).when_true _ _ (by simp [hlive, hen, hhall, hz, hwire]))

theorem exec_wireFault_long (p : Fin 3) {d : Nat} (hen : s.posEn 1 = true) (hhall : s.b POS_ECFG_HALL = false)
    (hd : 4 * max 1 (s.r POS_ECFG_WIRE_T) < d) : exec (.wireFault p (some d)) s =
      .next (s.after (if p.val < 2 then (s.wireMarked p).idxForget else s.wireMarked p)) := by
  have hlong : ((some d).any (fun u => decide (4 * max 1 ((s.wireSeen p true).r POS_ECFG_WIRE_T) < u)) &&
      (s.wireSeen p true).posEn 1 && !(s.wireSeen p true).b POS_ECFG_HALL) = true := by
    change (decide (4 * max 1 (s.r POS_ECFG_WIRE_T) < d) && s.posEn 1 && !s.b POS_ECFG_HALL) = true
    simp only [hd, hen, hhall, decide_true, Bool.not_false, Bool.and_true]
  exact congrArg (fun x => Host.Outcome.next (s.after x)) ((s.when_true _ _ hlive).trans (if_pos hlong))

theorem exec_wireFault_short (p : Fin 3) (d : Option Nat)
    (h : (∀ k, d = some k → k ≤ 4 * max 1 (s.r POS_ECFG_WIRE_T)) ∨ s.posEn 1 = false ∨ s.b POS_ECFG_HALL = true) :
    exec (.wireFault p d) s = .next (s.after (s.wireSeen p d.isSome)) := by
  have hshort : ¬ (d.any (fun u => decide (4 * max 1 ((s.wireSeen p d.isSome).r POS_ECFG_WIRE_T) < u)) &&
      (s.wireSeen p d.isSome).posEn 1 && !(s.wireSeen p d.isSome).b POS_ECFG_HALL) = true := by
    change ¬ (d.any (fun u => decide (4 * max 1 (s.r POS_ECFG_WIRE_T) < u)) && s.posEn 1 && !s.b POS_ECFG_HALL) = true
    rcases h with hd | hen | hhall
    · cases d with
      | none => simp
      | some k => simp [Nat.not_lt.mpr (hd k rfl)]
    · simp [hen]
    · simp [hhall]
  exact congrArg (fun x => Host.Outcome.next (s.after x)) ((s.when_true _ _ hlive).trans (if_neg hshort))

theorem exec_preset (who : Agent) (v : BitVec 20) (hmay : s.mayWrite who POS_EPRE_PRE = true) :
    exec (.preset who v) s = .next (s.after (s.writePreset v.toNat)) :=
  congrArg (fun x => Host.Outcome.next (s.after x)) (s.when_true _ _ (by simp [hlive, hmay]))

theorem exec_wirefltClear (who : Agent) (m : BitVec 3) (hmay : s.mayWrite who POS_STS_WIREFLT = true) :
    exec (.wirefltClear who m) s = .next (s.after (s.writeWireflt m.toNat)) :=
  congrArg (fun x => Host.Outcome.next (s.after x)) (s.when_true _ _ (by simp [hlive, hmay]))

theorem exec_hallStateChange (t : Nat) (c : BitVec 3) (hen : s.posEn 1 = true) (hhall : s.b POS_ECFG_HALL = true) :
    exec (.hallStateChange t c) s = .next (s.after ((s.at t).hallChange c.toNat)) :=
  congrArg (fun x => Host.Outcome.next (s.after x)) ((s.at t).when_true _ _ (by simp [hlive, hen, hhall]))

theorem exec_hallIllegalPersist (hen : s.posEn 1 = true) (hhall : s.b POS_ECFG_HALL = true) (hnow : s.pos.hallIllNow = true)
    (hvalid : s.pos.hallInvalid = false) : exec .hallIllegalPersist s =
      .next (s.after ((s.modPos (fun p => { p with hallInvalid := true })).posFault Fid.hallIllegal)) :=
  congrArg (fun x => Host.Outcome.next (s.after x)) (s.when_true _ _ (by simp [hlive, hen, hhall, hnow, hvalid]))

end

/-- Settles O27: each command's effect under its conditions; what an event announces and a fault's raise or end adds keeps the
registers and the state that the clauses name. The amplitude that is published and judged is that of `demodulate` (assumption 155). -/
theorem countsIndexAndHallSectors : Obligations.CountsIndexAndHallSectors := by
  unfold Obligations.CountsIndexAndHallSectors
  intro s hlive
  refine ⟨fun t lead pairs hen hvdda => ?resolver, fun t lead pairs hvdda => ?noSupply,
    fun t samples h => exec_encoderCount_unused hlive t samples h,
    fun t samples e hen hhall he => ⟨fun hone => ?counted, fun hboth hcnt => ?illegal⟩,
    fun t was z hen hhall hz hwire => ⟨fun hfirst hcpr henc => ?indexed, fun hfirst hwin hrun => ?missed⟩,
    fun who v hmay hcpr henc => ?preset, fun p d hen hhall hd => ?wireLong,
    fun p d h => exec_wireFault_short hlive p d h, fun who m hmay => ?cleared,
    fun t c hen hhall => ⟨fun j k hk hj hj6 hk6 hne => ?moved, fun hk => ?noSector⟩, fun hen hhall hnow hvalid => ?persists⟩
  case resolver =>
    intro sn cs a2 inRange
    have hexec := exec_resolverSample hlive t lead pairs hen hvdda (sn := sn) (cs := cs) rfl rfl
    have htaken := resTaken_resolverPair (s.at t) (demodulate (s.demodDelay sn cs) sn) (demodulate (s.demodDelay sn cs) cs)
      ((s.at t).nowU - lead.toNat)
    have hlost := (s.at t).resolverPair_lost (demodulate (s.demodDelay sn cs) sn) (demodulate (s.demodDelay sn cs) cs)
      ((s.at t).nowU - lead.toNat)
    generalize (s.at t).resolverPair _ _ _ = v at hexec htaken hlost
    exact ⟨_, hexec, State.keepsMem_after htaken.mem, htaken.peak, htaken.angle, htaken.amp, htaken.inside,
      fun hout => ⟨htaken.outside hout, hlost hout⟩⟩
  case noSupply =>
    exact congrArg (fun x => Host.Outcome.next (s.after x)) ((s.at t).when_false _ _ (by simp [hvdda]))
  case counted =>
    have hexec := exec_encoderCount_edge hlive t samples hen hhall he
    obtain ⟨henc, hmotor, hmem, hregs⟩ := (s.at t).encEdge_one e hone
    generalize (s.at t).encEdge e = v at hexec henc hmotor hmem hregs
    exact ⟨_, hexec, henc, rfl, hmotor, fun f hf => hregs f (fun h => hf (by simp [h])), State.keepsMem_after hmem⟩
  case illegal =>
    have hedge : (s.at t).encEdge e = (s.at t).encIllegal := if_pos hboth
    have hexec := exec_encoderCount_edge hlive t samples hen hhall he
    have hkept := (s.at t).illKept_encIllegal hcnt
    have hlast := (s.at t).encIllegal_last
    rw [hedge] at hexec
    generalize (s.at t).encIllegal = v at hexec hkept hlast
    exact ⟨_, hexec, hkept.enc, hkept.motor, hkept.err, hkept.cnt, State.keepsMem_after hkept.mem, hlast⟩
  case indexed =>
    have htaken := ((s.at t).modPos (fun p => { p with zIn := true })).refTaken_indexEvent hfirst hcpr henc
    have hexec := exec_indexEvent hlive t was z hen hhall hz hwire
    generalize State.indexEvent _ = v at hexec htaken
    exact ⟨_, hexec, htaken.count, htaken.seen, htaken.missed, htaken.first, State.keepsMem_after htaken.mem⟩
  case missed =>
    have hexec := exec_indexEvent hlive t was z hen hhall hz hwire
    obtain ⟨henc, hflag, hthird, hfault, hactive, hmem⟩ :=
      ((s.at t).modPos (fun p => { p with zIn := true })).indexEvent_fault hfirst hwin hrun
    generalize State.indexEvent _ = v at hexec henc hflag hthird hfault hactive hmem
    exact ⟨_, hexec, henc, hflag, hthird, hfault, hactive, State.keepsMem_after hmem⟩
  case preset =>
    have htaken := s.refTaken_writePreset v.toNat hcpr henc
    have hexec := exec_preset hlive who v hmay
    generalize s.writePreset v.toNat = x at hexec htaken
    exact ⟨_, hexec, htaken.count, htaken.seen, htaken.missed, State.keepsMem_after htaken.mem⟩
  case wireLong =>
    have hexec := exec_wireFault_long hlive p hen hhall hd
    have hmem : (s.wireMarked p).mem = s.mem := (s.noteFrame_wireMarked p).mem
    have hactive : (s.wireMarked p).hasFault Fid.wireFault = true := hasFault_posFault _ _ p (by decide)
    have hbit := s.bit_wireMarked p
    have hnow := s.wireNow_wireMarked p
    generalize s.wireMarked p = v at hexec hmem hactive hbit hnow
    by_cases hp : p.val < 2
    · rw [if_pos hp] at hexec
      have hkept : v.idxForget.r POS_STS_WIREFLT = v.r POS_STS_WIREFLT :=
        v.r_w_other POS_STS_IDXSEEN POS_STS_WIREFLT 0 (by decide)
      have hforgot : v.idxForget.r POS_STS_IDXSEEN = 0 := v.r_w_self POS_STS_IDXSEEN 0 (by decide) (by decide)
      refine ⟨_, hexec, ?_, hactive, hnow, fun _ => hforgot, State.keepsMem_after hmem⟩
      rw [State.after_r, hkept, hbit]
    · rw [if_neg hp] at hexec
      exact ⟨_, hexec, hbit, hactive, hnow, fun h => absurd h hp, State.keepsMem_after hmem⟩
  case cleared =>
    obtain ⟨hmem, hbit⟩ := s.writeWireflt_spec m.toNat
    refine ⟨_, exec_wirefltClear hlive who m hmay, State.keepsMem_after hmem, fun k hk hm hnow => ?_, fun k hk h => ?_⟩
    · have hmask : bit m.toNat k = true := hm
      rw [State.after_r, hbit k hk]
      simp [hmask, hnow]
    · rw [State.after_r, hbit k hk]
      rcases h with hm | hnow
      · have hmask : bit m.toNat k = false := hm
        simp [hmask]
      · simp [hnow]
  case moved =>
    obtain ⟨hmem, hsector, henc⟩ := (s.at t).hallChange_counts hk hj hne
    have hexec := exec_hallStateChange hlive t c hen hhall
    generalize (s.at t).hallChange c.toNat = v at hexec hmem hsector henc
    exact ⟨_, hexec, hsector, State.keepsMem_after hmem, henc⟩
  case noSector =>
    have hchange := (s.at t).hallChange_illegal hk
    refine ⟨_, exec_hallStateChange hlive t c hen hhall, ?_⟩
    rw [hchange]
    refine ⟨(s.at t).r_w_self POS_STS_HALLILL 1 (by decide) (by decide), rfl, rfl, fun f hf => ?_⟩
    exact (s.at t).r_w_other POS_STS_HALLILL f 1 (fun h => hf (by simp [h]))
  case persists =>
    have hexec := exec_hallIllegalPersist hlive hen hhall hnow hvalid
    have hnote := noteFrame_posFault (s.modPos (fun p => { p with hallInvalid := true })) Fid.hallIllegal 0
    have hactive := hasFault_posFault (s.modPos (fun p => { p with hallInvalid := true })) Fid.hallIllegal 0 (by decide)
    generalize State.posFault _ _ 0 = v at hexec hnote hactive
    exact ⟨_, hexec, congrArg Pos.hallInvalid hnote.pos, hactive, State.keepsMem_after hnote.mem⟩

end Sys2Proof.Machine
end

section
/-!
The statement about the serial word, the wheels, PPS, standstill and the return to the primary.
-/
namespace Sys2Proof.Machine

open Reg

/-- The guard of SPEED_TIMEOUT reads the instant of the command before it: with the timeout not yet passed there, the command takes
note of its own instant alone. -/
theorem exec_speedTimeout_early (t : Nat) (k : Fin 3) (s : State)
    (h : s.nowU - (s.timer k.val).last < s.speedTimeout k.val) : exec (.speedTimeout t k) s = .next (s.after (s.at t)) :=
  congrArg (fun x => Host.Outcome.next (s.after x)) ((s.at t).when_false _ _ (by simp [h]))

/-- SENSE is powered and out of reset, the motor's last edge came at u 0, and no command has carried a later instant. -/
def turning : State :=
  { ({ cpm := { inReset := 0 } } : State).w CPM_STATE_DOMON 0x1FF with pos := { motor := { still := false } } }

/-- Refutes O28 in its clause on SPEED_TIMEOUT: the motor's timeout is 100 ms, and the command comes at that instant, 20,000,000 u
after the last edge. The model's guard takes the time since that edge at the instant of the command before, where it is 0, and so
leaves the motor turning. The guard of PPS_LOST reads the same earlier instant. -/
theorem not_serialWordsWheelsAndPps : ¬ Obligations.SerialWordsWheelsAndPps := by
  unfold Obligations.SerialWordsWheelsAndPps
  intro h
  obtain ⟨-, -, -, -, -, -, -, -, standstill, -⟩ := h turning (by decide +kernel)
  obtain ⟨u, hu, still, -⟩ := standstill 20000000 0 (by decide +kernel)
  have hexec := exec_speedTimeout_early 20000000 0 turning (by decide +kernel)
  obtain rfl := Host.Outcome.next.inj (hexec.symm.trans hu)
  exact absurd still (by decide)

end Sys2Proof.Machine
end

section
/-!
The statement about the commands of the drive.
-/
namespace Sys2Proof.Machine

open Reg

/-- OFF with PWM-ready reached and every condition of R369 met: IMAX 500 A (SP7.m2), IDCSRC 14, and a motor of 4 pole pairs with
ψ = 1 Wb and Ld = Lq. The other items keep their defaults, T_UT = 50 N·m and HALL0 = 2 % of IMAX. Phases B and C read −10 A and
10 A, no more than HALL0. -/
def hallAskew : State :=
  let motor : Sparse Word := [(0x307, 14), (0x309, 4), (0x30A, 0x3F800000), (0x30B, 0x3F800000), (0x30C, 0x3F800000),
    (0x30D, 0x3F800000)]
  let device : State := { cpm := { ready := true }, sss := { goodOuter := 2 }, kern := { blockOk := true, params := motor } }
  let off := (((device.w (spFld 7 2) 8192000).w (spFld 7 8) 9).w SSS_CFG_ASCDLY 255).w SSS_STS_DSTATE 0
  (off.wi (PCV_HALLR_VALUE 1) (-10000)).wi (PCV_HALLR_VALUE 2) 10000

/-- At rest the monitor works out about −69 N·m, so that an offset of 2 × T_UT does not reach T_UT (R378, R392). -/
theorem hallAskew_dryRun : hallAskew.dryRunOk = false := by decide +kernel

/-- A write that the writer may make reaches the SSS over its crossing (R65). -/
theorem exec_arm (who : Agent) (s : State) (h : s.mayWrite who SSS_CMD_CODE = true) :
    exec (.arm who) s = .next (s.after (s.fresh 0x080).cmdArm) :=
  congrArg (fun x => Host.Outcome.next (s.after x)) (s.when_true _ _ h)

/-- ARM with every condition of R369 met is refused with code 5 where the monitor's dry run fails, whatever the Hall inputs read
(R392). -/
theorem State.cmdArm_of_dryRun (s : State) (hoff : s.drv = .off) (hheld : s.armHeld = false) (hready : s.pwmReady = true)
    (href : s.releaseRef true = 0) (hdry : s.dryRunOk = false) : s.cmdArm = s.refuseCmd 5 := by
  simp [State.cmdArm, State.sssCmd, hoff, hheld, hready, href, hdry]

/-- A refused command leaves the drive state (R370). -/
theorem State.drv_refuseCmd (s : State) (code : Nat) : (s.refuseCmd code).drv = s.drv := by
  have hcode : (s.refuseCmd code).r SSS_STS_DSTATE = s.r SSS_STS_DSTATE :=
    (State.r_w_other _ SSS_STS_REFCODE _ _ (by decide)).trans (s.r_w_other SSS_STS_CMDREF _ _ (by decide))
  unfold State.drv
  rw [hcode]

/-- Refutes O36 in its clause on ARM: the clause asks for OFF, PWM-ready, the conditions of R369 and the Hall inputs at zero. The
torque monitor's dry run of R392 is a condition of ARM as well, and Hall currents within HALL0 can still make a torque below −T_UT
with the motor of the safety parameter block; then ARM is refused with code 5. -/
theorem not_commandsOfTheDriveMeetTheirConditions : ¬ Obligations.CommandsOfTheDriveMeetTheirConditions := by
  unfold Obligations.CommandsOfTheDriveMeetTheirConditions
  intro h
  have hoff : hallAskew.drv = .off := by decide +kernel
  have hheld : hallAskew.armHeld = false := by decide +kernel
  have hready : hallAskew.pwmReady = true := by decide +kernel
  have href : hallAskew.releaseRef true = 0 := by decide +kernel
  have hmay : hallAskew.mayWrite .kernel SSS_CMD_CODE = true := by decide +kernel
  obtain ⟨arms, -⟩ := h hallAskew .kernel hmay
  obtain ⟨u, hu, harmed, -⟩ := arms hoff hheld hready href (by decide +kernel)
  obtain rfl := Host.Outcome.next.inj ((exec_arm .kernel hallAskew hmay).symm.trans hu)
  have hfresh : hallAskew.fresh 0x080 = hallAskew := if_pos (by decide +kernel)
  rw [State.after_drv, hfresh, hallAskew.cmdArm_of_dryRun hoff hheld hready href hallAskew_dryRun, State.drv_refuseCmd, hoff] at harmed
  exact absurd harmed (by decide)

end Sys2Proof.Machine
end

section
/-!
What the fault path does to the drive: either the drive state and the state of the drive service stay, or the drive enters SAFE and
the service goes to IDLE (R227, R374). A PWM stage that is not to run is not started (R112).
-/
namespace Sys2Proof.Machine

open Reg

/-! Clearing a fault does not reach the drive service (R411). -/

theorem State.drive_fltEvent (s : State) (k : Nat) : (s.fltEvent k).drive = s.drive := by
  unfold State.fltEvent
  extract_lets noted
  split <;> rfl

theorem State.drive_record (s : State) (x : FaultRecord) : (s.record x).drive = s.drive := by
  unfold State.record
  split
  · rfl
  · exact State.drive_fltEvent _ 6

theorem State.drive_autoClear (s : State) (id d : Nat) : (s.autoClear id d).drive = s.drive := by
  unfold State.autoClear State.dropFault
  split
  · rfl
  · simp only
    split
    · exact (State.drive_fltEvent _ 4).trans (State.drive_record _ _)
    · rfl

/-! The two frames. -/

/-- The drive state and the drive service's state and attempts stay, and RUN is not set. -/
structure DriveFrame (s u : State) : Prop where
  state : u.r SSS_STS_DSTATE = s.r SSS_STS_DSTATE
  svc : u.drive.svc = s.drive.svc
  attempts : u.drive.attempts = s.drive.attempts
  run : s.r PWM_CTRL_RUN = 0 → u.r PWM_CTRL_RUN = 0

/-- The same, or the drive has left another state for SAFE with the drive service in IDLE. -/
structure DriveYields (s u : State) : Prop where
  drive : (u.r SSS_STS_DSTATE = s.r SSS_STS_DSTATE ∧ u.drive.svc = s.drive.svc ∧ u.drive.attempts = s.drive.attempts) ∨
    (s.drv ≠ .safe ∧ u.drv = .safe ∧ u.drive.svc = .idle)
  run : s.r PWM_CTRL_RUN = 0 → u.r PWM_CTRL_RUN = 0

theorem State.drv_of_r {s u : State} (h : u.r SSS_STS_DSTATE = s.r SSS_STS_DSTATE) : u.drv = s.drv := by
  unfold State.drv
  rw [h]

theorem DriveFrame.refl (s : State) : DriveFrame s s := ⟨rfl, rfl, rfl, id⟩

theorem DriveFrame.trans {s u v : State} (h : DriveFrame s u) (g : DriveFrame u v) : DriveFrame s v :=
  ⟨g.state.trans h.state, g.svc.trans h.svc, g.attempts.trans h.attempts, fun r => g.run (h.run r)⟩

theorem DriveFrame.yields {s u : State} (h : DriveFrame s u) : DriveYields s u := ⟨.inl ⟨h.state, h.svc, h.attempts⟩, h.run⟩

theorem DriveYields.refl (s : State) : DriveYields s s := (DriveFrame.refl s).yields

theorem DriveYields.trans {s u v : State} (h : DriveYields s u) (g : DriveYields u v) : DriveYields s v := by
  refine ⟨?_, fun r => g.run (h.run r)⟩
  rcases h.drive with ⟨hstate, hsvc, hatt⟩ | ⟨hs, hu, hidle⟩
  · rcases g.drive with ⟨gstate, gsvc, gatt⟩ | ⟨gu, gv, gidle⟩
    · exact .inl ⟨gstate.trans hstate, gsvc.trans hsvc, gatt.trans hatt⟩
    · exact .inr ⟨fun e => gu ((State.drv_of_r hstate).trans e), gv, gidle⟩
  · rcases g.drive with ⟨gstate, gsvc, -⟩ | ⟨gu, -, -⟩
    · exact .inr ⟨hs, (State.drv_of_r gstate).trans hu, gsvc.trans hidle⟩
    · exact absurd hu gu

/-- A drive service in IDLE stays there. -/
theorem DriveYields.idle {s u : State} (h : DriveYields s u) (hs : s.drive.svc = .idle) : u.drive.svc = .idle := by
  rcases h.drive with ⟨-, hsvc, -⟩ | ⟨-, -, hidle⟩
  · exact hsvc.trans hs
  · exact hidle

/-- In SAFE the drive service goes on as it was (R227). -/
theorem DriveYields.safe {s u : State} (h : DriveYields s u) (hs : s.drv = .safe) :
    u.drv = .safe ∧ u.drive.svc = s.drive.svc ∧ u.drive.attempts = s.drive.attempts := by
  rcases h.drive with ⟨hstate, hsvc, hatt⟩ | ⟨hne, -, -⟩
  · exact ⟨(State.drv_of_r hstate).trans hs, hsvc, hatt⟩
  · exact absurd hs hne

theorem driveFrame_ite {p : Prop} [Decidable p] {s u v : State} (h : DriveFrame s u) (g : DriveFrame s v) :
    DriveFrame s (if p then u else v) := by
  split
  · exact h
  · exact g

/-- A write of a register of another block. -/
theorem DriveFrame.w {s u : State} (h : DriveFrame s u) (k : Fld) (v : Nat)
    (hk : k.key ≠ SSS_STS_DSTATE.key ∧ k.key ≠ PWM_CTRL_RUN.key := by decide) : DriveFrame s (u.w k v) :=
  h.trans ⟨u.r_w_other _ _ _ hk.1, rfl, rfl, fun r => (u.r_w_other _ _ _ hk.2).trans r⟩

/-- The stage is told not to run. -/
theorem driveFrame_stop (s : State) : DriveFrame s (s.w PWM_CTRL_RUN 0) :=
  ⟨s.r_w_other PWM_CTRL_RUN SSS_STS_DSTATE 0 (by decide), rfl, rfl, fun _ => s.r_w_self PWM_CTRL_RUN 0 (by decide) (by decide)⟩

/-- An update that leaves the registers and the drive service's state and attempts. -/
theorem DriveFrame.of {s u : State} (hregs : u.regs = s.regs) (hsvc : u.drive.svc = s.drive.svc)
    (hatt : u.drive.attempts = s.drive.attempts) : DriveFrame s u := by
  have hr (f : Fld) : u.r f = s.r f := by
    unfold State.r
    rw [hregs]
  exact ⟨hr _, hsvc, hatt, fun r => (hr _).trans r⟩

/-! The operations in the order of their definitions. -/

theorem driveFrame_stageOverridden (s : State) : DriveFrame s s.stageOverridden := by
  have hoff : DriveFrame s (s.legsOff.w PWM_STS_STATE (stageCode .idle)) := (DriveFrame.of rfl rfl rfl : DriveFrame s s.legsOff).w _ _
  exact driveFrame_ite (((hoff.trans (driveFrame_stop _)).w PWM_STS_SSSSTOP 1).w PWM_IRQ_EVT _) (.refl s)

theorem driveFrame_fltEvent (s : State) (k : Nat) : DriveFrame s (s.fltEvent k) := by
  have hirq : DriveFrame s (s.setBit FLT_IRQ_EVT k) := (DriveFrame.refl s).w FLT_IRQ_EVT _
  exact driveFrame_ite (hirq.w HSP_IRQ_EVT _) hirq

theorem driveFrame_record (s : State) (x : FaultRecord) : DriveFrame s (s.record x) :=
  driveFrame_ite (.of rfl rfl rfl) (((DriveFrame.refl s).w FLT_STS_JLOST 1).trans (driveFrame_fltEvent _ 6))

theorem driveFrame_autoClear (s : State) (id d : Nat) : DriveFrame s (s.autoClear id d) := by
  have hclear := clearFrame_autoClear s id d
  have hdrive := s.drive_autoClear id d
  exact ⟨hclear.regs _ (by decide), congrArg Drive.svc hdrive, congrArg Drive.attempts hdrive,
    fun r => (hclear.regs _ (by decide)).trans r⟩

theorem driveFrame_disBegin (s : State) : DriveFrame s s.disBegin := by
  have hregs := ((((DriveFrame.refl s).w DIS_MEAS_V0 0).w DIS_MEAS_ELAPSED 0).w DIS_MEAS_HALVINGS 0).w DIS_STS_WINDREQ 0
  have hclears := ((hregs.trans (driveFrame_autoClear _ Fid.contactorNotOpen 0)).trans
    (driveFrame_autoClear _ Fid.dischargeSlow 0)).trans (driveFrame_autoClear _ Fid.windNotRun 0)
  exact hclears.trans (.of rfl rfl rfl)

theorem driveFrame_disAct (s : State) : DriveFrame s s.disAct := by
  unfold State.disAct
  extract_lets _ taken begun
  have htaken : DriveFrame s taken := .of rfl rfl rfl
  have hbegun : DriveFrame s begun := htaken.trans (driveFrame_disBegin taken)
  refine driveFrame_ite ?_ htaken
  split
  · exact driveFrame_ite ((hbegun.w DIS_STS_STATE 5).trans (.of rfl rfl rfl)) (hbegun.w DIS_STS_STATE 1)
  · exact hbegun.w DIS_STS_STATE 1

theorem driveFrame_disRequest (s : State) : DriveFrame s s.disRequest := driveFrame_ite (driveFrame_disAct s) (.of rfl rfl rfl)

theorem driveFrame_disWake (s : State) : DriveFrame s s.disWake := driveFrame_ite (driveFrame_disRequest s) (.refl s)

theorem driveFrame_holdSafe (s : State) (x : SafeState) : DriveFrame s (s.holdSafe x) :=
  (((DriveFrame.refl s).w SSS_STS_SAFEST (safeCode x)).w SSS_STS_OVR 1).trans (.of rfl rfl rfl)

theorem driveFrame_endWindrel (s : State) : DriveFrame s s.endWindrel :=
  driveFrame_ite ((((DriveFrame.refl s).w SSS_STS_WINDREL 0).trans (driveFrame_holdSafe _ _)).trans
    (driveFrame_stageOverridden _)) (.refl s)

theorem driveFrame_readFieldParams (s : State) : DriveFrame s s.readFieldParams := driveFrame_ite (.of rfl rfl rfl) (.refl s)

theorem driveFrame_leaveTest (s : State) : DriveFrame s s.leaveTest :=
  (((DriveFrame.refl s).w SAF_TP_TEST 0).w SAF_TP_HOLDB 0).w SSS_STS_TBUSY 0

/-- Taking the safe state puts the drive in SAFE and the drive service in IDLE, unless the request was its own (R227). -/
theorem State.safeTaken_drive (s : State) (own : Bool) :
    (s.safeTaken own).drv = .safe ∧ (s.safeTaken own).drive.svc = (if own then s.drive.svc else .idle) ∧
      (s.safeTaken own).drive.attempts = s.drive.attempts ∧ (s.r PWM_CTRL_RUN = 0 → (s.safeTaken own).r PWM_CTRL_RUN = 0) := by
  unfold State.safeTaken
  extract_lets tested safe ended _ wait stage _
  have htested : DriveFrame s tested := (driveFrame_readFieldParams s).trans (driveFrame_leaveTest _)
  have hheld : DriveFrame s (tested.holdSafe tested.safeChoice) := htested.trans (driveFrame_holdSafe tested _)
  have hended : DriveFrame safe ended := (DriveFrame.refl safe).w SSS_STS_SS1RUN 0
  have hwait : DriveFrame ended wait := .of rfl rfl rfl
  have hstage : DriveFrame safe stage := (hended.trans hwait).trans (driveFrame_stageOverridden wait)
  have hsafe : safe.r SSS_STS_DSTATE = 4 := State.r_w_self _ SSS_STS_DSTATE 4 (by decide) (by decide)
  have hrun : safe.r PWM_CTRL_RUN = (tested.holdSafe tested.safeChoice).r PWM_CTRL_RUN :=
    State.r_w_other _ SSS_STS_DSTATE PWM_CTRL_RUN 4 (by decide)
  have hdrive : safe.drive = (tested.holdSafe tested.safeChoice).drive := State.w_drive _ SSS_STS_DSTATE 4
  have hsvc : stage.drive.svc = s.drive.svc := (hstage.svc.trans (congrArg Drive.svc hdrive)).trans hheld.svc
  have hatt : stage.drive.attempts = s.drive.attempts :=
    (hstage.attempts.trans (congrArg Drive.attempts hdrive)).trans hheld.attempts
  clear_value stage
  refine ⟨?_, ?_, hatt, fun r => hstage.run (hrun.trans (hheld.run r))⟩
  · have hcode : stage.r SSS_STS_DSTATE = 4 := hstage.state.trans hsafe
    change stage.drv = .safe
    simp only [State.drv, hcode]
  · change (if own then stage.drive.svc else .idle) = _
    rw [hsvc]

/-- The drive is in SAFE. -/
theorem State.drv_enterSafe (s : State) (own : Bool) : (s.enterSafe own).drv = .safe := by
  rw [s.enterSafe_eq]
  split
  · next hsafe => exact hsafe
  · exact (State.drv_of_r (driveFrame_disWake _).state).trans (s.endWindrel.safeTaken_drive own).1

/-- The drive service's own request leaves its state and its attempts (R227, R233). -/
theorem State.drive_enterSafe_own (s : State) :
    (s.enterSafe true).drive.svc = s.drive.svc ∧ (s.enterSafe true).drive.attempts = s.drive.attempts := by
  have hends := driveFrame_endWindrel s
  rw [s.enterSafe_eq]
  split
  · exact ⟨hends.svc, hends.attempts⟩
  · obtain ⟨-, hsvc, hatt, -⟩ := s.endWindrel.safeTaken_drive true
    have hwake := driveFrame_disWake (s.endWindrel.safeTaken true)
    exact ⟨(hwake.svc.trans hsvc).trans hends.svc, (hwake.attempts.trans hatt).trans hends.attempts⟩

theorem driveYields_enterSafe (s : State) : DriveYields s s.enterSafe := by
  have hends := driveFrame_endWindrel s
  rw [s.enterSafe_eq]
  split
  · exact hends.yields
  · next hne =>
    obtain ⟨hdrv, hsvc, -, hrun⟩ := s.endWindrel.safeTaken_drive false
    have htaken : DriveYields s.endWindrel (s.endWindrel.safeTaken false) := ⟨.inr ⟨hne, hdrv, hsvc⟩, hrun⟩
    exact (hends.yields.trans htaken).trans (driveFrame_disWake _).yields

theorem driveFrame_raiseRecord (s : State) (x : Reaction) : DriveFrame s (s.raiseRecord x) :=
  driveFrame_ite (.refl s) ((driveFrame_record s _).trans (.of rfl rfl rfl))

theorem driveFrame_bstAbort (s : State) (k : Nat) : DriveFrame s (s.bstAbort k) := by
  unfold State.bstAbort
  split
  · refine driveFrame_ite ?_ (.refl s)
    extract_lets _ phase res
    have hphase : DriveFrame s phase := .of rfl rfl rfl
    have hres : DriveFrame s res := driveFrame_ite (hphase.w BST_RES0_RES _) (hphase.w BST_RES1_RES _)
    exact (driveFrame_ite (hres.w BST_STS_ABORTS _) hres).w BST_IRQ_EVT _
  · exact .refl s

theorem driveFrame_bstAbortAll (s : State) : DriveFrame s s.bstAbortAll := by
  unfold State.bstAbortAll
  generalize List.range 17 = l
  induction l generalizing s with
  | nil => exact .refl s
  | cons k l ih => exact (driveFrame_bstAbort s k).trans (ih _)

theorem driveFrame_buntingAbort (s : State) : DriveFrame s s.buntingAbort :=
  driveFrame_ite (((DriveFrame.refl s).w CLE_BSTS_STATE 3).w CLE_BSTS_ABORT 1) (.refl s)

theorem driveFrame_stopAxes (s : State) : DriveFrame s s.stopAxes := .of rfl rfl rfl

theorem driveYields_reactSteps (s : State) (x : Reaction) : DriveYields s (s.reactSteps x) := by
  have hstops : DriveYields s (((s.enterSafe).stopAxes).buntingAbort).bstAbortAll :=
    (driveYields_enterSafe s).trans
      (((driveFrame_stopAxes _).trans (driveFrame_buntingAbort _)).trans (driveFrame_bstAbortAll _)).yields
  have hrecord := hstops.trans (driveFrame_raiseRecord _ x).yields
  unfold State.reactSteps
  split
  · exact .refl s
  · split
    · exact hrecord.trans (driveFrame_disRequest _).yields
    · exact hrecord
    · exact (driveFrame_raiseRecord s x).yields

theorem driveYields_flt (s : State) (x : Flt) : DriveYields s { s with flt := x } :=
  DriveFrame.yields (.of rfl rfl rfl)

theorem driveYields_startReaction (s : State) (x : Reaction) : DriveYields s (s.startReaction x) :=
  (driveYields_reactSteps s x).trans (driveYields_flt _ _)

theorem driveYields_pumpReactions (n : Nat) (s : State) : DriveYields s (s.pumpReactions n) := by
  induction n generalizing s with
  | zero => exact .refl s
  | succ n ih =>
    unfold State.pumpReactions
    split
    · exact .refl s
    · split
      · exact .refl s
      · exact ((driveYields_flt s _).trans (driveYields_startReaction _ _)).trans (ih _)

theorem driveYields_submit (s : State) (x : Reaction) : DriveYields s (s.submit x).1 := by
  unfold State.submit
  split
  · exact (driveYields_startReaction s x).trans (driveYields_pumpReactions _ _)
  · split
    · exact ((driveYields_flt s _).trans (driveYields_startReaction _ x)).trans (driveYields_pumpReactions _ _)
    · split
      · exact driveYields_flt s _
      · exact .refl s

theorem driveFrame_raiseNoted (s : State) (id d : Nat) (c : FaultClass) : DriveFrame s (s.raiseNoted id d c) := by
  have hnote : DriveFrame s (s.noteRaise id d c) :=
    (((((DriveFrame.refl s).w FLT_LAST_ID _).w FLT_LAST_CLASS _).w FLT_LAST_DETAIL _).w FLT_LASTT_TICK _).trans
      (driveFrame_fltEvent _ _)
  have hcount : DriveFrame s ((s.noteRaise id d c).countOcc id) := hnote.trans (.of rfl rfl rfl)
  exact hcount.trans (driveFrame_ite ((driveFrame_endWindrel _).trans (driveFrame_bstAbortAll _)) (.refl _))

theorem driveYields_raiseCore (s : State) (id d : Nat) (c : FaultClass) : DriveYields s (s.raiseCore id d c).1 := by
  have hnoted := (driveFrame_raiseNoted s id d c).yields
  unfold State.raiseCore
  simp only
  split
  · exact (hnoted.trans (driveYields_flt _ _)).trans (driveYields_submit _ _)
  · split
    · exact (hnoted.trans (driveYields_flt _ _)).trans (driveFrame_raiseRecord _ _).yields
    · exact hnoted.trans (driveYields_flt _ _)

/-- What a raise does to the drive (R227, R405). -/
theorem driveYields_raise (s : State) (id d : Nat) : DriveYields s (s.raise id d) := by
  have hcore := (driveFrame_bstAbort s 1).yields.trans (driveYields_raiseCore (s.bstAbort 1) id d ((s.bstAbort 1).classOf id))
  unfold State.raise
  simp only
  split
  · exact hcore
  · have hovf := hcore.trans (((DriveFrame.refl _).w FLT_STS_OVF 1).trans (driveFrame_fltEvent _ 5)).yields
    split
    · exact hovf.trans (driveYields_raiseCore _ _ _ _)
    · exact (hovf.trans (driveYields_raiseCore _ _ _ _)).trans (driveYields_reactSteps _ _)

end Sys2Proof.Machine
end

section
/-!
The drive service's operations, and the statement about its states.
-/
namespace Sys2Proof.Machine

open Reg

/-! Writes of set-points (R203, R226). -/

theorem State.mem_rws (s : State) (f : Fld) (v : Nat) : (s.rws f v).mem = s.mem := by
  unfold State.rws
  split
  · rfl
  · split <;> rfl

theorem State.drive_rws (s : State) (f : Fld) (v : Nat) : (s.rws f v).drive = s.drive := by
  unfold State.rws
  split
  · rfl
  · split <;> rfl

/-- What a write of a set-point keeps: it goes to the shadow bank, or is held with LATE (R90, R92). -/
structure SetPointFrame (s u : State) : Prop where
  regs : ∀ f : Fld, f.key ≠ HOI_STS_LATE.key → u.r f = s.r f
  mem : u.mem = s.mem
  drive : u.drive = s.drive
  flt : u.flt = s.flt

theorem SetPointFrame.refl (s : State) : SetPointFrame s s := ⟨fun _ _ => rfl, rfl, rfl, rfl⟩

theorem SetPointFrame.trans {s u v : State} (h : SetPointFrame s u) (g : SetPointFrame u v) : SetPointFrame s v :=
  ⟨fun f hf => (g.regs f hf).trans (h.regs f hf), g.mem.trans h.mem, g.drive.trans h.drive, g.flt.trans h.flt⟩

theorem setPointFrame_rws (s : State) (n l v : Nat) : SetPointFrame s (s.rws (spFld n l) v) := by
  have hlevel : s.levelOf (spFld n l) = some (levelOfCode (s.r CLE_SPCFG_SPLV / 8 ^ n % 8)) := rfl
  unfold State.rws
  simp only [hlevel]
  split
  · exact ⟨fun f hf => s.r_w_other HOI_STS_LATE f 1 hf.symm, rfl, rfl, rfl⟩
  · exact ⟨fun _ _ => rfl, rfl, rfl, rfl⟩

theorem setPointFrame_putSp (s : State) (n : Nat) (x : Stage) : SetPointFrame s (s.putSp n x) := by
  have hlanes : SetPointFrame s ((List.range 8).foldl (fun s k => s.rws (spFld n k) (bitsOf 24 (x.lane k))) s) := by
    generalize List.range 8 = l
    induction l generalizing s with
    | nil => exact .refl s
    | cons k l ih => exact (setPointFrame_rws s n k _).trans (ih _)
  exact hlanes.trans (setPointFrame_rws _ n 8 _)

/-- The drive service takes note of the mode and lanes that it writes to SP5 (R226). -/
def State.modeNoted (s : State) (l : List Int) : State :=
  s.modDrive (fun d => { d with lanes := l, seq := (s.drive.seq + 1) % 65536 })

theorem setPointFrame_putMode (s : State) (mode m1 m2 m3 m4 m5 : Int) :
    SetPointFrame (s.modeNoted [mode * 64, m1, m2, m3, m4, m5]) (s.putMode mode m1 m2 m3 m4 m5) :=
  setPointFrame_putSp _ 5 _

/-! Entries into a state (R227). -/

/-- The drive service stands in a state from now on, in SP5's mode of that state. -/
def State.entered (s : State) (svc : DriveSvc) : State :=
  (s.modDrive (fun d => { d with svc := svc, since := some s.nowU, lock := 0, bad := 0 })).modeNoted [svc.mode * 64, 0, 0, 0, 0, 0]

theorem setPointFrame_driveGo (s : State) (svc : DriveSvc) : SetPointFrame (s.entered svc) (s.driveGo svc) :=
  setPointFrame_putMode _ svc.mode 0 0 0 0 0

theorem State.mem_driveGo (s : State) (svc : DriveSvc) : (s.driveGo svc).mem = s.mem := (setPointFrame_driveGo s svc).mem

theorem State.drive_driveGo (s : State) (svc : DriveSvc) : (s.driveGo svc).drive = (s.entered svc).drive :=
  (setPointFrame_driveGo s svc).drive

/-! The stage (R371). -/

theorem State.mem_askRun (s : State) : s.askRun.mem = s.mem := by
  unfold State.askRun
  split
  · rfl
  · split
    · exact State.mem_rws _ _ _
    · rfl

/-- A start of the stage leaves the drive service's state and SP5. -/
theorem State.drive_askRun (s : State) : s.askRun.drive.svc = s.drive.svc ∧ s.askRun.drive.lanes = s.drive.lanes := by
  unfold State.askRun
  split
  · exact ⟨rfl, rfl⟩
  · split
    · simp only [State.drive_rws]
      exact ⟨rfl, rfl⟩
    · exact ⟨rfl, rfl⟩

/-! What each move of the drive service leaves. -/

/-- CATCH, entered with the stage asked to run (R227). -/
theorem State.goCatch_spec (s : State) : s.goCatch.drive.svc = .catch ∧ s.goCatch.mem = s.mem := by
  unfold State.goCatch
  exact ⟨(State.drive_askRun _).1, State.mem_askRun _⟩

/-- SHORT, entered with the stage asked to run (R227). -/
theorem State.goShort_spec (s : State) :
    ((s.driveGo .short).askRun).drive.svc = .short ∧ ((s.driveGo .short).askRun).mem = s.mem :=
  ⟨(State.drive_askRun _).1.trans (congrArg Drive.svc (s.drive_driveGo .short)), (State.mem_askRun _).trans (s.mem_driveGo .short)⟩

/-- ALIGN writes mode 3 to SP5, in 1/64 (R226, R229). -/
theorem State.goAlign_spec (s : State) :
    s.goAlign.drive.svc = .align ∧ s.goAlign.drive.lanes.headD 0 = 192 ∧ s.goAlign.mem = s.mem := by
  unfold State.goAlign
  generalize hx : s.modDrive _ = x
  have hmode := setPointFrame_putMode x 3 0 0 s.alignCurrent 0 0
  obtain ⟨hsvc, hlanes⟩ := (x.putMode 3 0 0 s.alignCurrent 0 0).drive_askRun
  rw [hsvc, hlanes, State.mem_askRun, hmode.drive, hmode.mem, ← hx]
  exact ⟨rfl, rfl, rfl⟩

/-- RAMP writes mode 4 to SP5, in 1/64, and its time begins (R226, R230). -/
theorem State.goRamp_spec (s : State) (m5 : Int) : (s.goRamp m5).drive.svc = .ramp ∧ (s.goRamp m5).drive.lanes.headD 0 = 256 ∧
    (s.goRamp m5).drive.since = some s.nowU ∧ (s.goRamp m5).mem = s.mem := by
  unfold State.goRamp
  rw [(setPointFrame_putMode _ _ _ _ _ _ _).drive, (setPointFrame_putMode _ _ _ _ _ _ _).mem]
  exact ⟨rfl, rfl, rfl, rfl⟩

/-- MEAS waits for the L boundary at which its time begins (R228). -/
theorem State.goMeas_spec (s : State) (fromLost : Bool) : (s.goMeas fromLost).drive.svc = .meas ∧
    (s.goMeas fromLost).drive.since = none ∧ (s.goMeas fromLost).drive.fromLost = fromLost ∧
    (s.goMeas fromLost).mem = s.mem := by
  have hsvc : (s.driveGo .meas).drive.svc = .meas := congrArg Drive.svc (s.drive_driveGo .meas)
  have hmem := s.mem_driveGo .meas
  unfold State.goMeas
  generalize s.driveGo .meas = x at hsvc hmem
  exact ⟨hsvc, rfl, rfl, hmem⟩

/-- The stage is told to stop, and the try is counted (R231). -/
def State.tryCounted (s : State) : State := s.askIdle.modDrive (fun d => { d with tries := d.tries + 1 })

theorem State.r_run_tryCounted (s : State) : s.tryCounted.r PWM_CTRL_RUN = 0 :=
  s.r_w_self PWM_CTRL_RUN 0 (by decide) (by decide)

theorem State.failTry_retries (s : State) (h : s.drive.tries + 1 < s.fcStartN) : s.failTry = s.tryCounted.driveGo .retry :=
  if_neg (Nat.not_le.mpr h)

theorem State.failTry_last (s : State) (h : s.fcStartN ≤ s.drive.tries + 1) :
    s.failTry = (s.tryCounted.driveGo .idle).raise Fid.startFailed :=
  if_pos h

/-- A fault that the drive service raises as it goes to IDLE is active, and the drive service stays in IDLE, whatever the fault's
reaction is (R227, R404). -/
theorem State.driveGo_idle_raise (s : State) (id : Nat) (hid : id ∉ disClears) :
    let u := (s.driveGo .idle).raise id
    u.drive.svc = .idle ∧ u.hasFault id = true ∧ u.mem = s.mem ∧ (s.r PWM_CTRL_RUN = 0 → u.r PWM_CTRL_RUN = 0) :=
  have hyields := driveYields_raise (s.driveGo .idle) id 0
  ⟨hyields.idle (congrArg Drive.svc (s.drive_driveGo .idle)), hasFault_raise _ id 0 hid,
    (faultFrame_raise _ id 0).mem.trans (s.mem_driveGo .idle),
    fun hrun => hyields.run (((setPointFrame_driveGo s .idle).regs PWM_CTRL_RUN (by decide)).trans hrun)⟩

theorem State.noteLag_keeps (s : State) (n : Nat) :
    (s.noteLag n).mem = s.mem ∧ (s.noteLag n).drive = s.drive ∧ (s.noteLag n).flt = s.flt := by
  unfold State.noteLag
  extract_lets noted
  split <;> exact ⟨rfl, rfl, rfl⟩

/-- The count of a guarded write that passes touches neither memory nor the drive service nor a fault (R366). -/
theorem State.kernelWrote_keeps (s : State) :
    s.kernelWrote.mem = s.mem ∧ s.kernelWrote.drive = s.drive ∧ s.kernelWrote.flt = s.flt :=
  s.freeNat.2.noteLag_keeps (s.freeNat.1 % 2001)

/-- LOST as it is entered: the drive in SAFE, the attempts as they were, and no fault cleared but those of DIS (R232, R233). -/
structure LostFrom (s u : State) : Prop where
  svc : u.drive.svc = .lost
  drv : u.drv = .safe
  attempts : u.drive.attempts = s.drive.attempts
  active : KeepsActive s u
  mem : u.mem = s.mem

/-- With guarded writes passing, the drive service's request takes the safe state before LOST is entered. -/
theorem State.lostFrom_goLost (s : State) (h : s.kernelPasses = true) : LostFrom s s.goLost := by
  obtain ⟨hmem, hdrive, hflt⟩ := s.kernelWrote_keeps
  have hgsw : s.kernelGsw (fun s => s.enterSafe true) = s.kernelWrote.enterSafe true := if_pos h
  have hdrv := s.kernelWrote.drv_enterSafe true
  have hatt : (s.kernelWrote.enterSafe true).drive.attempts = s.drive.attempts :=
    s.kernelWrote.drive_enterSafe_own.2.trans (congrArg Drive.attempts hdrive)
  have hactive : KeepsActive s (s.kernelWrote.enterSafe true) :=
    (KeepsActive.of (congrArg Flt.active hflt)).trans (keepsActive_enterSafe s.kernelWrote true)
  have hsafeMem : (s.kernelWrote.enterSafe true).mem = s.mem := (faultFrame_enterSafe s.kernelWrote true).mem.trans hmem
  unfold State.goLost
  simp only [hgsw]
  generalize s.kernelWrote.enterSafe true = x at hdrv hatt hactive hsafeMem
  have hgo := setPointFrame_driveGo x .lost
  generalize x.driveGo .lost = y at hgo
  exact ⟨congrArg Drive.svc hgo.drive, (State.drv_of_r (hgo.regs SSS_STS_DSTATE (by decide))).trans hdrv,
    (congrArg Drive.attempts hgo.drive).trans hatt, hactive.trans (.of (congrArg Flt.active hgo.flt)), hgo.mem.trans hsafeMem⟩

/-- A failed attempt is counted in LOST; the fault of the last one finds the drive in SAFE and leaves both (R233). -/
theorem State.failAttempt_spec (s : State) (h : s.kernelPasses = true) : s.failAttempt.drive.svc = .lost ∧
    s.failAttempt.drive.attempts = s.drive.attempts + 1 ∧ s.failAttempt.drv = .safe ∧ s.failAttempt.mem = s.mem := by
  have hlost := s.lostFrom_goLost h
  unfold State.failAttempt
  generalize s.goLost = x at hlost
  extract_lets counted
  have hsvc : counted.drive.svc = .lost := hlost.svc
  have hatt : counted.drive.attempts = s.drive.attempts + 1 := congrArg (· + 1) hlost.attempts
  have hdrv : counted.drv = .safe := hlost.drv
  have hmem : counted.mem = s.mem := hlost.mem
  clear_value counted
  split
  · obtain ⟨hsafe, hsvcKept, hattKept⟩ := (driveYields_raise counted Fid.recatchFailed 0).safe hdrv
    exact ⟨hsvcKept.trans hsvc, hattKept.trans hatt, hsafe, (faultFrame_raise _ _ _).mem.trans hmem⟩
  · exact ⟨hsvc, hatt, hdrv, hmem⟩

/-! What the moves rest on, past the fault path. -/

theorem FaultFrame.angleValid {s u : State} (h : FaultFrame s u) : u.angleValid = s.angleValid := by
  rw [State.angleValid, State.angleValid, State.b, State.b, h.regs POS_ELANG_VALID (by decide)]

theorem FaultFrame.kernelPasses {s u : State} (h : FaultFrame s u) : u.kernelPasses = s.kernelPasses := by
  have hphase : u.cpm.phase = s.cpm.phase := (congrArg Cpm.phase h.cpm :)
  rw [State.kernelPasses, State.kernelPasses, h.regs CMP_STS_MIS (by decide), hphase]

/-- The clearing of a fault leaves the measured speed (R228). -/
theorem ClearFrame.measSpeed {s u : State} (h : ClearFrame s u) : u.measSpeed = s.measSpeed := by
  have hkeys : ∀ k : Fin 8, (CLE_MBOX_M 1 k.val).key ∉ clearFlds.map Fld.key := by decide
  have hmbox : u.mbox 1 = s.mbox 1 := by
    unfold State.mbox
    simp only [h.regs _ (hkeys _), h.regs (CLE_MBOX8_E 1) (by decide)]
  have hline : u.lineSq = s.lineSq := by
    unfold State.lineSq State.ri
    rw [h.regs (SDX_RES_VALUE 4) (by decide), h.regs (SDX_RES_VALUE 5) (by decide)]
  have hsafest : u.safest = s.safest := congrArg safeOf (h.regs SSS_STS_SAFEST (by decide))
  rw [State.measSpeed, State.measSpeed, State.obsSpeed, State.obsSpeed, hmbox, hline, hsafest]

theorem State.fc_of_drive {s u : State} (h : u.drive = s.drive) (item dflt : Nat) : u.fc item dflt = s.fc item dflt := by
  unfold State.fc
  rw [h]

/-- What MEAS finds at a start, past the clearing of its fault (R228, R239). -/
theorem State.measStart_eq {s x : State} (hclear : ClearFrame s x) (hdrive : x.drive = s.drive) : x.measStart =
    if (Frac.ofInt s.fcCatchThr).le s.measSpeed.abs then x.goCatch
    else if (Frac.ofInt s.fcStopThr).le s.measSpeed.abs then (x.driveGo .short).askRun else x.goAlign := by
  have hcatch : x.fcCatchThr = s.fcCatchThr := State.fc_of_drive hdrive 4 30
  have hstop : x.fcStopThr = s.fcStopThr := State.fc_of_drive hdrive 5 3
  unfold State.measStart
  simp only [hclear.measSpeed, hcatch, hstop]

/-! What each command answers, with its guard met. -/

section
variable {s : State} (t : Nat)

theorem exec_measEnd_start (h : (s.at t).lasted .meas (msU 2) = true) (hvalid : s.measValid = true)
    (hstart : s.drive.fromLost = false) :
    exec (.measEnd t) s = .next (s.after ((s.at t).autoClear Fid.catchMeas).measStart) := by
  have hfrom : ¬ ((s.at t).autoClear Fid.catchMeas).drive.fromLost = true := by
    rw [State.drive_autoClear]
    exact Bool.eq_false_iff.mp hstart
  exact congrArg (fun x => Host.Outcome.next (s.after x)) (((s.at t).when_true _ _ h).trans ((if_pos hvalid).trans (if_neg hfrom)))

theorem exec_measEnd_invalid (h : (s.at t).lasted .meas (msU 2) = true) (hvalid : s.measValid = false) :
    exec (.measEnd t) s = .next (s.after (((s.at t).driveGo .idle).raise Fid.catchMeas)) :=
  congrArg (fun x => Host.Outcome.next (s.after x))
    (((s.at t).when_true _ _ h).trans (if_neg (Bool.eq_false_iff.mp hvalid)))

theorem exec_alignEnd (h : (s.at t).lasted .align (msU s.fcAlignT) = true) :
    exec (.alignEnd t) s = .next (s.after ((s.at t).goRamp 0)) :=
  congrArg (fun x => Host.Outcome.next (s.after x)) ((s.at t).when_true _ _ h)

theorem exec_shortTimeout (h : (s.at t).lasted .short (msU s.fcShortTmax) = true) :
    exec (.shortTimeout t) s = .next (s.after (s.at t).failTry) :=
  congrArg (fun x => Host.Outcome.next (s.after x)) ((s.at t).when_true _ _ h)

theorem exec_startTimeout (h : (s.at t).lasted .ramp (msU s.fcStartT) = true) :
    exec (.startTimeout t) s = .next (s.after (s.at t).failTry) :=
  congrArg (fun x => Host.Outcome.next (s.after x)) ((s.at t).when_true _ _ h)

theorem exec_catchTimeout_start (h : (s.at t).lasted .catch (msU s.fcCatchT) = true) (hstart : s.drive.fromLost = false) :
    exec (.catchTimeout t) s = .next (s.after (s.at t).failTry) :=
  congrArg (fun x => Host.Outcome.next (s.after x))
    (((s.at t).when_true _ _ h).trans (if_neg (Bool.eq_false_iff.mp hstart)))

theorem exec_catchTimeout_lost (h : (s.at t).lasted .catch (msU s.fcCatchT) = true) (hlost : s.drive.fromLost = true) :
    exec (.catchTimeout t) s = .next (s.after (s.at t).failAttempt) :=
  congrArg (fun x => Host.Outcome.next (s.after x)) (((s.at t).when_true _ _ h).trans (if_pos hlost))

theorem exec_retryWaitEnd (h : (s.at t).lasted .retry (msU s.fcRetryWait) = true) :
    exec (.retryWaitEnd t) s = .next (s.after ((s.at t).goMeas false)) :=
  congrArg (fun x => Host.Outcome.next (s.after x)) ((s.at t).when_true _ _ h)

theorem exec_rotorLost (hawake : s.driveAwake = true) (hobs : s.drive.svc = .obs) (hbad : 3 ≤ s.drive.bad) :
    exec (.rotorLost t) s = .next (s.after (if s.angleValid then ((s.at t).raise Fid.rotorLost).driveGo .sens
      else ((s.at t).raise Fid.rotorLost).goLost)) := by
  have hangle : ((s.at t).raise Fid.rotorLost).angleValid = s.angleValid := (faultFrame_raise (s.at t) _ _).angleValid
  rw [← hangle]
  refine congrArg (fun x => Host.Outcome.next (s.after x)) ((s.at t).when_true _ _ ?_)
  simp only [Bool.and_eq_true, decide_eq_true_eq, beq_iff_eq]
  exact ⟨⟨hawake, hobs⟩, hbad⟩

theorem exec_recatchDelayEnd (hawake : s.driveAwake = true) (hlost : s.drive.svc = .lost)
    (hdelay : s.drive.lostAt + msU s.fcRecatchDelay ≤ (s.at t).nowU) (hleft : s.drive.attempts < s.fcRecatchN) :
    exec (.recatchDelayEnd t) s = .next (s.after ((s.at t).goMeas true)) := by
  refine congrArg (fun x => Host.Outcome.next (s.after x)) ((s.at t).when_true _ _ ?_)
  simp only [Bool.and_eq_true, decide_eq_true_eq, beq_iff_eq]
  exact ⟨⟨⟨hawake, hlost⟩, hdelay⟩, hleft⟩

theorem exec_recatchHoldEnd {a : Nat} (hawake : s.driveAwake = true) (hobs : s.drive.svc = .obs) (hfrom : s.drive.holdFrom = some a)
    (hhold : a + secU s.fcRecatchHold ≤ (s.at t).nowU) :
    exec (.recatchHoldEnd t) s = .next (s.after ((s.at t).modDrive (fun d => { d with attempts := 0 }))) := by
  refine congrArg (fun x => Host.Outcome.next (s.after x)) ((s.at t).when_true _ _ ?_)
  have hawakeAt : (s.at t).driveAwake = true := hawake
  have hholdAt : a + secU (s.at t).fcRecatchHold ≤ (s.at t).nowU := hhold
  simp [hawakeAt, hobs, hfrom, hholdAt]

end

/-- Settles O35: each timer's move by what it leaves of the drive service, of the fault path and of memory. A fault that goes with a
move finds the drive service in IDLE, or the drive in SAFE, and so leaves the state that the move has entered. -/
theorem driveServiceMovesByItsTimers : Obligations.DriveServiceMovesByItsTimers := by
  unfold Obligations.DriveServiceMovesByItsTimers
  intro s t
  refine ⟨fun hmeas => ⟨fun hvalid hstart => ?measured, fun hvalid => ?invalid⟩, fun halign => ?aligned,
    fun c svc lim hc hlasted => ?failed, fun hretry => ?retried, fun hawake hobs hbad hpass => ?lost,
    fun hawake hlost hdelay hleft => ?remeasured, fun hcatch hlost _ hpass => ?recatch,
    fun a hawake hobs hfrom hhold => ?held⟩
  case measured =>
    have hexec := exec_measEnd_start t hmeas hvalid hstart
    have hcleared : ((s.at t).autoClear Fid.catchMeas).mem = s.mem := (faultFrame_autoClear (s.at t) Fid.catchMeas 0).mem
    have hat : ClearFrame s (s.at t) := ⟨fun _ _ => rfl, rfl⟩
    rw [State.measStart_eq (hat.trans (clearFrame_autoClear _ _ _)) (State.drive_autoClear (s.at t) _ _)] at hexec
    generalize (s.at t).autoClear Fid.catchMeas = x at hexec hcleared
    refine ⟨fun hcatch => ?_, fun hslow hturns => ?_, fun hslow hstill => ?_⟩
    · rw [if_pos hcatch] at hexec
      obtain ⟨hsvc, hmem⟩ := x.goCatch_spec
      generalize x.goCatch = v at hexec hsvc hmem
      exact ⟨_, hexec, hsvc, State.keepsMem_after (hmem.trans hcleared)⟩
    · rw [if_neg (Bool.eq_false_iff.mp hslow), if_pos hturns] at hexec
      obtain ⟨hsvc, hmem⟩ := x.goShort_spec
      generalize (x.driveGo .short).askRun = v at hexec hsvc hmem
      exact ⟨_, hexec, hsvc, State.keepsMem_after (hmem.trans hcleared)⟩
    · rw [if_neg (Bool.eq_false_iff.mp hslow), if_neg (Bool.eq_false_iff.mp hstill)] at hexec
      obtain ⟨hsvc, hmode, hmem⟩ := x.goAlign_spec
      generalize x.goAlign = v at hexec hsvc hmode hmem
      exact ⟨_, hexec, hsvc, hmode, State.keepsMem_after (hmem.trans hcleared)⟩
  case invalid =>
    have hexec := exec_measEnd_invalid t hmeas hvalid
    obtain ⟨hidle, hactive, hmem, -⟩ := (s.at t).driveGo_idle_raise Fid.catchMeas (by decide)
    generalize ((s.at t).driveGo .idle).raise Fid.catchMeas = v at hexec hidle hactive hmem
    exact ⟨_, hexec, hidle, hactive, State.keepsMem_after hmem⟩
  case aligned =>
    have hexec := exec_alignEnd t halign
    obtain ⟨hsvc, hmode, hsince, hmem⟩ := (s.at t).goRamp_spec 0
    generalize (s.at t).goRamp 0 = v at hexec hsvc hmode hsince hmem
    exact ⟨_, hexec, hsvc, hmode, hsince, State.keepsMem_after hmem⟩
  case failed =>
    have hexec : exec c s = .next (s.after (s.at t).failTry) := by
      rcases hc with ⟨rfl, rfl, rfl⟩ | ⟨rfl, rfl, rfl⟩ | ⟨rfl, rfl, rfl, hstart⟩
      · exact exec_shortTimeout t hlasted
      · exact exec_startTimeout t hlasted
      · exact exec_catchTimeout_start t hlasted hstart
    have hstopped := (s.at t).r_run_tryCounted
    have runs_false {u : State} (h : u.r PWM_CTRL_RUN = 0) : u.b PWM_CTRL_RUN = false := by simp [State.b, h]
    refine ⟨fun hmore => ?_, fun hlast => ?_⟩
    · rw [(s.at t).failTry_retries hmore] at hexec
      have hgo := setPointFrame_driveGo (s.at t).tryCounted .retry
      generalize (s.at t).tryCounted.driveGo .retry = v at hexec hgo
      exact ⟨_, hexec, congrArg Drive.svc hgo.drive, congrArg Drive.tries hgo.drive,
        runs_false ((hgo.regs PWM_CTRL_RUN (by decide)).trans hstopped), State.keepsMem_after hgo.mem⟩
    · rw [(s.at t).failTry_last hlast] at hexec
      obtain ⟨hidle, hactive, hmem, hrun⟩ := (s.at t).tryCounted.driveGo_idle_raise Fid.startFailed (by decide)
      generalize State.raise _ _ = v at hexec hidle hactive hmem hrun
      exact ⟨_, hexec, hidle, hactive, runs_false (hrun hstopped), State.keepsMem_after hmem⟩
  case retried =>
    have hexec := exec_retryWaitEnd t hretry
    obtain ⟨hsvc, hsince, hfrom, hmem⟩ := (s.at t).goMeas_spec false
    generalize (s.at t).goMeas false = v at hexec hsvc hsince hfrom hmem
    exact ⟨_, hexec, hsvc, hsince, hfrom, State.keepsMem_after hmem⟩
  case lost =>
    have hexec := exec_rotorLost t hawake hobs hbad
    have hraised := faultFrame_raise (s.at t) Fid.rotorLost 0
    have hactive := hasFault_raise (s.at t) Fid.rotorLost 0 (by decide)
    generalize (s.at t).raise Fid.rotorLost = x at hexec hraised hactive
    refine ⟨fun hangle => ?_, fun hangle => ?_⟩
    · rw [if_pos hangle] at hexec
      have hgo := setPointFrame_driveGo x .sens
      generalize x.driveGo .sens = v at hexec hgo
      exact ⟨_, hexec, congrArg Drive.svc hgo.drive, KeepsActive.of (congrArg Flt.active hgo.flt) _ (by decide) hactive,
        State.keepsMem_after (hgo.mem.trans hraised.mem)⟩
    · rw [if_neg (Bool.eq_false_iff.mp hangle)] at hexec
      have hlost := x.lostFrom_goLost (hraised.kernelPasses.trans hpass)
      generalize x.goLost = v at hexec hlost
      exact ⟨_, hexec, hlost.svc, hlost.drv, hlost.active _ (by decide) hactive, State.keepsMem_after (hlost.mem.trans hraised.mem)⟩
  case remeasured =>
    have hexec := exec_recatchDelayEnd t hawake hlost hdelay hleft
    obtain ⟨hsvc, -, hfrom, hmem⟩ := (s.at t).goMeas_spec true
    generalize (s.at t).goMeas true = v at hexec hsvc hfrom hmem
    exact ⟨_, hexec, hsvc, hfrom, State.keepsMem_after hmem⟩
  case recatch =>
    have hexec := exec_catchTimeout_lost t hcatch hlost
    obtain ⟨hsvc, hatt, hdrv, hmem⟩ := (s.at t).failAttempt_spec hpass
    generalize (s.at t).failAttempt = v at hexec hsvc hatt hdrv hmem
    exact ⟨_, hexec, hsvc, hatt, hdrv, State.keepsMem_after hmem⟩
  case held =>
    exact ⟨_, exec_recatchHoldEnd t hawake hobs hfrom hhold, rfl, State.keepsRegs_after rfl [], State.keepsMem_after rfl⟩

end Sys2Proof.Machine
end
